-- ==== Sys2Proof/Word.lean ====
section
/-! DEFINITION. The byte, and the unit numbers of R7: every object, pin, record and frame uses them. -/

namespace Sys2Proof

/-- One byte of DDR5, of a mailbox record or of a link payload (R8, R19). -/
abbrev Byte := BitVec 8

/-- Lanes 0–511 (R7). -/
abbrev Lane := Fin 512
/-- Strips 0–63; lane `n` lies in strip `n / 8` (R7). -/
abbrev Strip := Fin 64
/-- Tiles 0–15; lane `n` lies in tile `n / 32` (R7). -/
abbrev Tile := Fin 16
/-- Read-out inputs 0–63; input `m` lies in tile `m / 4` (R7). -/
abbrev Input := Fin 64
/-- Demodulation slots 0–1023; slot `s` belongs to input `s / 16` (R7). -/
abbrev Slot := Fin 1024
/-- Event channels 0–127 (chapter 17). -/
abbrev Chan := Fin 128
/-- Gargor ports 0–3 (chapter 16). -/
abbrev Port := Fin 4
/-- PCI Express functions: 0 is PF0, `n` is VF`n` (R354). -/
abbrev Fn := Fin 9
/-- Partitions 0–8 (chapter 2). -/
abbrev Part := Fin 9

end Sys2Proof
end

