-- ==== Sys2Proof/Syntax.lean ====
section
/-! DEFINITION. The commands of the block: one constructor per row of spec/opcode_table.json, with its operands.
The first operand `t` of every command is the grid time, in ticks, at which it comes about (log entry 1). -/

namespace Sys2Proof

/-- The 14 paths to the dictionary (Table 2-6). `vf n` is the mailbox of VF `n + 1`. -/
inductive Path where
  | pf0
  | vf (n : Fin 8)
  | can
  | gargor (p : Port)
deriving DecidableEq, Repr

/-- A request record (R48). The Length field is `data.length`; Operation is the command that serves it. -/
structure Request where
  tag : Nat
  index : Nat
  sub : Nat
  typ : Nat
  data : List Byte
deriving DecidableEq, Repr

/-- What a write into the converter die carries (R91, R126, R158). -/
inductive ArriveKind where
  | granule | marker | acquire | bias | frame
deriving DecidableEq, Repr

/-- One entry of a received verdict frame (Table 16-5). -/
structure VerdictEntry where
  fabricId : Nat
  void : Bool
  value : Nat
deriving DecidableEq, Repr

/-- A time or epoch message body (Table 3-4). `seconds` and `nanos` are bytes 32–37 and 38–41. -/
structure TimeBody where
  kind : Nat
  msgType : Nat
  domain : Nat
  flags : Nat
  correction : Int
  clockIdentity : Nat
  portNumber : Nat
  sequenceId : Nat
  logInterval : Int
  seconds : Nat
  nanos : Nat
  reqClockIdentity : Nat
  reqPortNumber : Nat
deriving DecidableEq, Repr

/-- A strip engine or a tile engine. -/
inductive EngineUnit where
  | strip (k : Strip)
  | tile (k : Tile)
deriving DecidableEq, Repr

/-- What went wrong in an engine that executed a word (R454, R456). -/
inductive EngineError where
  /-- The micro-store line and the nano word it read at a micro-address. -/
  | fetch (address line nano : Nat)
  /-- The step after the word at a micro-address: its condition, its dispatch value, and the micro-stack. -/
  | sequence (address : Nat) (cond : Bool) (dispatch : Nat) (stack : List Nat)
  /-- The step of the strip's user routine. -/
  | user
deriving DecidableEq, Repr

/-- An engine and what went wrong in it. -/
structure EngineFault where
  unit : EngineUnit
  error : EngineError
deriving DecidableEq, Repr

/-- A read of a function's BAR0 (R356, Table 15-2): byte offset and size. -/
structure Bar0Read where
  fn : Fn
  offset : Nat
  bytes : Nat
deriving DecidableEq, Repr

/-- An access to a ring's window in BAR4 (R356, Table 15-4), by byte offset in the window and size. -/
inductive RingAccess where
  | write (offset bytes value : Nat)
  | read (offset bytes : Nat)
deriving DecidableEq, Repr

/-- A write to an entry of a function's MSI-X table (Table 15-2): vector, byte offset in the entry, size and value. -/
structure MsixWrite where
  vector : Fin 64
  offset : Nat
  bytes : Nat
  value : Nat
deriving DecidableEq, Repr

/-- An access of the host to the configuration space (Table 15-1). -/
inductive ConfigAccess where
  /-- SR-IOV NumVFs and VF Enable in PF0 (R354). -/
  | setVfs (numVfs : Nat)
  /-- The address of BAR0, BAR2 or BAR4 of a function. -/
  | setBar (fn : Fn) (bar : Fin 3) (address : Nat)
  /-- The identity and the BAR assignments of a function. -/
  | read (fn : Fn)
deriving DecidableEq, Repr

/-- The object a USDO request names, and the COB-ID that carries it (Table 15-8). -/
structure UsdoObject where
  cobId : Nat
  index : Nat
deriving DecidableEq, Repr

/-- What the error code finds in the burst a DDR5 transaction moves (R306, R323). -/
inductive EccOutcome where
  | clean | corrected | retried | uncorrectable
deriving DecidableEq, Repr

/-- The fields of a Capability block (Table 16-8). -/
structure CapabilityBlock where
  version : Nat
  maxRate : Nat
  ack : Bool
  rest : Bool
  serial : Nat
deriving DecidableEq, Repr

/-- The fields of a Training block (Table 16-9): requests and status are (pre, main, post). -/
structure TrainingBlock where
  rate : Nat
  reqPre : Nat
  reqMain : Nat
  reqPost : Nat
  ready : Bool
  statPre : Nat
  statMain : Nat
  statPost : Nat
  margin : Nat
deriving DecidableEq, Repr

/-- The payload of an event or notice frame (Table 16-6). -/
structure EventFrame where
  kind : Nat
  line : Nat
  void : Bool
  aligned : Bool
  ps : Nat
  time : Nat
deriving DecidableEq, Repr

/-- What makes an active port retrain (R396). -/
inductive RetrainCause where
  | lowMargin | missedMarkers
  /-- 16 header errors within 1 ms, so many of them not yet counted with a frame. -/
  | headerErrors (uncounted : Nat)
deriving DecidableEq, Repr

/-- A block as a receiver takes it from a lane, in the order of R374: a data or control block with its descrambled payload, or one whose
header is invalid (R373). -/
inductive RxBlock where
  | data (payload : List Byte)
  | control (payload : List Byte)
  | invalid
deriving DecidableEq, Repr

/-- What a receiver takes where a fault lies on frames (R380, R382): the blocks from the Start block of the first of them, and the sequence
numbers, by class, with which the next frames come. -/
structure FaultyFrames where
  blocks : List RxBlock
  next : List (Nat × Nat)
deriving DecidableEq, Repr

/-- The parity a Marker block brings and the one its lane's receiver has computed (R375). -/
structure MarkerParity where
  bip : Nat
  computed : Nat
deriving DecidableEq, Repr

/-- A calibration tap (Table 18-2): the item, the unit the value belongs to, and which of its values.
Item 0: unit is a lane, value 0 output delay, 1 DAC gain, 2 DAC offset. Item 1: unit is an input, value `j` the timing
and `8 + j` the gain of sub-converter `j`. Item 2: unit is a TRIG input, value `b` the width of bin `b` (no tap).
Item 3: unit is a bias output, value 0 offset, 1 gain. Item 4: unit is a converter die, value 0 its delay. -/
structure TapId where
  item : Fin 5
  unit : Nat
  value : Nat
deriving DecidableEq, Repr

/-- The commands of the block (spec/opcode_table.json). -/
inductive Instr where
  /-- READ (R22). Mailbox read operation (0x01) returns an object's current or active value, or an abort code. -/
  | read (t : Nat) (path : Path) (req : Request)
  /-- WRITE (R22). Mailbox write operation (0x02) to an object with no row of its own: type, length, reserved-bit, access and partition checks, then stage or apply. -/
  | write (t : Nat) (path : Path) (req : Request)
  /-- READ_STAGED (R491). Read-staged operation (0x03) returns an RWC or CNT object's staging-buffer entry. -/
  | readStaged (t : Nat) (path : Path) (req : Request)
  /-- READ_GROUP (R35). Read-group operation (0x04) returns every field of a group as it stood at one instant. -/
  | readGroup (t : Nat) (path : Path) (req : Request)
  /-- DESCRIBE (R50). Describe operation (0x05) returns type, access code, allowed boundaries, commit object and default. -/
  | describe (t : Nat) (path : Path) (req : Request)
  /-- MAILBOX_DOORBELL (R357). A doorbell write submits the request in the BAR0 request buffer on that path. -/
  | mailboxDoorbell (t : Nat) (fn : Fn) (record : List Byte)
  /-- MAILBOX_STATUS_READ (R356). A read of the mailbox status that returns 2 returns the mailbox to idle. -/
  | mailboxStatusRead (t : Nat) (read : Bar0Read)
  /-- USDO_UPLOAD (R54). A CAN USDO upload is served as a read, expedited or segmented. -/
  | usdoUpload (t : Nat) (object : UsdoObject) (sub : Nat) (complete : Bool)
  /-- USDO_DOWNLOAD (R54). A CAN USDO download is served as a write, limited by DevCanWriteMask. -/
  | usdoDownload (t : Nat) (object : UsdoObject) (sub : Nat) (data : List Byte) (complete : Bool)
  /-- USDO_BLOCK_TRANSFER (R368). A USDO block transfer request is answered with abort 0x05040001. -/
  | usdoBlockTransfer (t : Nat) (object : UsdoObject) (sub : Nat)
  /-- USDO_SEGMENT_TIMEOUT (R369). A segmented transfer that receives no segment for 1 s ends with abort 0x05040001. -/
  | usdoSegmentTimeout (t : Nat)
  /-- COMMIT_CANCEL (R33). A commit write with boundary 0b00 cancels the staged values and any pending commit. -/
  | commitCancel (t : Nat) (path : Path) (index : Nat) (sub : Nat) (force : Bool)
  /-- COMMIT_IMMEDIATE_IF_IDLE (R29). A commit write with boundary 0b01 checks the group and takes effect at once if the unit is idle; otherwise it is refused. -/
  | commitImmediateIfIdle (t : Nat) (path : Path) (index : Nat) (sub : Nat) (force : Bool)
  /-- COMMIT_NEXT_SEGMENT_END (R29). A commit write with boundary 0b10 is latched for the end of the lane's next segment whose headland cutoff follows it. -/
  | commitNextSegmentEnd (t : Nat) (path : Path) (index : Nat) (sub : Nat) (force : Bool)
  /-- COMMIT_NEXT_SHOT_BOUNDARY (R29). A commit write with boundary 0b11 is latched for the next shot boundary, holding shot groups in scope as R30 states. -/
  | commitNextShotBoundary (t : Nat) (path : Path) (index : Nat) (sub : Nat) (force : Bool)
  /-- COMMIT_TAKE_EFFECT (R31). A pending commit reaches its boundary, or a deferred commit its later boundary, and the staging buffer is applied in one step. -/
  | commitTakeEffect (t : Nat) (index : Nat) (sub : Nat) (burnOk : Bool)
  /-- COMMIT_LOAD_COMPLETE (R490). The load or bushel clearing a pending commit waits on completes, and the commit takes effect and releases held lanes. -/
  | commitLoadComplete (t : Nat) (index : Nat) (sub : Nat) (memOk : Bool)
  /-- NV_FLASH_WRITE (R41). The coalesced flash write of NV values completes within 100 ms with CRC and wear accounting. -/
  | nvFlashWrite (t : Nat)
  /-- DEV_RF_ENABLE_SET (R476). A write of DevRfEnable = 1 lets furrows release granules if DevState and every BiasState allow it. -/
  | devRfEnableSet (t : Nat) (path : Path)
  /-- DEV_RF_ENABLE_CLEAR (R60). A write of DevRfEnable = 0 mutes every AOUT, stops every drill, squashes entries and spoils shots with reason stopped. -/
  | devRfEnableClear (t : Nat) (path : Path)
  /-- LANE_RUN (R139). A write of LaneRun = 1 starts the lane's drill at its program entry. -/
  | laneRun (t : Nat) (path : Path) (lane : Lane)
  /-- LANE_STOP_AT_BOUNDARY (R139). A write of LaneRun = 2 stops the lane at its next shot boundary. -/
  | laneStopAtBoundary (t : Nat) (path : Path) (lane : Lane)
  /-- LANE_STOP (R139). A write of LaneRun = 0 stops the drill now, mutes at the next granule and spoils the shot with reason stopped. -/
  | laneStop (t : Nat) (path : Path) (lane : Lane)
  /-- NOP (R118). The nop instruction does nothing. -/
  | nop (t : Nat) (lane : Lane)
  /-- HALT (R116). The halt instruction stops the drill and removes the lane from its shot group. -/
  | halt (t : Nat) (lane : Lane)
  /-- SHOT_BEGIN (R113). The shot.begin instruction waits at the group's join and fixes the shot origin by follow, event or period mode. -/
  | shotBegin (t : Nat) (lane : Lane)
  /-- SHOT_JOIN (R115). Every counted member reaches shot.begin, and the shot begins for the group with one number and one origin. -/
  | shotJoin (t : Nat) (group : Fin 576)
  /-- SHOT_END (R115). The shot.end instruction ends the lane's part of the shot, empties its latches and disarms its watch. -/
  | shotEnd (t : Nat) (lane : Lane)
  /-- PLAY (R120). The play instruction issues the waveform's granules stamped from the cursor and advances busy-until and the cursor. -/
  | play (t : Nat) (lane : Lane)
  /-- PLAY_ALT_OPEN (R215). A play.alt that opens a slot begins an alternate group, reserves energy and asks for a Verdict Pending Table entry. -/
  | playAltOpen (t : Nat) (lane : Lane)
  /-- PLAY_ALT_CLOSE (R121). A play.alt that closes the group sets the cursor and busy-until to release plus the longer slot. -/
  | playAltClose (t : Nat) (lane : Lane)
  /-- WAIT (R118). The wait instruction advances the cursor by its count, with an optional segment start and marker. -/
  | wait (t : Nat) (lane : Lane)
  /-- AT (R123). The at instruction sets the cursor to its value. -/
  | atCursor (t : Nat) (lane : Lane)
  /-- LOOP (R127). The loop instruction pushes a loop level or skips the body for a count of 0. -/
  | loop (t : Nat) (lane : Lane)
  /-- ENDLOOP (R127). The endloop instruction decrements the count and repeats the body or pops the level. -/
  | endloop (t : Nat) (lane : Lane)
  /-- CALL (R127). The call instruction pushes a return address and jumps to the target. -/
  | call (t : Nat) (lane : Lane)
  /-- RET (R127). The ret instruction pops the return address. -/
  | ret (t : Nat) (lane : Lane)
  /-- JUMP (R127). The jump instruction pops the named loop levels and continues at the target. -/
  | jump (t : Nat) (lane : Lane)
  /-- BRANCH (R128). The branch instruction evaluates its condition on a verdict, cell bit, code, event latch or timeout flag, waiting or speculating as its kind requires. -/
  | branch (t : Nat) (lane : Lane)
  /-- BRANCH_RESOLVE (R213). The final item a non-speculative branch waits for arrives, and the drill continues on the chosen path with an urgent granule. -/
  | branchResolve (t : Nat) (lane : Lane)
  /-- BRANCH_VERDICT_MISSING (R213). Grid time reaches the branch's time with no final item, so the condition is void and the lane mutes with reason verdict missing. -/
  | branchVerdictMissing (t : Nat) (lane : Lane)
  /-- SPEC_BRANCH_RESOLVE (R218). The final item of a speculative branch confirms the shadow state or squashes it and resumes from the branch. -/
  | specBranchResolve (t : Nat) (lane : Lane)
  /-- BRANCH_WATCH (R134). The branch.watch instruction arms the lane's one watch on an event channel. -/
  | branchWatch (t : Nat) (lane : Lane)
  /-- FRAME_FREQ (R157). The frame.freq instruction makes a frame record that sets a frame's frequency word at the cursor time. -/
  | frameFreq (t : Nat) (lane : Lane)
  /-- FRAME_PHASE (R157). The frame.phase instruction makes a frame record that sets or adds to a frame's phase offset. -/
  | framePhase (t : Nat) (lane : Lane)
  /-- FRAME_ORIGIN (R157). The frame.origin instruction makes a frame record that sets a frame's origin to cursor time plus offset. -/
  | frameOrigin (t : Nat) (lane : Lane)
  /-- MARK (R125). The mark instruction requests a MARK edge or an event firing at cursor plus offset. -/
  | mark (t : Nat) (lane : Lane)
  /-- ACQUIRE (R126). The acquire instruction requests read-out windows on the named slots of an input at cursor plus offset. -/
  | acquire (t : Nat) (lane : Lane)
  /-- BIAS (R258). The bias instruction requests a new target for the lane's own bias output at the cursor time. -/
  | bias (t : Nat) (lane : Lane)
  /-- SYNC (R136). The sync instruction waits for an event latch and sets the cursor from the event time plus the gap. -/
  | sync (t : Nat) (lane : Lane)
  /-- SYNC_TIMEOUT (R136). Grid time passes a sync's limit with the latch empty: the timeout flag is set and the cursor advances. -/
  | syncTimeout (t : Nat) (lane : Lane)
  /-- SEG (R168). The seg instruction hands the lane to the segment-table micro-routine until the table ends. -/
  | seg (t : Nat) (lane : Lane)
  /-- ISSUE_GRANT (R98). The strip engine grants its issue port to an urgent or least-lead granule, which is energy-checked and sent to the furrow. -/
  | issueGrant (t : Nat) (strip : Strip) (dupOk : Bool)
  /-- GRANULE_ARRIVE (R91). A granule, marker, acquire or bias request is written into the furrow and judged on time or late. -/
  | granuleArrive (t : Nat) (lane : Lane) (kind : ArriveKind)
  /-- GRANULE_RELEASE (R89). At its release tick the furrow releases its head entry to the interpolation chain. -/
  | granuleRelease (t : Nat) (lane : Lane)
  /-- ENERGY_INTERVAL_SUM (R245). A converter die's 64-tick release sum reaches the governor and is charged to lane and stage accumulators. -/
  | energyIntervalSum (t : Nat) (lane : Lane) (checkOk : Bool)
  /-- FRAME_RECORD_APPLY (R157). A frame record reaches its effect time or release tick and is applied to the frame registers. -/
  | frameRecordApply (t : Nat) (lane : Lane)
  /-- MARKER_RELEASE (R163). A marker request reaches its stamp and drives its MARK edge at the ball. -/
  | markerRelease (t : Nat) (lane : Lane)
  /-- WINDOW_OPEN (R182). At its start tick a window opens on a slot and latches the slot and zone values. -/
  | windowOpen (t : Nat) (slot : Slot) (history : List Int)
  /-- WINDOW_CHECKPOINT (R193). Every fifth window sample the slot compares its running point with the margin and may issue a provisional verdict. -/
  | windowCheckpoint (t : Nat) (slot : Slot) (adc : List Int)
  /-- FINAL_VERDICT (R195). A window's final verdict reaches the verdict fabric 140 ticks after its end. -/
  | finalVerdict (t : Nat) (slot : Slot) (adc : List Int)
  /-- SLOT_VOID_VERDICT (R186). A window that never runs (slot disabled, reference lost, conflict) gives a void verdict at S + 140 ticks. -/
  | slotVoidVerdict (t : Nat) (slot : Slot)
  /-- VPT_STAGED (R222). The last granule of an alternate slot's content is written and interpolated, and the entry becomes staged. -/
  | vptStaged (t : Nat) (entry : Slot)
  /-- VPT_FINAL_ITEM (R222). A final item on the fast verdict wires confirms, squashes or voids the entries that wait on it. -/
  | vptFinalItem (t : Nat) (item : Fin 1284)
  /-- STRICT_ALT_RESOLVE (R214). The final item of a strict-mode play.alt arrives and the drill issues the chosen slot's granules as urgent granules. -/
  | strictAltResolve (t : Nat) (lane : Lane)
  /-- ALT_RELEASE (R215). At an alternate's release tick the selected slot plays, or an unselected entry ends as unconfirmable. -/
  | altRelease (t : Nat) (lane : Lane)
  /-- ALT_SPAN_END (R222). The last sample of a released alternate span leaves, and the slot and entry are freed. -/
  | altSpanEnd (t : Nat) (lane : Lane) (altSlot : Fin 2)
  /-- GG_VERDICT_FRAME_RECEIVE (R233). A received verdict frame is matched against remote registers and accepted as final items or discarded. -/
  | ggVerdictFrameReceive (t : Nat) (port : Port) (windowEnd : Nat) (shot : Nat) (entries : List VerdictEntry)
  /-- BIAS_TARGET_EFFECT (R258). A bias request reaches its stamp and its target becomes the one in force. -/
  | biasTargetEffect (t : Nat) (lane : Lane)
  /-- BIAS_STEP_INSTANT (R260). At a step instant the slew limiter moves the bias code one step toward the target. -/
  | biasStepInstant (t : Nat) (lane : Lane)
  /-- BIAS_TRACKING_FAIL (R267). An output differs from its commanded voltage by over 50 mV for 100 µs, raising the Grave tracking fault. -/
  | biasTrackingFail (t : Nat) (lane : Lane) (errorMicrovolt : Int)
  /-- MON_TRIGGER (R274). A trigger at the monitor starts the next entry, is held one deep, or is dropped as an overrun. -/
  | monTrigger (t : Nat)
  /-- MON_RESTART (R275). A write of 1 to MonRestart makes entry 0 the next conversion once the running one ends. -/
  | monRestart (t : Nat) (path : Path)
  /-- MON_SETTLE_END (R270). 50 µs of settling end and integration of the entry's channel begins. -/
  | monSettleEnd (t : Nat)
  /-- MON_RESULT (R277). An integration window ends and its result goes to the entry's register, with event and gleaner record if due. -/
  | monResult (t : Nat) (value : Int)
  /-- MON_SPARE_CALIBRATED (R278). The spare slice finishes its background calibration against zero and the references. -/
  | monSpareCalibrated (t : Nat)
  /-- MON_ROTATION (R278). Every MonRotatePeriod the calibrated spare replaces the active slice with the oldest calibration. -/
  | monRotation (t : Nat)
  /-- MON_DIODE_READING (R279). The spare slice delivers a die diode reading to the thermal model. -/
  | monDiodeReading (t : Nat) (node : Fin 17) (deltaVbe : Nat)
  /-- REF_EDGES_MISSING (R63). No reference rising edge arrives for 40 ns, so the reference is declared lost. -/
  | refEdgesMissing (t : Nat) (lastEdge : Nat)
  /-- REF_FREQUENCY_GATE (R63). A 1 ms gate measures the reference against the oscillator and may declare it lost. -/
  | refFrequencyGate (t : Nat) (errorPpb : Int) (lastEdge : Nat)
  /-- REF_RETURN (R64). The reference stays within the window for 1 ms after loss and TimeRefState becomes 3. -/
  | refReturn (t : Nat)
  /-- EPOCH_EXCHANGE_START (R66). A follower whose epoch port reaches the trained state starts the 16 epoch exchanges. -/
  | epochExchangeStart (t : Nat) (g1 : Nat)
  /-- EPOCH_REQUEST_RECEIVE (R66). An epoch master receives an epoch request and sends an epoch reply with its stamps. -/
  | epochRequestReceive (t : Nat) (port : Port) (body : TimeBody) (g2 : Nat) (g3 : Nat)
  /-- EPOCH_REPLY_RECEIVE (R67). A follower receives an epoch reply and records one exchange's delay and offset. -/
  | epochReplyReceive (t : Nat) (port : Port) (body : TimeBody) (g4 : Nat) (next : Nat)
  /-- EPOCH_ALIGN (R68). With RF disabled and no drill running, the follower adds the offset to its grid count at a reference edge. -/
  | epochAlign (t : Nat)
  /-- EPOCH_DELAY_LINE_STEP (R68). The epoch delay lines move one 0.25 ps step, at most one per 1 µs, toward their setting. -/
  | epochDelayLineStep (t : Nat)
  /-- EPOCH_RETRY (R67). One second after a refused alignment the follower repeats the exchange. -/
  | epochRetry (t : Nat) (g1 : Nat)
  /-- TIME_WALL_SET (R74). A write to TimeWallSet steps wall time and increments TimeStepCount. -/
  | timeWallSet (t : Nat) (path : Path) (value : Nat)
  /-- TIME_SNAPSHOT (R85). A write of 1 to TimeSnapshot latches a grid and wall time pair for the writing path. -/
  | timeSnapshot (t : Nat) (path : Path) (value : Nat)
  /-- FALLBACK_MEASURE (R75). Each second with auto set and the reference present, the device measures the oscillator and writes the fallback increment. -/
  | fallbackMeasure (t : Nat) (cycles : Nat)
  /-- SYNC_SEND (R79). A master port sends a one-step Sync at its interval. -/
  | syncSend (t : Nat) (port : Port) (egress : Nat)
  /-- DELAY_REQ_SEND (R79). A slave port sends a Delay_Req at its interval under end-to-end delay. -/
  | delayReqSend (t : Nat) (port : Port) (egress : Nat)
  /-- PDELAY_REQ_SEND (R79). A port sends a Pdelay_Req at its interval under peer-to-peer delay. -/
  | pdelayReqSend (t : Nat) (port : Port) (egress : Nat)
  /-- SYNC_RECEIVE (R80). A slave or transparent port receives a Sync, computing the offset or forwarding it. -/
  | syncReceive (t : Nat) (port : Port) (body : TimeBody) (ingress : Nat) (residence : List Nat)
  /-- DELAY_REQ_RECEIVE (R79). A master port receives a Delay_Req and answers with a Delay_Resp. -/
  | delayReqReceive (t : Nat) (port : Port) (body : TimeBody) (ingress : Nat) (residence : List Nat)
  /-- DELAY_RESP_RECEIVE (R80). A slave port receives a Delay_Resp and updates the mean path delay. -/
  | delayRespReceive (t : Nat) (port : Port) (body : TimeBody) (ingress : Nat) (residence : List Nat)
  /-- PDELAY_REQ_RECEIVE (R79). A port receives a Pdelay_Req and answers with a one-step Pdelay_Resp. -/
  | pdelayReqReceive (t : Nat) (port : Port) (body : TimeBody) (ingress : Nat) (egress : Nat)
  /-- PDELAY_RESP_RECEIVE (R80). A port receives a Pdelay_Resp and updates its filtered link delay. -/
  | pdelayRespReceive (t : Nat) (port : Port) (body : TimeBody) (ingress : Nat)
  /-- TIME_MESSAGE_DISCARD (R83). An unsupported, wrong-domain, two-step or misdirected time message is discarded and counted. -/
  | timeMessageDiscard (t : Nat) (port : Port) (body : TimeBody)
  /-- PTP_SYNC_TIMEOUT (R82). No Sync arrives on the slave port for the timeout, so the rate is held, TimeLocked clears and a Notice is raised. -/
  | ptpSyncTimeout (t : Nat)
  /-- STRIP_RESET (R104). A write of 1 to StripReset sends the strip into its void state. -/
  | stripReset (t : Nat) (path : Path) (strip : Strip)
  /-- TILE_RESET (R104). A write of 1 to TileReset sends the tile and its four strips into the void state. -/
  | tileReset (t : Nat) (path : Path) (tile : Tile)
  /-- STRIP_POWER_DOWN (R104). A write of StripPower = 0 powers the strip down into the void state. -/
  | stripPowerDown (t : Nat) (path : Path) (strip : Strip)
  /-- STRIP_POWER_UP (R104). A write of StripPower = 1 powers the strip up and starts its return. -/
  | stripPowerUp (t : Nat) (path : Path) (strip : Strip)
  /-- TILE_POWER_DOWN (R15). A write of TilePower = 0 stops the tile's converters, slots, drills and strips, keeping the bias outputs. -/
  | tilePowerDown (t : Nat) (path : Path) (tile : Tile)
  /-- TILE_POWER_UP (R104). A write of TilePower = 1 powers the tile up, with 2 ms of analogue settling before return. -/
  | tilePowerUp (t : Nat) (path : Path) (tile : Tile)
  /-- UNIT_VOID_ENTRY (R104). Within 1 µs of the write the unit enters void and answers every request void; void propagates under R105. -/
  | unitVoidEntry (t : Nat) (unit : EngineUnit)
  /-- UNIT_VOID_END (R104). The unit's time in void ends and it starts returning. -/
  | unitVoidEnd (t : Nat) (unit : EngineUnit)
  /-- UNIT_RETURN (R107). The strip's lead plan is recomputed and the returning unit reports state 0. -/
  | unitReturn (t : Nat) (unit : EngineUnit)
  /-- TRIG_EDGE (R283). A selected comparator edge at a TRIG input is accepted or held off, stamped and fires its event channel. -/
  | trigEdge (t : Nat) (input : Fin 16) (ps : Nat) (rising : Bool)
  /-- TDC_RECORD_WRITE (R287). A queued time stamp, or a gap record, drains from the time-stamp queue into its ring. -/
  | tdcRecordWrite (t : Nat) (input : Fin 16)
  /-- GLEANER_RECORD_WRITE (R291). A gleaner buffer record is written to the tile's ring. -/
  | gleanerRecordWrite (t : Nat) (tile : Tile)
  /-- CAP_ARM (R294). A write of 1 to CapArm arms the capture engine. -/
  | capArm (t : Nat) (path : Path) (engine : Fin 8)
  /-- CAP_DISARM (R294). A write of 0 to CapArm disarms the capture engine. -/
  | capDisarm (t : Nat) (path : Path) (engine : Fin 8)
  /-- CAP_TRIGGER (R295). A trigger event at an armed engine starts a capture, or is ignored, restarts or is chained by CapPolicy. -/
  | capTrigger (t : Nat) (engine : Fin 8) (eventTime : Nat)
  /-- CAP_END (R294). A capture ends at its last sample or overflow and fires CapDoneEvent. -/
  | capEnd (t : Nat) (engine : Fin 8) (stored : Nat) (held : List Int) (adc : List Int)
  /-- SHEAF_CLOSE (R298). At E + 1 µs the shot's sheaf closes with the items present. -/
  | sheafClose (t : Nat) (group : Fin 64)
  /-- SHEAF_WRITE (R301). A closed sheaf is written to its ring when room allows, waits in the DMA queue, or is lost and counted. -/
  | sheafWrite (t : Nat) (group : Fin 64)
  /-- RING_READ_OFFSET_WRITE (R281). A consumer writes a ring's read offset, directly or through a BAR4 window, freeing space. -/
  | ringReadOffsetWrite (t : Nat) (path : Path) (ring : Fin 104) (access : RingAccess)
  /-- DDR_TRANSACTION (R314). A channel arbiter serves the first tier holding a waiting request and counts it served, delayed or refused. -/
  | ddrTransaction (t : Nat) (channel : Fin 8) (ecc : EccOutcome)
  /-- STREAM_REFILL (R153). The refill engine fetches a streamed refill block into the stream buffer when it has room. -/
  | streamRefill (t : Nat) (lane : Lane)
  /-- PROGRAM_LINE_FETCH (R318). A program line is fetched into the program store under the lane's fetch reservation. -/
  | programLineFetch (t : Nat) (lane : Lane)
  /-- DRAM_REFRESH (R322). A same-bank refresh falls due and is issued, postponed, or forced at the postponement limit. -/
  | dramRefresh (t : Nat) (channel : Fin 8) (bank : Nat) (atLimit : Bool)
  /-- MR4_POLL (R324). Every millisecond MR4 is read from each rank, setting refresh rate and thermal limiting. -/
  | mr4Poll (t : Nat) (channel : Fin 8) (worst : Fin 3)
  /-- MEMORY_TRAINING_COMPLETE (R305). Training of the eight DDR5 channels ends, in success or in a configuration fault. -/
  | memoryTrainingComplete (t : Nat) (channels : List Nat)
  /-- MEMORY_CLEAR_COMPLETE (R308). The zero-fill of memory after training ends and MemState reads 3. -/
  | memoryClearComplete (t : Nat)
  /-- BALE_QUEUE_TAIL_WRITE (R349). A write of BaleQueueTail submits job descriptors to a partition's queue. -/
  | baleQueueTailWrite (t : Nat) (path : Path) (queue : Part) (value : Nat)
  /-- BALE_COMPRESS (R343). A free encode unit takes a compress job and writes a token, stored or prefix bale. -/
  | baleCompress (t : Nat) (queue : Part) (offset : Nat) (memOk : Bool)
  /-- BALE_DECOMPRESS (R344). A free decode unit takes a decompress job and verifies and writes the content, or suspends. -/
  | baleDecompress (t : Nat) (queue : Part) (offset : Nat) (memOk : Bool)
  /-- BALE_RESUME_DECOMPRESS (R345). A free decode unit takes a resume job and continues from the saved state block. -/
  | baleResumeDecompress (t : Nat) (queue : Part) (offset : Nat) (memOk : Bool)
  /-- BALE_CHECK_ONLY (R347). A free decode unit takes a check-only job and verifies the bale without writing output. -/
  | baleCheckOnly (t : Nat) (queue : Part) (offset : Nat) (memOk : Bool)
  /-- BALE_LOAD_DECODE (R338). A free decode unit decodes a bale for a commit load ahead of queued jobs. -/
  | baleLoadDecode (t : Nat) (lane : Lane) (region : Nat) (offset : Nat) (memOk : Bool)
  /-- BALE_JOB_END (R339). A job ends, writes its status, advances the queue head and fires its event. -/
  | baleJobEnd (t : Nat) (queue : Part) (offset : Nat)
  /-- PCIE_LINK_UP (R351). The PCIe link trains and reports a degraded width or rate if below x8 at 32 GT/s. -/
  | pcieLinkUp (t : Nat) (rate : Nat) (width : Nat)
  /-- PCIE_LINK_DOWN (R353). The PCIe link goes down: PCIe state resets, the count increments and DevRfEnable may clear. -/
  | pcieLinkDown (t : Nat)
  /-- PCIE_HOT_RESET (R352). A hot reset resets PCIe state only. -/
  | pcieHotReset (t : Nat)
  /-- FUNCTION_LEVEL_RESET (R352). A function-level reset resets the function's mailbox, DMA channels and MSI-X state only. -/
  | functionLevelReset (t : Nat) (fn : Fn)
  /-- PE_PERST_ASSERT (R483). PE_PERST_N low resets PCIe state only, as a link-down does. -/
  | pePerstAssert (t : Nat)
  /-- DMA_TAIL_WRITE (R360). A write of a channel's DMA tail submits copy descriptors. -/
  | dmaTailWrite (t : Nat) (fn : Fn) (channel : Fin 16) (value : Nat)
  /-- DMA_COPY_TO_HOST (R360). A copy descriptor with operation 1 moves a DDR5 block to host memory and writes its status. -/
  | dmaCopyToHost (t : Nat) (channel : Fin 16) (descriptor : List Byte) (hostOk : Bool) (memOk : Bool)
  /-- DMA_COPY_FROM_HOST (R360). A copy descriptor with operation 2 moves host memory to a DDR5 block and writes its status. -/
  | dmaCopyFromHost (t : Nat) (channel : Fin 16) (descriptor : List Byte) (data : List Byte) (hostOk : Bool)
  /-- DMA_FOLLOW_COPY (R362). A follow-mode channel copies each new ring record to the host buffer and writes back the offset. -/
  | dmaFollowCopy (t : Nat) (channel : Fin 16)
  /-- PCIE_DMA_OWNER_WRITE (R372). A write of PcieDmaOwner on an idle channel reassigns it and returns its group to defaults. -/
  | pcieDmaOwnerWrite (t : Nat) (path : Path) (channel : Fin 16) (value : Nat)
  /-- BAR2_READ (R358). A BAR2 read reaches a region through the aperture as class 4 traffic, or completes with Completer Abort. -/
  | bar2Read (t : Nat) (fn : Fn) (offset : Nat) (length : Nat) (memOk : Bool)
  /-- BAR2_WRITE (R358). A BAR2 write reaches a region through the aperture, or is dropped and counted. -/
  | bar2Write (t : Nat) (fn : Fn) (offset : Nat) (data : List Byte)
  /-- NMT_START (R368). The NMT start command puts the CAN port in operational. -/
  | nmtStart (t : Nat) (node : Nat)
  /-- NMT_STOP (R368). The NMT stop command puts the CAN port in stopped. -/
  | nmtStop (t : Nat) (node : Nat)
  /-- NMT_ENTER_PRE_OPERATIONAL (R368). The NMT enter pre-operational command puts the CAN port in pre-operational. -/
  | nmtEnterPreOperational (t : Nat) (node : Nat)
  /-- NMT_RESET_NODE (R368). The NMT reset node command acts as reset communication and never resets the device. -/
  | nmtResetNode (t : Nat) (node : Nat)
  /-- NMT_RESET_COMMUNICATION (R367). The NMT reset communication command resets the CAN port, sends boot-up and enters pre-operational. -/
  | nmtResetCommunication (t : Nat) (node : Nat)
  /-- CLASSICAL_CAN_FRAME (R366). A received classical CAN frame is discarded. -/
  | classicalCanFrame (t : Nat) (cobId : Nat) (data : List Byte)
  /-- HEARTBEAT (R368). Every HeartbeatTime the CAN port sends its heartbeat. -/
  | heartbeat (t : Nat)
  /-- EMCY_SEND (R370). A queued EMCY message is sent, at most once per 10 ms. -/
  | emcySend (t : Nat)
  /-- CAN_BUS_OFF (R371). The CAN port goes bus-off and the count increments. -/
  | canBusOff (t : Nat)
  /-- CAN_BUS_OFF_RECOVERY (R371). After 128 occurrences of 11 recessive bits the port rejoins the bus. -/
  | canBusOffRecovery (t : Nat)
  /-- MARKER_BLOCK_RECEIVE (R375). A receiving lane takes a Marker block, checks BIP-8 and aligns the port's lanes. -/
  | markerBlockReceive (t : Nat) (port : Port) (lane : Fin 4) (laneNumber : Nat) (parity : MarkerParity) (arrival : Nat)
  /-- SKIP_BLOCK_RECEIVE (R377). The elastic buffer deletes or repeats Skip stripes to hold its fill. -/
  | skipBlockReceive (t : Nat) (port : Port) (fill : Int)
  /-- CREDIT_BLOCK_RECEIVE (R381). A Credit block returns class 4 or 5 frame credits to the transmitter. -/
  | creditBlockReceive (t : Nat) (port : Port) (cls : Nat) (frames : Nat)
  /-- CAPABILITY_BLOCK_RECEIVE (R390). A Capability block sets the agreed rate, Ack, or detects a loopback or version mismatch. -/
  | capabilityBlockReceive (t : Nat) (port : Port) (lane : Fin 4) (block : CapabilityBlock)
  /-- TRAINING_BLOCK_RECEIVE (R391). A Training block steers this end's taps and reports the partner's status and Ready. -/
  | trainingBlockReceive (t : Nat) (port : Port) (lane : Fin 4) (block : TrainingBlock)
  /-- RETRAIN_BLOCK_RECEIVE (R393). A received Retrain block takes an active port into retraining at the same rate. -/
  | retrainBlockReceive (t : Nat) (port : Port) (rate : Nat)
  /-- REST_BLOCK_RECEIVE (R397). Rest blocks announce that the partner goes to electrical idle. -/
  | restBlockReceive (t : Nat) (port : Port)
  /-- GG_FRAME_ERROR (R382). A frame with a bad Start block, CRC, nesting or header is discarded and counted. -/
  | ggFrameError (t : Nat) (port : Port) (frames : FaultyFrames)
  /-- EVENT_FRAME_RECEIVE (R385). A received event frame on a line fires its GgEventIn channel as a new wave, or counts a void. -/
  | eventFrameReceive (t : Nat) (port : Port) (frame : EventFrame)
  /-- NOTICE_FRAME_RECEIVE (R386). A received fault or throttle notice fires GgNoticeChannel. -/
  | noticeFrameReceive (t : Nat) (port : Port) (frame : EventFrame)
  /-- DICTIONARY_FRAME_RECEIVE (R388). A dictionary frame carries a request served on the Gargor path, or a response for the remote buffer. -/
  | dictionaryFrameReceive (t : Nat) (port : Port) (response : Bool) (record : List Byte)
  /-- BULK_WRITE_DATA (R389). A bulk write-data frame is served by the peer as class 3 traffic and acknowledged. -/
  | bulkWriteData (t : Nat) (port : Port) (region : Nat) (offset : Nat) (data : List Byte) (memOk : Bool)
  /-- BULK_READ_REQUEST (R389). A bulk read request is served by the peer and answered with read data. -/
  | bulkReadRequest (t : Nat) (port : Port) (region : Nat) (offset : Nat) (length : Nat) (memOk : Bool)
  /-- BULK_READ_DATA (R389). Bulk read data is written to the local block of a pull job. -/
  | bulkReadData (t : Nat) (port : Port) (status : Nat) (offset : Nat) (data : List Byte)
  /-- BULK_WRITE_ACK (R389). A bulk write acknowledgement advances or ends a push job. -/
  | bulkWriteAck (t : Nat) (port : Port) (status : Nat) (offset : Nat) (length : Nat)
  /-- GG_REMOTE_DOORBELL (R388). A write of GgRemoteDoorbell sends the request in GgRemoteBuffer to the peer. -/
  | ggRemoteDoorbell (t : Nat) (path : Path) (port : Port)
  /-- GG_REMOTE_TIMEOUT (R388). No response arrives 10 ms after a remote request, so the status becomes timed out. -/
  | ggRemoteTimeout (t : Nat) (port : Port)
  /-- GG_BULK_START (R389). A write of GgBulkStart starts a push or pull bulk job. -/
  | ggBulkStart (t : Nat) (path : Path) (port : Port)
  /-- GG_BULK_RESEND (R389). A bulk frame unanswered for 100 µs is resent, and after the third resend the job ends with a link error. -/
  | ggBulkResend (t : Nat) (port : Port)
  /-- GG_LANE_LOCK (R390). Block and marker lock on all four lanes takes the port from detect to capability. -/
  | ggLaneLock (t : Nat) (port : Port)
  /-- GG_CAPABILITY_TIMEOUT (R390). No Ack within 10 ms returns the port from capability to detect. -/
  | ggCapabilityTimeout (t : Nat) (port : Port)
  /-- GG_TRAINING_SUCCESS (R391). Both ends exchange Ready for 16 stripes and the port leaves training at that rate. -/
  | ggTrainingSuccess (t : Nat) (port : Port)
  /-- GG_TRAINING_TIMEOUT (R391). A training step not finished within 10 ms fails and the agreed rate falls back. -/
  | ggTrainingTimeout (t : Nat) (port : Port)
  /-- GG_RETRAIN_TRIGGER (R396). Low margin for 100 µs, 16 header errors in 1 ms or two missed markers start retraining. -/
  | ggRetrainTrigger (t : Nat) (port : Port) (cause : RetrainCause)
  /-- GG_RETRAIN_SUCCESS (R393). Retraining succeeds within 2 ms and the port returns to active. -/
  | ggRetrainSuccess (t : Nat) (port : Port)
  /-- GG_RETRAIN_FAIL (R393). Retraining fails and the port falls back to training at a lower rate or to detect. -/
  | ggRetrainFail (t : Nat) (port : Port)
  /-- GG_REST_ENTRY (R397). With rest enabled and no traffic for GgRestDelay, the port sends Rest stripes and goes idle. -/
  | ggRestEntry (t : Nat) (port : Port)
  /-- GG_WAKE (R397). A frame to send or signal energy wakes a resting port with a 128-stripe wake burst. -/
  | ggWake (t : Nat) (port : Port)
  /-- GG_WAKE_TIMEOUT (R393). No lock 1 µs after the wake burst takes the port to retraining. -/
  | ggWakeTimeout (t : Nat) (port : Port)
  /-- GG_REFRESH_DUE (R395). After 1 ms without a frame the port owes a refresh burst of 32 Refresh stripes. -/
  | ggRefreshDue (t : Nat) (port : Port)
  /-- EVT_FIRE (R404). A write to EvtFire fires the named channel at once as a producer firing. -/
  | evtFire (t : Nat) (path : Path) (channel : Nat)
  /-- EVENT_FIRE (R400). A producer fires a channel and starts a wave queued at the router. -/
  | eventFire (t : Nat) (channel : Chan) (time : Nat) (ps : Nat)
  /-- WAVE_DELIVER (R401). The router takes a wave and delivers it to listeners and tasks, merging, dropping and flagging loops. -/
  | waveDeliver (t : Nat)
  /-- EVT_TIMER_EXPIRE (R407). A started timer reaches its delay and fires its channel, repeating if periodic. -/
  | evtTimerExpire (t : Nat) (timer : Fin 4)
  /-- EVT_FLAGS_CLEAR (R409). Writing 1 to bits of EvtFlags clears those sticky flags. -/
  | evtFlagsClear (t : Nat) (path : Path) (channel : Chan) (mask : Nat)
  /-- CAL_START (R412). A write of 1 to CalStart starts a run of the selected items over the scope. -/
  | calStart (t : Nat) (path : Path)
  /-- CAL_ABORT (R415). A write of 1 to CalAbort ends the run, the unit in progress keeping its old values. -/
  | calAbort (t : Nat) (path : Path)
  /-- CAL_VCAL_MEASURED (R411). The spare slice finishes the VCAL and zero readings and sets its gain, or the item is refused. -/
  | calVcalMeasured (t : Nat) (reading : Int)
  /-- CAL_UNIT_START (R413). A unit becomes idle and its calibration interruption begins. -/
  | calUnitStart (t : Nat)
  /-- CAL_IDLE_TIMEOUT (R413). A unit still not idle after CalIdleWait is skipped with result 7. -/
  | calIdleTimeout (t : Nat)
  /-- CAL_UNIT_COMPLETE (R416). A unit's measurement ends and its values are accepted or refused against the limits. -/
  | calUnitComplete (t : Nat) (first : List Int) (second : List Int)
  /-- CAL_RUN_END (R418). A run ends and its accepted values are stored in a temperature set, or not. -/
  | calRunEnd (t : Nat)
  /-- CAL_TARGET_UPDATE (R419). Once a second each tap target is interpolated from the lid temperature. -/
  | calTargetUpdate (t : Nat)
  /-- CAL_TAP_STEP (R421). A tap moves one step toward its target when its conditions allow. -/
  | calTapStep (t : Nat) (tap : TapId)
  /-- CANARY_MEAN_UPDATE (R423). Each 1 ms the canary ring's mean stage delay and the ageing used are updated. -/
  | canaryMeanUpdate (t : Nat) (unit : Fin 80) (mean : Nat)
  /-- AGE_RECOMPUTE_WRITE (R424). A write of 1 to AgeRecompute recomputes the lead plan. -/
  | ageRecomputeWrite (t : Nat) (path : Path)
  /-- AGE_INTERVAL_EXPIRE (R424). AgeInterval passes, the lead plan is recomputed and the ageing log appended. -/
  | ageIntervalExpire (t : Nat)
  /-- AGE_WATCH_EXPIRE (R424). A strip's d_worst stays above its plan by AgeWatchThreshold for 1 s and the plan is recomputed. -/
  | ageWatchExpire (t : Nat) (strip : Strip)
  /-- THERMAL_MODEL_STEP (R431). Every 1 µs each thermal node advances from the measured powers. -/
  | thermalModelStep (t : Nat) (powers : List Nat)
  /-- THERMAL_CORRECTION (R432). Once a second diode residuals move the coolant estimate and die offsets. -/
  | thermalCorrection (t : Nat)
  /-- THERMAL_STATE_EVAL (R434). Every 1 ms the rate of rise is computed and node states change within the dwell rule. -/
  | thermalStateEval (t : Nat)
  /-- THERMAL_DWELL_END (R435). A 100 ms dwell ends and a held state change takes effect if still called for. -/
  | thermalDwellEnd (t : Nat) (node : Fin 17)
  /-- THROTTLE_GRACE_EXPIRE (R438). The grace time ends with the request standing and duty-limit enforcement begins. -/
  | throttleGraceExpire (t : Nat)
  /-- FAULT_STICKY_CLEAR (R442). Writing 1 to FaultSticky bits clears those whose condition has gone, except Grave bits. -/
  | faultStickyClear (t : Nat) (path : Path) (word : Fin 4) (mask : Nat)
  /-- FAULT_HANDLER_EXPIRE (R444). The Severe handler timer expires and the safe state is entered if a Severe bit is still set. -/
  | faultHandlerExpire (t : Nat)
  /-- FAULT_ENTER_SAFE (R444). A write of 1 to FaultEnterSafe enters the safe state at once. -/
  | faultEnterSafe (t : Nat) (path : Path)
  /-- FAULT_LEAVE_SAFE (R447). A write of 1 to FaultLeaveSafe leaves the Severe safe state when no Severe or Grave bit is set. -/
  | faultLeaveSafe (t : Nat) (path : Path)
  /-- CS_SLOT_WRITE_COMPLETE (R459). The committed image is written and verified in the inactive slot, which becomes CsNextSlot. -/
  | csSlotWriteComplete (t : Nat)
  /-- CS_STRIP_UPDATE (R460). A write of a strip number to CsStripUpdate moves that strip to the live next slot through a strip update. -/
  | csStripUpdate (t : Nat) (path : Path) (value : Nat)
  /-- MACHINE_CHECK (R456). A parity or sequencing error in an engine raises a Severe fault and reloads the strip or tile. -/
  | machineCheck (t : Nat) (fault : EngineFault)
  /-- CS_RELOAD_VERIFIED (R456). A reloaded engine's stores verify, ending the fault condition and returning the unit. -/
  | csReloadVerified (t : Nat) (unit : EngineUnit)
  /-- CS_USER_START (R462). A write of 1 to CsUserStart starts, or holds one deep, the strip's user routine. -/
  | csUserStart (t : Nat) (path : Path) (strip : Strip)
  /-- CS_USER_SHOT_START (R462). The end of a shot of CsUserShotLane starts, or holds, the user routine. -/
  | csUserShotStart (t : Nat) (strip : Strip)
  /-- CS_USER_ROUTINE_END (R462). A user routine reaches its end word and a held start runs next. -/
  | csUserRoutineEnd (t : Nat) (strip : Strip)
  /-- CS_USER_ABORT (R462). A user routine runs 4,096 words without an end word and is abandoned. -/
  | csUserAbort (t : Nat) (strip : Strip)
  /-- RESET_N_ASSERT (R471). RESET_N held low resets every unit outside the VAUX island, muting outputs and holding biases. -/
  | resetNAssert (t : Nat) (lowNs : Nat) (taken : Bool)
  /-- RESET_N_RELEASE (R473). RESET_N rises, or an internal reset ends, and start-up runs its steps. -/
  | resetNRelease (t : Nat) (fuseOk : Bool) (refOk : Bool)
  /-- STARTUP_RESUME (R474). A start-up waiting for the reference or a Severe condition resumes when it clears. -/
  | startupResume (t : Nat)
  /-- STARTUP_STEP_5 (R473). Once step 4 has ended and memory is ready, mailboxes open to writes and DevState becomes 1. -/
  | startupStep5 (t : Nat)
  /-- RAIL_OUT_OF_RANGE (R467). A rail outside its range for 10 µs sets its Severe bit. -/
  | railOutOfRange (t : Nat) (rail : Fin 8) (millivolt : Int)
  /-- RAIL_BELOW_RESET_LEVEL (R467). A main rail below 80 % of nominal resets the device as RESET_N does. -/
  | railBelowResetLevel (t : Nat) (rail : Fin 8) (millivolt : Int)
  /-- RAIL_RECOVERED (R467). Every main rail back in range for 1 ms ends the internal reset and restarts start-up. -/
  | railRecovered (t : Nat)
  /-- VAUX_LOSS (R470). VAUX below 2.9 V resets the whole device, the Grave latch included. -/
  | vauxLoss (t : Nat)
  /-- PWR_PREPARE_OFF (R477). A write of 1 to PwrPrepareOff clears RF, moves biases to fault values and flushes NV writes. -/
  | pwrPrepareOff (t : Nat) (path : Path)
  /-- PWR_PREPARE_OFF_END (R477). A write of 0 to PwrPrepareOff ends the preparation for power removal. -/
  | pwrPrepareOffEnd (t : Nat) (path : Path)
  /-- RAIL_BACK_IN_RANGE (R467). A rail that had left its range of Table 21-1 returns within it, so the condition of its Severe bit ends and VBIAS outputs become valid. -/
  | railBackInRange (t : Nat) (rail : Fin 8) (millivolt : Int)
  /-- VAUX_POWER_UP (R468). VAUX rises above its reset threshold and the always-on island (flash, fuse bank, oscillator, CAN, Grave latch) starts from its cleared state. -/
  | vauxPowerUp (t : Nat)
  /-- DAC_OUTPUT_SETTLED (R160). A lane's DAC output settles within 20 µs of a DAC-group commit, and only then may the lane's first join complete. -/
  | dacOutputSettled (t : Nat) (lane : Lane)
  /-- GG_MARKER_STRIPE_DUE (R375). After 16,383 other stripes a port owes a marker stripe with BIP-8 on each lane, followed by a skip group, ahead of every frame. -/
  | ggMarkerStripeDue (t : Nat) (port : Port)
  /-- SRIOV_VF_ENABLE (R354). The host sets the SR-IOV NumVFs and VF Enable in PF0's configuration space, giving VF1–VF8 their paths and setting PcieNumVfs. -/
  | sriovVfEnable (t : Nat) (access : ConfigAccess)
  /-- MSIX_VECTOR_UNMASK (R364). The host clears the mask of an MSI-X vector whose pending bit is set, and the pending message is sent. -/
  | msixVectorUnmask (t : Nat) (fn : Fn) (write : MsixWrite)
  /-- JTAG_EXTEST (R485). An EXTEST or EXTEST_PULSE instruction shifted in over JTAG drives boundary cells while RESET_N is low, and acts as BYPASS at other times. -/
  | jtagExtest (t : Nat) (cells : List Bool)
deriving DecidableEq, Repr

end Sys2Proof
end

