-- ==== Sys2Proof/WellFormed.lean ====
section
/-! DEFINITION. Well-formed commands: every operand lies in the field the spec carries it in. The types of Syntax.lean bound unit
numbers; these checks bound the rest. -/

namespace Sys2Proof

/-- A number that fits `w` bits. -/
def fits (w v : Nat) : Bool := v < 2 ^ w
/-- At most `n` bytes. -/
def atMost (n : Nat) (data : List Byte) : Bool := data.length ≤ n
/-- A request record (R48): its header fields and at most 4,080 data bytes (R53). -/
def requestOk (r : Request) : Bool := fits 8 r.tag && fits 16 r.index && fits 8 r.sub && fits 16 r.typ && atMost 4080 r.data
/-- Picoseconds of a stamp: 0–99 (R285). -/
def psOk (ps : Nat) : Bool := ps < 100
/-- A 12-bit two's complement ADC code (R175). -/
def codeOk (c : Int) : Bool := -2048 ≤ c && c ≤ 2047
/-- ADC codes. -/
def codesIn (cs : List Int) : Bool := cs.all codeOk
/-- Exactly `n` ADC codes. -/
def codesOk (n : Nat) (cs : List Int) : Bool := cs.length = n && codesIn cs
/-- The configuration words training finds on the eight DDR5 channels (R305). -/
def trainedOk (cs : List Nat) : Bool := cs.length = 8 && cs.all (fits 32)
/-- Frame classes 1–5 (R379). -/
def classOk (c : Nat) : Bool := 1 ≤ c && c ≤ 5
/-- Operands of an access to a ring's window. -/
def ringAccessOk : RingAccess → Bool
  | .write o n v => fits 6 o && fits 4 n && fits 64 v
  | .read o n => fits 6 o && fits 4 n
/-- Operands of a configuration access. -/
def configAccessOk : ConfigAccess → Bool
  | .setVfs n => fits 8 n
  | .setBar _ _ a => fits 64 a
  | .read _ => true
/-- Entries of a verdict frame (Table 16-5). -/
def entriesOk (es : List VerdictEntry) : Bool := es.all (fun e => e.fabricId < 1284 && fits 8 e.value)
/-- A time-message body (Table 3-4). -/
def timeBodyOk (b : TimeBody) : Bool :=
  fits 8 b.kind && fits 4 b.msgType && fits 8 b.domain && fits 16 b.flags && fits 64 b.clockIdentity && fits 16 b.portNumber
    && fits 16 b.sequenceId && fits 48 b.seconds && fits 32 b.nanos && fits 64 b.reqClockIdentity && fits 16 b.reqPortNumber
/-- A Capability block (Table 16-8). -/
def capabilityOk (b : CapabilityBlock) : Bool := fits 8 b.version && fits 8 b.maxRate && fits 32 b.serial
/-- A Training block (Table 16-9). -/
def trainingOk (b : TrainingBlock) : Bool :=
  fits 8 b.rate && fits 2 b.reqPre && fits 2 b.reqMain && fits 2 b.reqPost && fits 2 b.statPre && fits 2 b.statMain && fits 2 b.statPost
    && fits 8 b.margin
/-- An event or notice frame (Table 16-6). -/
def eventFrameOk (f : EventFrame) : Bool := fits 8 f.kind && fits 8 f.line && psOk f.ps && fits 64 f.time
/-- A calibration tap names a unit of its item (Table 18-2). -/
def tapOk (x : TapId) : Bool :=
  match x.item with
  | 0 => x.unit < 512 && x.value < 3
  | 1 => x.unit < 64 && x.value < 16
  | 2 => x.unit < 16 && x.value < 64
  | 3 => x.unit < 512 && x.value < 2
  | 4 => x.unit < 16 && x.value < 1

/-- A well-formed command: every operand lies in its field. -/
def Instr.wf : Instr → Bool
  | .read t _ req => fits 64 t && requestOk req
  | .write t _ req => fits 64 t && requestOk req
  | .readStaged t _ req => fits 64 t && requestOk req
  | .readGroup t _ req => fits 64 t && requestOk req
  | .describe t _ req => fits 64 t && requestOk req
  | .mailboxDoorbell t _ record => fits 64 t && atMost 4096 record
  | .mailboxStatusRead t x => fits 64 t && fits 16 x.offset && fits 4 x.bytes
  | .usdoUpload t object sub _ => fits 64 t && fits 11 object.cobId && fits 16 object.index && fits 8 sub
  | .usdoDownload t object sub data _ => fits 64 t && fits 11 object.cobId && fits 16 object.index && fits 8 sub && atMost 255 data
  | .usdoBlockTransfer t object sub => fits 64 t && fits 11 object.cobId && fits 16 object.index && fits 8 sub
  | .usdoSegmentTimeout t => fits 64 t
  | .commitCancel t _ index sub _ => fits 64 t && fits 16 index && fits 8 sub
  | .commitImmediateIfIdle t _ index sub _ => fits 64 t && fits 16 index && fits 8 sub
  | .commitNextSegmentEnd t _ index sub _ => fits 64 t && fits 16 index && fits 8 sub
  | .commitNextShotBoundary t _ index sub _ => fits 64 t && fits 16 index && fits 8 sub
  | .commitTakeEffect t index sub _ => fits 64 t && fits 16 index && fits 8 sub
  | .commitLoadComplete t index sub _ => fits 64 t && fits 16 index && fits 8 sub
  | .nvFlashWrite t => fits 64 t
  | .devRfEnableSet t _ => fits 64 t
  | .devRfEnableClear t _ => fits 64 t
  | .laneRun t _ _ => fits 64 t
  | .laneStopAtBoundary t _ _ => fits 64 t
  | .laneStop t _ _ => fits 64 t
  | .nop t _ => fits 64 t
  | .halt t _ => fits 64 t
  | .shotBegin t _ => fits 64 t
  | .shotJoin t _ => fits 64 t
  | .shotEnd t _ => fits 64 t
  | .play t _ => fits 64 t
  | .playAltOpen t _ => fits 64 t
  | .playAltClose t _ => fits 64 t
  | .wait t _ => fits 64 t
  | .atCursor t _ => fits 64 t
  | .loop t _ => fits 64 t
  | .endloop t _ => fits 64 t
  | .call t _ => fits 64 t
  | .ret t _ => fits 64 t
  | .jump t _ => fits 64 t
  | .branch t _ => fits 64 t
  | .branchResolve t _ => fits 64 t
  | .branchVerdictMissing t _ => fits 64 t
  | .specBranchResolve t _ => fits 64 t
  | .branchWatch t _ => fits 64 t
  | .frameFreq t _ => fits 64 t
  | .framePhase t _ => fits 64 t
  | .frameOrigin t _ => fits 64 t
  | .mark t _ => fits 64 t
  | .acquire t _ => fits 64 t
  | .bias t _ => fits 64 t
  | .sync t _ => fits 64 t
  | .syncTimeout t _ => fits 64 t
  | .seg t _ => fits 64 t
  | .issueGrant t _ _ => fits 64 t
  | .granuleArrive t _ _ => fits 64 t
  | .granuleRelease t _ => fits 64 t
  | .energyIntervalSum t _ _ => fits 64 t
  | .frameRecordApply t _ => fits 64 t
  | .markerRelease t _ => fits 64 t
  | .windowOpen t _ history => fits 64 t && codesOk 80 history
  | .windowCheckpoint t _ adc => fits 64 t && codesIn adc
  | .finalVerdict t _ adc => fits 64 t && codesIn adc
  | .slotVoidVerdict t _ => fits 64 t
  | .vptStaged t _ => fits 64 t
  | .vptFinalItem t _ => fits 64 t
  | .strictAltResolve t _ => fits 64 t
  | .altRelease t _ => fits 64 t
  | .altSpanEnd t _ _ => fits 64 t
  | .ggVerdictFrameReceive t _ windowEnd shot entries => fits 64 t && fits 64 windowEnd && fits 32 shot && entriesOk entries
  | .biasTargetEffect t _ => fits 64 t
  | .biasStepInstant t _ => fits 64 t
  | .biasTrackingFail t _ _ => fits 64 t
  | .monTrigger t => fits 64 t
  | .monRestart t _ => fits 64 t
  | .monSettleEnd t => fits 64 t
  | .monResult t _ => fits 64 t
  | .monSpareCalibrated t => fits 64 t
  | .monRotation t => fits 64 t
  | .monDiodeReading t _ deltaVbe => fits 64 t && fits 32 deltaVbe
  | .refEdgesMissing t lastEdge => fits 64 t && fits 64 lastEdge
  | .refFrequencyGate t _ lastEdge => fits 64 t && fits 64 lastEdge
  | .refReturn t => fits 64 t
  | .epochExchangeStart t g1 => fits 64 t && fits 80 g1
  | .epochRequestReceive t _ body g2 g3 => fits 64 t && timeBodyOk body && fits 80 g2 && fits 80 g3
  | .epochReplyReceive t _ body g4 next => fits 64 t && timeBodyOk body && fits 80 g4 && fits 64 next
  | .epochAlign t => fits 64 t
  | .epochDelayLineStep t => fits 64 t
  | .epochRetry t g1 => fits 64 t && fits 80 g1
  | .timeWallSet t _ value => fits 64 t && fits 128 value
  | .timeSnapshot t _ value => fits 64 t && fits 8 value
  | .fallbackMeasure t cycles => fits 64 t && fits 64 cycles
  | .syncSend t _ egress => fits 64 t && fits 80 egress
  | .delayReqSend t _ egress => fits 64 t && fits 80 egress
  | .pdelayReqSend t _ egress => fits 64 t && fits 80 egress
  | .syncReceive t _ body ingress residence => fits 64 t && timeBodyOk body && fits 80 ingress && residence.length = 4 && residence.all (fits 80)
  | .delayReqReceive t _ body ingress residence => fits 64 t && timeBodyOk body && fits 80 ingress && residence.length = 4 && residence.all (fits 80)
  | .delayRespReceive t _ body ingress residence => fits 64 t && timeBodyOk body && fits 80 ingress && residence.length = 4 && residence.all (fits 80)
  | .pdelayReqReceive t _ body ingress egress => fits 64 t && timeBodyOk body && fits 80 ingress && fits 80 egress
  | .pdelayRespReceive t _ body ingress => fits 64 t && timeBodyOk body && fits 80 ingress
  | .timeMessageDiscard t _ body => fits 64 t && timeBodyOk body
  | .ptpSyncTimeout t => fits 64 t
  | .stripReset t _ _ => fits 64 t
  | .tileReset t _ _ => fits 64 t
  | .stripPowerDown t _ _ => fits 64 t
  | .stripPowerUp t _ _ => fits 64 t
  | .tilePowerDown t _ _ => fits 64 t
  | .tilePowerUp t _ _ => fits 64 t
  | .unitVoidEntry t _ => fits 64 t
  | .unitVoidEnd t _ => fits 64 t
  | .unitReturn t _ => fits 64 t
  | .trigEdge t _ ps _ => fits 64 t && psOk ps
  | .tdcRecordWrite t _ => fits 64 t
  | .gleanerRecordWrite t _ => fits 64 t
  | .capArm t _ _ => fits 64 t
  | .capDisarm t _ _ => fits 64 t
  | .capTrigger t _ eventTime => fits 64 t && fits 64 eventTime
  | .capEnd t _ stored held adc => fits 64 t && fits 32 stored && codesIn held && codesIn adc
  | .sheafClose t _ => fits 64 t
  | .sheafWrite t _ => fits 64 t
  | .ringReadOffsetWrite t _ _ access => fits 64 t && ringAccessOk access
  | .ddrTransaction t _ _ => fits 64 t
  | .streamRefill t _ => fits 64 t
  | .programLineFetch t _ => fits 64 t
  | .dramRefresh t _ bank _ => fits 64 t && fits 5 bank
  | .mr4Poll t _ _ => fits 64 t
  | .memoryTrainingComplete t channels => fits 64 t && trainedOk channels
  | .memoryClearComplete t => fits 64 t
  | .baleQueueTailWrite t _ _ value => fits 64 t && fits 64 value
  | .baleCompress t _ offset _ => fits 64 t && fits 64 offset
  | .baleDecompress t _ offset _ => fits 64 t && fits 64 offset
  | .baleResumeDecompress t _ offset _ => fits 64 t && fits 64 offset
  | .baleCheckOnly t _ offset _ => fits 64 t && fits 64 offset
  | .baleLoadDecode t _ region offset _ => fits 64 t && fits 16 region && fits 64 offset
  | .baleJobEnd t _ offset => fits 64 t && fits 64 offset
  | .pcieLinkUp t rate width => fits 64 t && fits 8 rate && fits 8 width
  | .pcieLinkDown t => fits 64 t
  | .pcieHotReset t => fits 64 t
  | .functionLevelReset t _ => fits 64 t
  | .pePerstAssert t => fits 64 t
  | .dmaTailWrite t _ _ value => fits 64 t && fits 64 value
  | .dmaCopyToHost t _ descriptor _ _ => fits 64 t && atMost 64 descriptor
  | .dmaCopyFromHost t _ descriptor _ _ => fits 64 t && atMost 64 descriptor
  | .dmaFollowCopy t _ => fits 64 t
  | .pcieDmaOwnerWrite t _ _ value => fits 64 t && fits 8 value
  | .bar2Read t _ offset length _ => fits 64 t && fits 64 offset && fits 32 length
  | .bar2Write t _ offset _ => fits 64 t && fits 64 offset
  | .nmtStart t node => fits 64 t && fits 8 node
  | .nmtStop t node => fits 64 t && fits 8 node
  | .nmtEnterPreOperational t node => fits 64 t && fits 8 node
  | .nmtResetNode t node => fits 64 t && fits 8 node
  | .nmtResetCommunication t node => fits 64 t && fits 8 node
  | .classicalCanFrame t cobId data => fits 64 t && fits 11 cobId && atMost 8 data
  | .heartbeat t => fits 64 t
  | .emcySend t => fits 64 t
  | .canBusOff t => fits 64 t
  | .canBusOffRecovery t => fits 64 t
  | .markerBlockReceive t _ _ laneNumber parity arrival =>
    fits 64 t && fits 8 laneNumber && fits 8 parity.bip && fits 8 parity.computed && fits 64 arrival
  | .skipBlockReceive t _ _ => fits 64 t
  | .creditBlockReceive t _ cls frames => fits 64 t && classOk cls && fits 16 frames
  | .capabilityBlockReceive t _ _ block => fits 64 t && capabilityOk block
  | .trainingBlockReceive t _ _ block => fits 64 t && trainingOk block
  | .retrainBlockReceive t _ rate => fits 64 t && fits 8 rate
  | .restBlockReceive t _ => fits 64 t
  | .ggFrameError t _ frames =>
    fits 64 t && frames.next.all (fun x => 1 ≤ x.1 && x.1 ≤ 5 && fits 16 x.2)
      && frames.blocks.all (fun b => match b with
        | .data p | .control p => p.length = 8
        | .invalid => true)
  | .eventFrameReceive t _ frame => fits 64 t && eventFrameOk frame
  | .noticeFrameReceive t _ frame => fits 64 t && eventFrameOk frame
  | .dictionaryFrameReceive t _ _ record => fits 64 t && atMost 4096 record
  | .bulkWriteData t _ region offset data _ => fits 64 t && fits 16 region && fits 64 offset && atMost 4080 data
  | .bulkReadRequest t _ region offset length _ => fits 64 t && fits 16 region && fits 64 offset && fits 32 length
  | .bulkReadData t _ status offset data => fits 64 t && fits 8 status && fits 64 offset && atMost 4080 data
  | .bulkWriteAck t _ status offset length => fits 64 t && fits 8 status && fits 64 offset && fits 32 length
  | .ggRemoteDoorbell t _ _ => fits 64 t
  | .ggRemoteTimeout t _ => fits 64 t
  | .ggBulkStart t _ _ => fits 64 t
  | .ggBulkResend t _ => fits 64 t
  | .ggLaneLock t _ => fits 64 t
  | .ggCapabilityTimeout t _ => fits 64 t
  | .ggTrainingSuccess t _ => fits 64 t
  | .ggTrainingTimeout t _ => fits 64 t
  | .ggRetrainTrigger t _ _ => fits 64 t
  | .ggRetrainSuccess t _ => fits 64 t
  | .ggRetrainFail t _ => fits 64 t
  | .ggRestEntry t _ => fits 64 t
  | .ggWake t _ => fits 64 t
  | .ggWakeTimeout t _ => fits 64 t
  | .ggRefreshDue t _ => fits 64 t
  | .evtFire t _ channel => fits 64 t && fits 8 channel
  | .eventFire t _ time ps => fits 64 t && fits 64 time && psOk ps
  | .waveDeliver t => fits 64 t
  | .evtTimerExpire t _ => fits 64 t
  | .evtFlagsClear t _ _ mask => fits 64 t && fits 8 mask
  | .calStart t _ => fits 64 t
  | .calAbort t _ => fits 64 t
  | .calVcalMeasured t _ => fits 64 t
  | .calUnitStart t => fits 64 t
  | .calIdleTimeout t => fits 64 t
  | .calUnitComplete t _ _ => fits 64 t
  | .calRunEnd t => fits 64 t
  | .calTargetUpdate t => fits 64 t
  | .calTapStep t tap => fits 64 t && tapOk tap
  | .canaryMeanUpdate t _ mean => fits 64 t && fits 16 mean
  | .ageRecomputeWrite t _ => fits 64 t
  | .ageIntervalExpire t => fits 64 t
  | .ageWatchExpire t _ => fits 64 t
  | .thermalModelStep t _ => fits 64 t
  | .thermalCorrection t => fits 64 t
  | .thermalStateEval t => fits 64 t
  | .thermalDwellEnd t _ => fits 64 t
  | .throttleGraceExpire t => fits 64 t
  | .faultStickyClear t _ _ mask => fits 64 t && fits 64 mask
  | .faultHandlerExpire t => fits 64 t
  | .faultEnterSafe t _ => fits 64 t
  | .faultLeaveSafe t _ => fits 64 t
  | .csSlotWriteComplete t => fits 64 t
  | .csStripUpdate t _ value => fits 64 t && fits 64 value
  | .machineCheck t fault => fits 64 t && (match fault.error with
    | .fetch address line nano => fits 15 address && fits 144 line && fits 144 nano
    | .sequence address _ dispatch stack => fits 15 address && fits 6 dispatch && stack.length ≤ 8 && stack.all (fits 15)
    | .user => true)
  | .csReloadVerified t _ => fits 64 t
  | .csUserStart t _ _ => fits 64 t
  | .csUserShotStart t _ => fits 64 t
  | .csUserRoutineEnd t _ => fits 64 t
  | .csUserAbort t _ => fits 64 t
  | .resetNAssert t lowNs _ => fits 64 t && fits 64 lowNs
  | .resetNRelease t _ _ => fits 64 t
  | .startupResume t => fits 64 t
  | .startupStep5 t => fits 64 t
  | .railOutOfRange t _ _ => fits 64 t
  | .railBelowResetLevel t _ _ => fits 64 t
  | .railRecovered t => fits 64 t
  | .vauxLoss t => fits 64 t
  | .pwrPrepareOff t _ => fits 64 t
  | .pwrPrepareOffEnd t _ => fits 64 t
  | .railBackInRange t _ _ => fits 64 t
  | .vauxPowerUp t => fits 64 t
  | .dacOutputSettled t _ => fits 64 t
  | .ggMarkerStripeDue t _ => fits 64 t
  | .sriovVfEnable t access => fits 64 t && configAccessOk access
  | .msixVectorUnmask t _ x => fits 64 t && fits 4 x.offset && fits 4 x.bytes && fits 64 x.value
  | .jtagExtest t _ => fits 64 t

end Sys2Proof
end

