-- ==== Sys2Proof/Config.lean ====
section
/-! DEFINITION. What one module fixes, and the values the spec leaves open. Every `opaque` constant has no body: no proof
can see its value, so a statement about the model holds for every value of it. -/

namespace Sys2Proof.Config

/-- A free value: the `n`-th value the spec leaves open in a run (log entry 3). -/
opaque freeValue : Nat → Nat
/-- Raw fuse-bank serial number (Table 2-9). -/
opaque rawSerial : Nat
/-- SerialNumber (0x1018:04): 32 bits, unique per module and never 0. -/
def serialNumber : Nat := rawSerial % (2 ^ 32 - 1) + 1
/-- Silicon revision and manufacturer identity in the JTAG IDCODE (R485). -/
opaque siliconRevision : Nat
/-- Ratric's manufacturer identity in the JTAG IDCODE (R485). -/
opaque manufacturer : Nat
/-- Output pipeline length of a lane in whole ticks, measured at final test (R89, R416). -/
opaque pipelineTicks : Nat → Nat
/-- AgeBaseline of strip `k` (`k`) and tile `k` (`64 + k`), in 0.1 ps, from the fuse bank (R423). -/
opaque ageBaseline : Nat → Nat
/-- `k_vt` of R100 for a unit at VCORE (mV) and junction temperature (0.01 °C): numerator over 2^16. -/
opaque kvt : (unit vcore temp : Nat) → Nat
/-- Whether the magnitude of a sine or cosine of an amplitude is the upper of its two neighbouring integers, by the phase it is formed for
(Table 6-3, R179): the rounding is not stated. -/
opaque trigUp : (amp key : Nat) → Bool
/-- The coefficients of the interpolation filter's four half-band stages (Table 6-3): odd phase, middle outward. Not in the spec. -/
opaque halfBands : List (List Int)
/-- The coefficients of the decimation filter (R180, R181): one half, middle outward. Not in the spec. -/
opaque firTaps : List Int
/-- The token stream the device's encoder chooses (R338, Table 14-4): flags and effort, then content to body bytes. The
match search is not in the spec. -/
opaque encodeTokens : (delta : Bool) → (effort : Nat) → List Byte → List Byte
/-- Form of the empty bale the device writes, 0 or 1 (R329, R340). -/
opaque emptyBaleForm : Nat
/-- How the 64 bytes of a state block's record lie (R345): the `n`-th field byte goes before the place this gives among those laid out so far.
The layout is not stated. -/
opaque recordOrder : Nat → Nat
/-- The bank of a DRAM, on its channel, that a DDR5 address lies in (R322): the spec gives no bank map. -/
opaque bankOf : Nat → Nat
/-- The bytes of the image a module leaves the factory with, in its flash slot A (R458): the spec gives no image. -/
opaque factoryImage : Nat → Nat
/-- SHA-384 of a byte string, as a number (R458). -/
opaque sha384 : List Byte → Nat
/-- The key digest in the fuse bank (R458). -/
opaque keyDigest : Nat
/-- ECDSA P-384 verification of (public key, signature, digest) (R458). -/
opaque ecdsaP384Valid : List Byte → List Byte → Nat → Bool
/-- Thermal capacitance of node `i`, J/K over 2^16 (R431): from characterisation of the package. -/
opaque thermalCapacity : Nat → Nat
/-- Thermal resistance of the link of node `i` to its partner, K/W over 2^16 (R431, Table 19-1). -/
opaque thermalResistance : Nat → Nat
/-- Factory calibration value of a tap (R420), as (item, unit, value). -/
opaque factoryTap : Nat → Nat → Nat → Int
/-- Lowest VCORE set point of R466, mV, from VCORE and each strip's stage delay and junction temperature now: how the delay follows the
set point is a characterisation the spec does not give. -/
opaque vcoreAdvice : (vcore : Nat) → List (Nat × Int) → Nat
end Sys2Proof.Config
end

