-- ==== Sys2Proof/Machine/State.lean ====
section
/-! DEFINITION. The state of the block as plain data: the object dictionary's values, the units' own state, DDR5 and the
queue of waiting commands; and `State.reset`. A sparse map is a list of (key, value) pairs, keys rising. -/

namespace Sys2Proof.Machine

/-- A sparse map: keys strictly rising; an unlisted key reads as a default its reader names. -/
abbrev SMap (α : Type) := List (Nat × α)
/-- DDR5 content by device address (R307): an unlisted address reads 0, since all memory is written with zero before
the first request is served (R308). -/
abbrev Mem := List Host.Cell

/-- Why the machine stops. No command of the opcode table ends in a fault. -/
inductive Fault where
  /-- Raised by no command: the spec gives every command an effect. Safe: the constructor only names an unreachable stop. -/
  | unreachable
deriving DecidableEq, Repr

/-- Why a command has no meaning. -/
inductive Refusal where
  /-- Answered by an arm of `exec` whose command has no meaning yet. Safe: nothing is claimed of it. -/
  | notModelled (mnemonic : String)
deriving DecidableEq, Repr

/-- A grid time with its picoseconds, as a trigger stamp carries (R285). -/
structure EvTime where
  tick : Nat
  ps : Nat
deriving DecidableEq, Repr

/-- What the block sends to the outside, in order. -/
inductive Output where
  /-- A response record on a path (R49): header fields and data. -/
  | response (path : Path) (tag index sub typ : Nat) (data : List Byte) (abort : Nat)
  /-- What a read of a function's mailbox status gave (Table 15-2). -/
  | mailboxStatus (fn value : Nat)
  /-- What a dword read elsewhere in BAR0 or BAR4 of a function gave (Tables 15-2 and 15-4). -/
  | bar (fn bar value : Nat)
  /-- What a function's configuration space shows: vendor, device, class code and BAR addresses (Table 15-1). -/
  | config (fn vendor device classCode : Nat) (bars : List Nat)
  /-- A USDO response on CAN: COB-ID, object, data, abort code (Table 15-8). -/
  | usdo (cobId index sub typ : Nat) (data : List Byte) (abort : Nat)
  /-- An MSI-X vector signalled in a function (Table 15-6). -/
  | msix (fn : Nat) (vector : Nat)
  /-- A CAN frame other than a USDO response: COB-ID and data (Table 15-8). -/
  | can (cobId : Nat) (data : List Byte)
  /-- An EMCY message, with its COB-ID (Tables 15-8 and 15-9). -/
  | emcy (cobId code register source time : Nat)
  /-- A Gargor frame: port, class, sequence number, payload; `frameBlocks` has its blocks (R378). -/
  | frame (port cls seq : Nat) (payload : List Byte)
  /-- A frame in progress broken off as its port left the active state, bad at the receiver (R393). -/
  | broken (port cls : Nat)
  /-- Control stripes sent on a port: the control block type of Table 16-1 and how many stripes. -/
  | stripes (port : Nat) (blockType : Nat) (count : Nat)
  /-- Bytes written to host memory by a DMA channel, with the requester: the function that owns it (R355, R360, R362). -/
  | hostWrite (requester : Nat) (addr : Nat) (data : List Byte)
  /-- A BAR2 read completion: function, data; `none` is Completer Abort; `poisoned` as R358. -/
  | bar2 (fn : Nat) (data : Option (List Byte)) (poisoned : Bool)
  /-- The DAC codes of one energy interval of a lane, from its start tick (Table 6-3). -/
  | aout (lane start : Nat) (codes : List Int)
  /-- A change of a MARK ball (R163). -/
  | markPin (pin : Nat) (level : Bool) (time : Nat)
  /-- A step of a BIAS ball (R260). -/
  | biasStep (lane code time : Nat)
  /-- Boundary cells driven over JTAG (R485). -/
  | boundaryCells (cells : List Bool)
deriving DecidableEq, Repr

/-- A loop-stack entry (Table 5-2). -/
structure LoopEntry where
  remaining : Nat
  forever : Bool
  body : Nat
  endAddr : Nat
deriving DecidableEq, Repr

/-- A call-stack entry (Table 5-2): return address and loop depth at the call. -/
structure CallEntry where
  ret : Nat
  depth : Nat
deriving DecidableEq, Repr

/-- The lane's one watch (Table 5-2, R134). -/
structure Watch where
  channel : Nat
  mask : Nat
  /-- The condition is inverted (Table 5-9). -/
  negate : Bool
  target : Nat
  pop : Nat
  loopDepth : Nat
  callDepth : Nat
  armTime : Nat
  /-- Cutoff of the latest segment end at which it could have fired and did not. -/
  prev : Option Nat
deriving DecidableEq, Repr

/-- A granule with its stamp, as it travels to the furrow and waits in it (Tables 4-1, 6-1). `samples` are the four
scaled (I, Q) pairs of R149; `allowance` is the code energy of R240 that travels with it (R244). -/
structure Granule where
  stamp : Nat
  first : Bool
  last : Bool
  shotTag : Nat
  streamed : Bool
  phase : Nat
  frame : Nat
  samples : List (Int × Int)
  allowance : Nat
  shot : Nat
  urgent : Bool
  /-- Alternate slot the granule goes into, or none for the furrow queue (R215). -/
  altSlot : Option Nat
  /-- The granule's energy is already reserved under R242. -/
  reserved : Bool
  /-- Table entry whose segment begins with the granule (R174). -/
  seg : Option Nat
  /-- Reason code it gives when late (R92, R218, R223). -/
  why : Nat
deriving DecidableEq, Repr

/-- A `play` whose granules wait at the strip's issue port: `next` is the index of the next granule (R120). -/
structure PlayJob where
  waveform : Nat
  amplitude : Int
  frame : Nat
  phase : Nat
  start : Nat
  next : Nat
  length : Nat
  streamed : Bool
  urgent : Bool
  altSlot : Option Nat
  reserved : Bool
  shot : Nat
  tsOrigin : Nat
  /-- Its granule 0 is the first after `shot.begin` (Table 4-1). -/
  first : Bool
  /-- Its last granule is the last before `shot.end` (Table 4-1). -/
  last : Bool
  /-- Table entry whose segment it begins (R174). -/
  seg : Option Nat
  /-- Place of granule 0 in the lane's streamed sequence, counted from the commit (R153). -/
  streamAt : Nat
  /-- Reason code its granules give when late (R92, R218, R223). -/
  why : Nat
deriving DecidableEq, Repr

/-- A request that travels with its stamp (R126, R157). -/
inductive Timed where
  /-- A MARK pin edge: pin, level, stamp. -/
  | pin (pin : Nat) (action : Nat) (width : Nat) (stamp : Nat)
  /-- An event firing by `mark` or a segment marker (R125). -/
  | event (channel : Nat) (stamp : Nat)
  /-- A window on a slot (R182). -/
  | window (slot : Nat) (stamp : Nat) (shot : Nat)
  /-- A new bias target (R258). -/
  | bias (code : Nat) (stamp : Nat)
  /-- Frame record: what (0 frequency, 1 phase set, 2 phase add, 3 origin), frame, value, effect time, from a commit. -/
  | frame (what frame value : Nat) (effect : Nat) (commit : Bool)
deriving DecidableEq, Repr

/-- A request on its way to the converter die, with the reason code it gives when late (R92, R126, R218). -/
structure Sent where
  req : Timed
  why : Nat
deriving DecidableEq, Repr

/-- An opened slot of a `play.alt` group (R121): its condition, its content so far and the granted entry. -/
structure AltOpen where
  slot : Nat
  kind : Nat
  source : Nat
  value : Nat
  mask : Nat
  length : Nat
  jobs : List PlayJob
  entry : Option Nat
deriving DecidableEq, Repr

/-- A `play.alt` group being built or waiting to resolve (R121, R214, R215). -/
structure AltGroup where
  release : Nat
  closed : Bool
  opened : List AltOpen
  windowEnd : Nat
  shot : Nat
  /-- The speculation of some slot was refused (R223). -/
  refused : Bool
  /-- The shot's first granule was still to come when the group opened (Table 4-1). -/
  first : Bool
deriving DecidableEq, Repr

/-- Where the segment-table micro-routine stands (R168). -/
structure SegWalk where
  entry : Nat
  /-- Repetitions of the entry played. -/
  rep : Nat
  /-- Grid time of the entry's first segment start. -/
  entryStart : Nat
  /-- Cutoff and end of the repetition before (R169). -/
  prev : Option (Nat × Nat)
deriving DecidableEq, Repr

/-- Confirmed context kept while a drill follows a prediction (R217): what squash restores (R228). -/
structure Shadow where
  entry : Nat
  pc : Nat
  cursor : Nat
  busy : Nat
  loops : List LoopEntry
  calls : List CallEntry
  /-- The branch's own grain. -/
  grain : Nat
  predicted : Bool
  /-- The rest of the confirmed context. -/
  watch : Option Watch
  segStart : Nat
  segDue : Bool
  firstDue : Bool
  streamCur : Nat
  /-- Staging-buffer items of the predicted path (R224). -/
  jobs : List PlayJob
  timed : List Sent
deriving DecidableEq, Repr

/-- A library entry as the device holds it (R141, R146): a resident entry with its plain data. -/
structure LibEntry where
  length : Nat
  stream : Bool
  offset : Nat
  region : Nat
  energySum : Nat
  peak : Nat
  data : List Byte
deriving DecidableEq, Repr

/-- A program with its table and its library entries as a commit has loaded them on chip (R12, R110, R146, R147, R167). -/
structure Image where
  grains : List Nat
  table : List Nat
  library : SMap LibEntry
deriving DecidableEq, Repr

/-- What a drill waits for. -/
inductive DrillRun where
  | stopped | between | atJoin | inShot | waitOrigin | waitSync | waitBranch | waitConfirm | waitAlt | halted
deriving DecidableEq, Repr

/-- The drill of one lane (Table 5-2) with its issue queue at the strip. -/
structure Drill where
  run : DrillRun
  pc : Nat
  cursor : Nat
  busy : Nat
  loops : List LoopEntry
  calls : List CallEntry
  /-- Event latches (R135): channel to the grid time of the latched event. -/
  latches : SMap EvTime
  timeoutFlag : Bool
  watch : Option Watch
  /-- LaneRun = 2 has been written (R139). -/
  stopAtBoundary : Bool
  /-- Cursor of the start of the segment in progress (R132). -/
  segStart : Nat
  /-- The next instruction begins a segment (R170). -/
  segDue : Bool
  seg : Option SegWalk
  alt : Option AltGroup
  shadow : Option Shadow
  /-- The next granule issued carries First (Table 4-1). -/
  firstDue : Bool
  /-- Grain of the instruction the drill waits at (R136, R213). -/
  waitGrain : Nat
  /-- The next granule issued is urgent (R98). -/
  urgentDue : Bool
  /-- Reason code a late granule of this shot gives (R92, R218, R223). -/
  why : Nat
  /-- The speculative branch the drill waits at has asked for its entry, or missed it (R217). -/
  specAsked : Bool
  /-- Grid times of the segment ends passed: the latest first, then those still to come when it was passed (R132, R133). -/
  segEnds : List Nat
  /-- The lane's own end of the shot ended last: an event before it belongs to that shot (R135). -/
  shotEnd : Nat
  /-- Channel, arming time and last cutoff of the watch that end disarmed (R134). -/
  tail : Option (Nat × Nat × Nat)
  /-- Table entries left on their count whose condition may still come late: channel, entry start, last cutoff, last end (R169). -/
  segTails : List (Nat × Nat × Nat × Nat)
  /-- Granules waiting for the issue port, in program order (R98). -/
  ready : List PlayJob
  /-- Stamp from which the lane is muted to shot end (R92). -/
  muteFrom : Option Nat
  /-- Granules of the streamed sequence fetched since the commit (R153). -/
  streamPos : Nat
  /-- Place of the next streamed play, and of the next shot's first, counted alike (R153, R154). -/
  streamCur : Nat
  streamNext : Nat
  /-- Waveforms of the streamed sequence, in play order, and per `shot.begin` its place and granules in it (R153). -/
  streamSeq : List Nat
  streamSecs : List (Nat × Nat × Nat)
  /-- Refill blocks that could not be read: place of the first granule, and how many (R323). -/
  streamBad : List (Nat × Nat)
  /-- Refill blocks that came before an earlier one: place and granules (R153, R307). -/
  streamEarly : List (Nat × Nat)
  /-- Lines of a program longer than 3,640 grains held in the program store share, by line number (R110, R318). -/
  lines : SMap (List Nat)
  /-- The program image in force as its commit read it (R110); a program of more than 3,640 grains runs from `lines`. -/
  grains : List Nat
  /-- The segment table in force, as copied into the resident area (R167). -/
  table : List Nat
  /-- Library entries the program names, by waveform ID, as loaded at the commit (R146). -/
  library : SMap LibEntry
  /-- Grants other drills of the strip have had while this one had a granule ready (R98). -/
  passed : Nat
  /-- Header fields of the image in force: deadline mode, length, entry (Table 5-1). -/
  mode : Nat
  length : Nat
  entry : Nat
  /-- Between shots while a load holds the lane (R147, R490). -/
  held : Bool
  /-- The image a pending program commit has loaded, until its boundary (R12, R147). -/
  next : Option Image
deriving DecidableEq, Repr

/-- An alternate slot in front of the DAC (R215, R216). -/
structure AltSlot where
  granules : List Granule
  releaseStamp : Nat
  length : Nat
  selected : Bool
  playing : Bool
  shot : Nat
  /-- Reason code a late slot gives (R214, R223). -/
  why : Nat
  /-- Streamed granules of the content that could not be read, or broke their entry's figures (`true`): stamps (R145, R323). They show when
  the slot is confirmed (R225). -/
  lost : List (Nat × Bool)
deriving DecidableEq, Repr

/-- The converter chain of one lane: furrow, alternate slots, frame-record queue, markers (chapters 4 and 6). -/
structure Chain where
  /-- Granules and requests between the strip and the converter die. -/
  flight : List Granule
  timed : List Sent
  /-- The furrow queue, at most 128 entries (R88). -/
  furrow : List Granule
  alt0 : Option AltSlot
  alt1 : Option AltSlot
  /-- Frame records waiting, at most 16, in effect-time order (R157). -/
  frameQ : List Timed
  /-- Marker requests accepted and waiting for their stamp (R163). -/
  markers : List Timed
  /-- Bias requests accepted and waiting for their stamp (R258). -/
  biases : List (Nat × Nat)
  /-- Stamp of the granule accepted last (R90). -/
  lastStamp : Option Nat
  /-- Muted from this stamp until the first granule of a later shot (R92). -/
  muteFrom : Option Nat
  /-- Shot whose granules are discarded. -/
  muteShot : Nat
  /-- Latest envelope samples into the interpolator, newest first. -/
  history : List (Int × Int)
  /-- Granule whose values rotate the tail (R155), and the running sum against its allowance (R244). -/
  last : Option Granule
  /-- Frequency, phase offset and origin of its frame at its stamp (R155). -/
  lastFrame : Nat × Nat × Nat
  /-- LaneDigitalGain at its stamp (R31). -/
  lastGain : Nat
  used : Nat
  /-- Shot with a granule refused at release: the DAC gets zero until a later shot's first granule (R244). -/
  breach : Option Nat
  /-- The granule's saturation has been counted (R152). -/
  satDone : Bool
  /-- Interval sums measured and not yet charged: start tick, sum, and LaneFullScale at the interval (R162, R236). -/
  sums : List (Nat × Nat × Nat)
  nextInterval : Nat
  /-- Smallest lead of the granules released, per shot (R99). -/
  leadMin : SMap Nat
  /-- Shots whose end is known and not yet reported in StripLeadMin: shot, end. -/
  leadEnds : List (Nat × Nat)
  /-- Lead with which each waiting granule arrived, by stamp. -/
  leads : SMap Nat
  /-- Grid time at which the DAC output has settled after a DAC-group commit (R160). -/
  settleAt : Nat
deriving DecidableEq, Repr

/-- A read-out window asked for or open in a shot (R129). -/
structure WinReq where
  slot : Nat
  start : Nat
  stop : Nat
  lane : Nat
  shot : Nat
  /-- Its request was late, so that it does not open (R126). -/
  late : Bool
deriving DecidableEq, Repr

/-- The cause of a spoiled shot (R6, R299): grid time, reason of Table 12-7, cause field of Table 12-6. -/
structure Spoil where
  time : Nat
  reason : Nat
  cause : Nat
deriving DecidableEq, Repr

/-- A shot group: 0–63, or `64 + lane` for a lane alone (R115). -/
structure Group where
  /-- The first join has completed since the group started. -/
  started : Bool
  inShot : Bool
  shot : Nat
  origin : Nat
  runOrigin : Nat
  /-- End of the previous shot; meaningful once `hasPrev`. -/
  prevEnd : Nat
  prevOrigin : Nat
  hasPrev : Bool
  /-- Running members of the shot in progress (R116). -/
  members : List Nat
  /-- Lanes that took part in it from its start (R115). -/
  took : List Nat
  /-- Lanes that have passed `shot.end`, with their own end tick. -/
  ended : List (Nat × Nat)
  windows : List WinReq
  /-- The group's sheaf objects in force at the origin, SheafRing first (R297). -/
  scope : List Nat
  /-- Ends of the alternate spans members staged. -/
  spans : List Nat
  spoil : Option Spoil
  /-- No origin lies before this time: a commit that held the join took effect then (R30). -/
  earliest : Nat
deriving DecidableEq, Repr

/-- A shot that has ended and whose sheaf is still open (R298). -/
structure ShotRec where
  shot : Nat
  group : Nat
  origin : Nat
  stop : Nat
  spoil : Option Spoil
  members : List Nat
  windows : List WinReq
  scope : List Nat
deriving DecidableEq, Repr

/-- A window in progress on a slot, with every value latched at its start (R185, R188). -/
structure OpenWin where
  start : Nat
  length : Nat
  done : Nat
  accI : Int
  accQ : Int
  /-- The latest 80 ADC codes before the next interval, oldest first (R180). -/
  history : List Int
  kernel : List (Int × Int)
  freq : Nat
  phase : Nat
  origin : Nat
  enable : Nat
  normals : List (Int × Int)
  offsets : List Int
  regionMap : Nat
  margins : List Nat
  /-- InputZone of its input (R185). -/
  zone : Nat
  provEnable : Bool
  provisional : Option Nat
  clipped : Bool
  saturated : Bool
  shot : Nat
  group : Nat
deriving DecidableEq, Repr

/-- A demodulation slot (chapter 8). -/
structure SlotSt where
  /-- The kernel store (R187): loaded weights. -/
  kernel : List (Int × Int)
  win : Option OpenWin
  /-- Windows that have ended and whose final verdict is not formed, oldest first (R184, R195). -/
  closing : List OpenWin
  /-- Windows asked for and not yet open: start, lane. -/
  asked : List WinReq
  /-- End of the latest window accepted (R184). -/
  lastEnd : Nat
  /-- Windows that never run: start, end, shot, group (R186). -/
  voids : List (Nat × Nat × Nat × Nat)
  /-- Shot in which the slot last opened a window (R200). -/
  lastGroup : Nat
  lastShot : Nat
deriving DecidableEq, Repr

/-- A fabric item (R203). -/
structure Item where
  id : Nat
  value : Nat
  void : Bool
  final : Bool
  windowEnd : Nat
  shot : Nat
  /-- Grid time at which it reached the fabric. -/
  time : Nat
  /-- For a slot verdict: the grain, and the clipped, saturated and exported flags of its record (R196, R197). -/
  grain : Nat
  flags : Nat
  /-- Window length in samples, for the verdict record (R196). -/
  length : Nat
deriving DecidableEq, Repr

/-- A combiner cell or correction table (R207, R208): the final item held per input, the latest item of any finality received
per input since the last final output, and whether a provisional output was issued. -/
structure Holder where
  held : SMap Item
  recv : SMap Item
  provDone : Bool
deriving DecidableEq, Repr

/-- State of a Verdict Pending Table entry that is not free (Table 9-7). -/
inductive VptState where
  | staging | staged | confirmed
deriving DecidableEq, Repr

/-- The condition of an alternate slot (Table 5-6). -/
structure AltCond where
  kind : Nat
  source : Nat
  value : Nat
  mask : Nat
deriving DecidableEq, Repr

/-- A Verdict Pending Table entry (Table 9-6). -/
structure VptEntry where
  state : VptState
  isBranch : Bool
  lane : Nat
  slot : Nat
  kind : Nat
  source : Nat
  value : Nat
  mask : Nat
  negate : Bool
  windowEnd : Nat
  shot : Nat
  release : Nat
  reservation : Nat
  group : Option Nat
  /-- For slot 1: the condition of the group's slot 0, which goes first (R122). -/
  first : Option AltCond
deriving DecidableEq, Repr

/-- A standing energy reservation (R241, R242): code energy at a stamp. -/
structure Resv where
  lane : Nat
  stamp : Nat
  code : Nat
  /-- First stamp of the span or branch it belongs to; none for a granule's own (R242). -/
  span : Option Nat
deriving DecidableEq, Repr

/-- The energy governor (chapter 10): charges by bucket, per lane or stage and window, and reservations. -/
structure Energy where
  /-- Key `3 × lane + window`, value: bucket to attojoules. -/
  laneCharge : SMap (SMap Nat)
  /-- Key `3 × stage + window`. -/
  stageCharge : SMap (SMap Nat)
  resv : List Resv
  /-- Totals the converter dies measured, key `lane`, value W1 bucket to code energy (R253). -/
  dieTotal : SMap (SMap Nat)
  /-- Code energy the governor charged, same keys (R253). -/
  charged : SMap (SMap Nat)
  /-- Profile values that an energy commit replaced, with its time: intervals begun before it convert with them (R31, R249). -/
  past : List (Nat × SMap Nat)
  /-- Which sets are valid: ceiling, profile (R250). -/
  ceilingValid : Bool
  profileValid : Bool
deriving DecidableEq, Repr

/-- What a bias output is doing (Table 11-3). -/
inductive BiasMove where
  | normal | powerUp | fault | held
deriving DecidableEq, Repr

/-- One DC bias output and its slew limiter (chapter 11). -/
structure BiasOut where
  code : Nat
  target : Nat
  move : BiasMove
  lastStep : Option Nat
  effect : Nat
  /-- The target in force came from a `bias` request (R258). -/
  byRequest : Bool
  /-- No step instant lies before this time: the end of the output's latest trim (R414). -/
  heldTill : Nat
  failed : Bool
deriving DecidableEq, Repr

/-- The monitor converter (R269–R280). -/
structure Monitor where
  phase : Nat
  entry : Nat
  results : Nat
  channel : Option Nat
  held : Bool
  restart : Bool
  /-- Start of the settling, or of the first integration. -/
  startedAt : Nat
  /-- Last gleaned or event-firing result per entry since the commit (R273). -/
  last : SMap Int
  /-- Results per entry since the commit (Table 11-8). -/
  counts : SMap Nat
  /-- Slices: the two active, the spare, and the calibration time of each slice. -/
  active0 : Nat
  active1 : Nat
  spare : Nat
  calTime : SMap Nat
  spareFresh : Bool
  lent : Bool
  /-- When the spare's latest work ended: a calibration, a diode reading, a loan, or its time as an active slice (R278, R279). -/
  spareBusy : Nat
  /-- The diode node whose turn it is (R279). -/
  diodeTurn : Nat
  /-- End of the latest conversion. -/
  lastActivity : Nat
  /-- Channels whose activations have reached the trigger input and wait for it to act (R405). -/
  asked : List Nat
deriving DecidableEq, Repr

/-- A time-stamp record waiting in an input's queue (Table 12-1). -/
structure TdcRec where
  time : Nat
  wordA : Nat
  low : Nat
  typ : Nat
deriving DecidableEq, Repr

/-- One TRIG input with its time-interval digitiser (R282–R288). -/
structure TrigIn where
  lastAccepted : Option EvTime
  seq : Nat
  queue : List TdcRec
  /-- Losses not yet reported: first lost stamp, last, count (R287). -/
  lost : List (Nat × Nat × Nat)
  /-- The next loss opens a gap of its own. -/
  fresh : Bool
  /-- Interrupted for bin-width calibration (R414). -/
  interrupted : Bool
deriving DecidableEq, Repr

/-- A gleaner record (Table 12-3). -/
structure GlnRec where
  time : Nat
  value : Nat
  source : Nat
  flags : Nat
  kind : Nat
  /-- When it was made, and what its source had recorded last before it (R289, R291). -/
  made : Nat
  prior : Option Nat
deriving DecidableEq, Repr

/-- The gleaner of one tile (R289–R292). -/
structure Gleaner where
  buffer : List GlnRec
  /-- Losses not yet reported: first, last, count (R292). -/
  lost : List (Nat × Nat × Nat)
  /-- Start of the 64-tick interval being filled, and records taken in it (R291). -/
  slotStart : Nat
  slotCount : Nat
  /-- Last recorded verdict per slot and canary mean per unit since the group committed (Table 12-2). -/
  verdicts : SMap Nat
  canaries : SMap Nat
deriving DecidableEq, Repr

/-- A slot's window length and oscillator from a tick on (R178, R179). -/
structure Tuning where
  since : Nat
  length : Nat
  freq : Nat
  phase : Nat
  origin : Nat
deriving DecidableEq, Repr

/-- A capture that runs (R294): its trigger time, start, and the values at the trigger. -/
structure CapRun where
  trigger : Nat
  start : Nat
  requested : Nat
  source : Nat
  moved : Bool
  unqualified : Bool
  shot : Nat
  /-- Ended by a restart (R295). -/
  cut : Bool
  /-- When its source's tile entered the void state (R15). -/
  voided : Option Nat
  /-- What its slot is tuned to, newest first; empty for an ADC stream (R179, R198). -/
  tunings : List Tuning
deriving DecidableEq, Repr

/-- One capture engine (R293–R296). -/
structure Capture where
  armed : Bool
  run : Option CapRun
  /-- The captures that restarts have begun, behind the records they cut short (R295). -/
  follow : List CapRun
  heldTrigger : Option Nat
  /-- Shot numbers since the trigger in hand came, newest first, each with its time (R296). -/
  heldShots : List (Nat × Nat)
  /-- Grid times of events on the trigger channel that the router has delivered and CAP_TRIGGER has not acted on (R294, R401). -/
  asked : List Nat
  armDue : Bool
  seq : Nat
  /-- Ended records its part of the capture buffer holds until the ring has room, oldest first (R293). -/
  waiting : List (List Byte)
deriving DecidableEq, Repr

/-- What a DDR5 request moves its bytes for (R323). -/
inductive DdrUse where
  /-- A class 1 fetch. -/
  | fetch
  | write
  /-- A read whose outcome the command that makes it carries. -/
  | read
  /-- A load of the commit with this commit object. -/
  | load (key : Nat)
  /-- A read of a bale job. -/
  | bale (queue offset : Nat)
  /-- A read of the local block of a port's bulk job (R389). -/
  | bulk (port : Nat)
  | scrub
deriving DecidableEq, Repr

/-- A DDR5 request waiting at its channels (R313, R314). -/
structure DdrReq where
  /-- Numbers requests in the order they are made. -/
  id : Nat
  cls : Nat
  partition : Nat
  address : Nat
  bytes : Nat
  arrived : Nat
  deadline : Nat
  use : DdrUse
  demoted : Bool
  /-- Lane of a class 1 request, and the program line it fetches; without one it is a refill block. -/
  lane : Option Nat
  line : Option Nat
  /-- Place of a refill block's first granule in the lane's streamed sequence (R153). -/
  place : Nat
  /-- Owner code of the region it addresses (R316). -/
  owner : Nat
deriving DecidableEq, Repr

/-- What a channel has of a request: those of its bytes that lie on the channel (R307), with what its other parts have met. -/
structure DdrPart where
  req : DdrReq
  bytes : Nat
  /-- An earlier part was served after the bound, or could not be read (R316, R323). -/
  late : Bool
  bad : Bool
deriving DecidableEq, Repr

/-- A class 1 meter: credit in 10^-4 byte, and when it was last brought up to date (R319). -/
structure Meter where
  credit : Nat
  filled : Nat
deriving DecidableEq, Repr

/-- The DDR5 controllers and arbiters (chapter 13). -/
structure MemCtl where
  /-- Requests made so far. -/
  made : Nat
  /-- Waiting requests per channel, oldest first. -/
  queues : SMap (List DdrPart)
  /-- Partition served last, key `8 × channel + tier`. -/
  turn : SMap Nat
  /-- Bytes served in the last 10 µs, key `16 × class + partition`: time and bytes. -/
  recent : SMap (List (Nat × Nat))
  streamMeter : SMap Meter
  fetchMeter : SMap Meter
  /-- Channels under thermal limiting (R324); refreshes owed, key `64 × channel + bank` (R322). -/
  hot : SMap Bool
  owed : SMap Nat
  mr4Time : SMap Nat
  /-- Patrol scrub of a channel: when it began, and 64-byte bursts it has asked for since (R306). -/
  scrubs : SMap (Nat × Nat)
deriving DecidableEq, Repr

/-- A bale job submitted and not yet passed by its queue's head (R339–R341). -/
structure BaleJob where
  offset : Nat
  started : Bool
  ended : Bool
  /-- Decode unit 0–3 or encode unit 4–5 that holds it. -/
  unit : Nat
  status : Nat
  consumed : Nat
  produced : Nat
  unverified : Bool
  /-- Regions it addresses (R342). -/
  regions : List Nat
  event : Option Nat
  /-- What it writes when it ends: addresses and bytes (R344, R346). -/
  writes : List (Nat × List Byte)
deriving DecidableEq, Repr

/-- A bale that waits for a decode unit: the commit that loads it, its region and offset (R338). -/
structure BaleWait where
  commit : Nat
  region : Nat
  offset : Nat
deriving DecidableEq, Repr

/-- A PCI Express function (chapter 15). -/
structure FnSt where
  /-- Mailbox status: 0 idle, 1 busy, 2 response ready (Table 15-2). -/
  mailbox : Nat
  /-- Request submitted and not yet answered. -/
  request : List Byte
  response : List Byte
  /-- Requests rung before a reset of the function and not completed yet, oldest first: their responses are discarded (R352). -/
  stale : List (List Byte)
  /-- MSI-X vectors masked and pending, one bit each (R364). -/
  masked : Nat
  pending : Nat
  /-- Message address and data of MSI-X table entries that have been written (Table 15-2). -/
  messages : SMap (Nat × Nat)
  /-- Addresses of BAR0, BAR2 and BAR4 as assigned, 0 while they are not (R352). -/
  bars : List Nat
deriving DecidableEq, Repr

/-- A DMA channel (R360–R362). -/
structure DmaCh where
  tail : Nat
  head : Nat
  /-- Halted by R352 until the tail is written again. -/
  halted : Bool
  /-- Ring offset copied up to in follow mode. -/
  followed : Nat
  /-- The entry of the descriptor a task released and that has not ended (Table 17-3). -/
  taskEntry : Option Nat
  /-- Sheaves that wait for their full ring in the channel's queue (R301). -/
  queue : List (List Byte)
deriving DecidableEq, Repr

/-- The CAN port (R366–R371). -/
structure CanSt where
  /-- Waiting EMCY messages: code, error register, source, time. -/
  emcy : List (Nat × Nat × Nat × Nat)
  lastEmcy : Option Nat
  lastBeat : Option Nat
  /-- Segmented transfer in progress: index, sub-index, time of the last segment. -/
  transfer : Option (Nat × Nat × Nat)
  nodeId : Nat
  arbRate : Nat
  dataRate : Nat
deriving DecidableEq, Repr

/-- The verdict frame a port builds (R383): start of its 8 ns build, *E*, shot bits, its entries (fabric ID, value and void bit of
Table 16-5), and the stripes ahead of it. -/
structure FrameBuild where
  start : Nat
  windowEnd : Nat
  shot : Nat
  entries : List (Nat × Nat)
  ahead : Nat
  counted : Bool
deriving DecidableEq, Repr

/-- A frame a port is sending (R379): its class, and when its last stripe has left, in tenths of a tick. -/
structure TxFrame where
  cls : Nat
  until' : Nat
deriving DecidableEq, Repr

/-- A Gargor port (chapter 16). -/
structure PortSt where
  /-- Frames in progress, the one whose stripes are sent now first (R379, R380). -/
  tx : List TxFrame
  /-- When the owed skip group has left, and from when it goes ahead of verdict frames, in tenths of a tick (R377, R379). -/
  skipUntil : Nat
  skipBy : Nat
  /-- Arrival of the latest marker of each receiving lane, in UI, and the delay each lane has got since (R376). -/
  arrivals : SMap Nat
  deskew : SMap Nat
  /-- Sequence number expected next per class received (R382). -/
  rxSeqs : SMap Nat
  build : Option FrameBuild
  /-- When the verdict stripes handed to the port have left, in tenths of a tick. -/
  verdictUntil : Nat
  agreed : Nat
  training : Nat
  /-- Lanes on which the partner's capability was received three times alike: lane to count. -/
  capSeen : SMap Nat
  capLast : Option CapabilityBlock
  ackSent : Bool
  partnerRest : Bool
  /-- Transmit taps (pre, main, post), key `4 × rate + lane` (R392). -/
  taps : SMap (Nat × Nat × Nat)
  /-- The partner's latest tap requests per lane, and the status to report (Table 16-9). -/
  tapReqs : SMap Nat
  tapStatus : SMap Nat
  partnerReady : Bool
  credit4 : Nat
  credit5 : Nat
  /-- Waiting frames: class and payload (R379). -/
  waiting : List (Nat × List Byte)
  /-- Sequence number per class. -/
  seqs : SMap Nat
  /-- When a frame was last sent, and last received. -/
  lastSent : Nat
  lastHeard : Nat
  /-- Refresh bursts since the latest frame sent (R395). -/
  refreshes : Nat
  markersSent : Nat
  /-- Fill of the elastic buffer in stripes from its centre (R377). -/
  elastic : Int
  /-- Something but Idle, Skip, Marker and Credit blocks has arrived since the latest marker; equaliser adaptation is frozen (R394). -/
  heard : Bool
  frozen : Bool
  partnerIdle : Bool
  /-- Lane number found in the markers of each receiving lane (R374). -/
  laneNumbers : SMap Nat
  /-- A remote dictionary request waits since this tick (R388). -/
  remoteSince : Option Nat
  /-- Bulk job: bytes acknowledged, unanswered frame's offset and length, time sent and resends (R389). -/
  bulkAcked : Nat
  bulkOut : Option (Nat × Nat)
  bulkSent : Nat
  bulkResends : Nat
  stateSince : Nat
deriving DecidableEq, Repr

/-- A wave waiting at the router (R400): channel, grid time, and whether it arrived on a Gargor line (R385). -/
structure Wave where
  channel : Nat
  time : EvTime
  fromLink : Bool
deriving DecidableEq, Repr

/-- A timer of R407. -/
structure TimerSt where
  due : Option Nat
deriving DecidableEq, Repr

/-- The event router (chapter 17). -/
structure Router where
  waves : List Wave
  timers : SMap TimerSt
deriving DecidableEq, Repr

/-- The fault collector (chapter 19). Sticky and active are 256-bit words. -/
structure Faults where
  sticky : Nat
  active : Nat
  /-- Grid time at which the running handler timer expires (R444). -/
  handler : Option Nat
  /-- FaultSafeState: 0, 1 Severe safe state, 2 Grave latched. -/
  safe : Nat
deriving DecidableEq, Repr

/-- A temperature set (R418): key in 0.01 °C and values by tap key. -/
structure TempSet where
  key : Int
  values : SMap Int
deriving DecidableEq, Repr

/-- The calibration run in progress (R412). -/
structure CalRun where
  /-- Units still to run: item, unit. -/
  left : List (Nat × Nat)
  /-- CalState: 1 waiting for an idle unit, 2 interrupting it, 3 measuring VCAL. -/
  phase : Nat
  /-- Lid temperature at the start, 0.01 °C. -/
  lid : Int
  waitSince : Nat
  /-- Accepted values, by tap. -/
  accepted : SMap Int
  /-- Every unit of all five items over the whole scope, accepted so far (R418). -/
  full : Bool
  /-- The lid has moved by more than 1.00 K. -/
  moved : Bool
  /-- CalIdleWait and CalSetSlot when the run started: a commit during a run applies to the next (R429). -/
  idleWait : Nat
  setSlot : Nat
deriving DecidableEq, Repr

/-- One value of an accepted unit result (R422): its tap, the operating hours, the change from the previous accepted value of the same set,
and the value. -/
structure DriftPoint where
  tap : Nat
  hours : Nat
  change : Int
  value : Int
deriving DecidableEq, Repr

/-- Calibration (chapter 18): taps are keyed `(item × 1024 + unit) × 128 + value`. -/
structure Calib where
  run : Option CalRun
  taps : SMap Int
  targets : SMap Int
  lastTap : SMap Nat
  /-- When the targets were last computed (R419). -/
  lastAim : Option Nat
  sets : SMap TempSet
  /-- The two sets interpolated between: `8 ×` the lower `+` the upper (R424). -/
  pair : Nat
  /-- Accepted values per item with their changes (R422). -/
  drift : SMap (List DriftPoint)
deriving DecidableEq, Repr

/-- Ageing (R423–R428). -/
structure Ageing where
  lastRecompute : Nat
  /-- Since when a strip's delay has stood above its plan by the threshold (R424). -/
  watchSince : SMap Nat
  /-- Smallest offered lead recorded per `4 × lane + class` (R426). -/
  offered : SMap Nat
  /-- The ageing log: operating hours and d_worst per unit (R427). -/
  log : SMap (List (Nat × Nat))
  /-- Retirement hours of a unit, while known (R427). -/
  retire : SMap Nat
  /-- Ticks of operation before grid time 0 (R427). -/
  operated : Int
  /-- Mark of R428 a unit has reached: 1 at 800, 2 at 1,000. -/
  reached : SMap Nat
  /-- *d*_meas × *k*_vt the strip's plan used, over 2^16. -/
  planWorst : SMap Nat
deriving DecidableEq, Repr

/-- The thermal model (R431–R440). Temperatures are in 2^-32 K, as Celsius. -/
structure Thermal where
  temps : SMap Int
  offsets : SMap Int
  coolant : Int
  /-- Residuals of the die nodes read in the present second (R432). -/
  residuals : SMap Int
  lastReading : SMap Nat
  /-- Predicted temperatures of the last 100 ms, one per ms, newest first (R434). -/
  past : SMap (List Int)
  states : SMap Nat
  /-- State each quantity calls for: key `2 × node` temperature, `2 × node + 1` rate (R434). -/
  wanted : SMap Nat
  changed : SMap Nat
  grace : Option Nat
  /-- Energy of the steps of the present 1 ms per die node, in mW × µs, and how many steps (ThermDiePower). -/
  powerSum : SMap Nat
  steps : Nat
  /-- When the model was last stepped, its states last judged, and its correction last made (R431, R432, R434). -/
  stepped : Nat
  judged : Nat
  corrected : Nat
deriving DecidableEq, Repr

/-- One image slot of the control store (R458, R459). -/
structure ImageSlot where
  valid : Bool
  live : Bool
  security : Nat
  version : List Byte
  /-- The image itself, as a commit wrote it; none is the one the module left the factory with. -/
  image : Option (List Byte)
deriving DecidableEq, Repr

/-- A user micro-routine that runs in a strip (R462). -/
structure UserRun where
  /-- Number and reason code of the shot that started it; 0 for a write start (Table 20-5). -/
  shot : Nat
  reason : Nat
deriving DecidableEq, Repr

/-- Control store state (chapter 20). -/
structure ControlStore where
  slotA : ImageSlot
  slotB : ImageSlot
  writing : Option (List Byte)
  /-- Strip or tile (`64 + k`) to the tick of its last return after a machine check (R457). -/
  checkedAt : SMap Nat
  user : SMap UserRun
  /-- User routines loaded into the strips' micro-routine areas (R462). -/
  userWords : SMap (List Nat)
  /-- Shot endings not yet turned into a start: strip to (shot, reason). -/
  userDue : SMap (Nat × Nat)
  /-- A start held one deep: its shot number and reason code. -/
  userHeld : SMap (Nat × Nat)
deriving DecidableEq, Repr

/-- A strip (key `k`) or tile (key `64 + k`) leaving or re-entering service (Table 4-5). -/
structure UnitSt where
  /-- The state code to enter at void entry, 0 when none is due. -/
  entering : Nat
  since : Nat
  /-- When a unit powered up again leaves the void state. -/
  wakeAt : Option Nat
  /-- Its stores are being loaded and have not verified (R456, R460). -/
  reloading : Bool
  /-- A machine check put it where it is (R457). -/
  checked : Bool
deriving DecidableEq, Repr

/-- The status of a commit object (Table 2-4) with its pending boundary. -/
structure CommitSt where
  status : Nat
  reason : Nat
  /-- Pending boundary: 0 none, 1 immediate with a load, 2 segment end, 3 shot boundary. -/
  boundary : Nat
  acceptedAt : Nat
  loading : Bool
  path : Nat
  /-- The boundary the lane's drill has passed, at which the commit takes effect (R29, R158); for a group of several lanes or a slot, a mark
  of the boundary the commit was last carried past (R32). -/
  carried : Option Nat
deriving DecidableEq, Repr

/-- Epoch alignment of a follower (R66–R68). Stamps are in 2^-16 tick. -/
structure Epoch where
  running : Bool
  /-- The port the exchanges run on. -/
  port : Nat
  g1 : Nat
  /-- Twice the delay and twice the offset of each exchange made. -/
  samples : List (Int × Int)
  /-- Offset O in 0.25 ps that waits for a reference edge. -/
  offset : Option Int
  /-- Setting of the delay lines, where they go, and when they last moved. -/
  line : Nat
  lineTarget : Nat
  lineAt : Nat
  retryAt : Option Nat
deriving DecidableEq, Repr

/-- Per-port time-protocol state (R79–R82), stamps in 2^-16 ns. -/
structure PtpPort where
  /-- Wall time at the egress of the latest Delay_Req. -/
  t3 : Int
  /-- Link stamp at the egress of the latest Pdelay_Req. -/
  t1 : Nat
  seqs : SMap Nat
  /-- t₂ − t₁ − c of the latest Sync. -/
  syncDelta : Option Int
  lastSync : Nat
  /-- logMessageInterval of the last Sync accepted. -/
  lastLog : Option Int
deriving DecidableEq, Repr

/-- Time engine (chapter 3). Wall time is held in 2^-48 ns. -/
structure Clock where
  /-- Wall time at grid time `wallTick`. -/
  wallBase : Nat
  wallTick : Nat
  /-- Wall time has been set or stepped since RESET_N (R71). -/
  wallSet : Bool
  /-- The servo's integrator in 2^-72. -/
  integ : Int
  /-- The latest 8 offsets, newest first. -/
  offsets : List Int
  /-- Snapshot pairs per path (R85): grid, wall in the WALLTIME layout. -/
  snaps : SMap (Nat × Nat)
  epoch : Epoch
  ports : SMap PtpPort
deriving DecidableEq, Repr

/-- Flash persistent area (R41–R43). -/
structure NvArea where
  /-- Objects written and not yet in flash. -/
  pending : List Nat
  since : Nat
  /-- Copies in flash by dictionary key. -/
  stored : SMap Nat
  writes : Nat
  noticed : Bool
deriving DecidableEq, Repr

/-- Power and reset (chapter 21). -/
structure Power where
  /-- RESET_N is low or an internal reset holds. -/
  inReset : Bool
  /-- RESET_N is low. -/
  pinLow : Bool
  /-- The reset of R467 holds. -/
  internal : Bool
  vauxUp : Bool
  /-- VBIAS_P and VBIAS_N have been valid since the outputs were last unpowered. -/
  biasUp : Bool
  preparing : Bool
  /-- The part of step 1 that runs before the mailboxes answer reads has ended (R475). -/
  readsOpen : Bool
  /-- Ticks of the present start-up before its grid time 0 (PwrStartTime). -/
  waited : Nat
  /-- What the fuse bank's and the reference's latest checks found (R474). -/
  fuseOk : Bool
  refOk : Bool
deriving DecidableEq, Repr

/-- The block. `objs` holds the values of the dictionary objects by `index × 256 + sub-index`, as the unsigned number of
their bytes (R19); an unlisted object holds its default of the catalogue. -/
structure Dev where
  now : Nat
  objs : SMap Nat
  /-- Staging buffers: written value and the path that wrote it (R26, R34). -/
  staged : SMap (Nat × Nat)
  commits : SMap CommitSt
  clock : Clock
  power : Power
  nv : NvArea
  drills : SMap Drill
  chains : SMap Chain
  groups : SMap Group
  shots : List ShotRec
  /-- Shots whose sheaves have closed, for the items that come later (R298). -/
  closed : List ShotRec
  slots : SMap SlotSt
  /-- Starts of the clipped 32-tick intervals counted so far, per input (R177). -/
  clippedAt : SMap (List Nat)
  /-- Final items of shots whose sheaf is open, newest first, and the latest provisional items. -/
  items : List Item
  cells : SMap Holder
  tables : SMap Holder
  /-- Loaded content of the correction tables (R210): codes that are not 0, by address. -/
  tableContent : SMap Mem
  vpt : SMap VptEntry
  energy : Energy
  biases : SMap BiasOut
  monitor : Monitor
  trigs : SMap TrigIn
  gleaners : SMap Gleaner
  captures : SMap Capture
  /-- Sheaves closed and not yet in their ring, per group, oldest first (R301). -/
  sheaves : SMap (List (List Byte))
  /-- Sheaves of a group lost since the previous one written. -/
  sheafLostNow : SMap Nat
  memctl : MemCtl
  bale : SMap (List BaleJob)
  /-- Queue from which a bale unit took a job last (R341). -/
  baleTurn : Nat
  /-- Bales of commit loads that wait for a decode unit, oldest first (R338). -/
  baleWaits : List BaleWait
  fns : SMap FnSt
  dma : SMap DmaCh
  can : CanSt
  ports : SMap PortSt
  /-- Request outstanding on a path other than a PCIe mailbox: path number to its record (R48, R51). -/
  outstanding : SMap (List Byte)
  /-- Path served last, by its number in Table 2-6 (R51). -/
  servedPath : Nat
  router : Router
  faults : Faults
  calib : Calib
  ageing : Ageing
  thermal : Thermal
  store : ControlStore
  units : SMap UnitSt
  /-- MARK pin levels at the balls. -/
  pins : SMap Bool
  /-- Set level of each MARK pin, with the stamp of its latest set (R125). -/
  pinSets : SMap (Bool × Nat)
  /-- Pin pulses in progress: pin, end tick. -/
  pulses : List (Nat × Nat)
  /-- Free values used so far: the model's own counter (log entry 3). -/
  free : Nat
  /-- Everything sent to the outside since reset, in order: the model's own record (log entry 4). -/
  out : List Output
deriving DecidableEq, Repr

/-- The machine: the block, its DDR5 content, and the commands that wait, first in, first out. -/
structure State where
  dev : Dev
  mem : Mem
  pending : List Instr
deriving DecidableEq, Repr

/-- The machine held in reset (R471): VAUX is up and RESET_N is low; grid time is 0; every object holds its default; no
unit runs; memory is not trained. Fields the spec gives no reset value are 0 or empty (log entry 9). How a run starts
from here is log entry 2. -/
def Dev.reset : Dev :=
  { now := 0
    objs := []
    staged := []
    commits := []
    clock :=
      { wallBase := 0, wallTick := 0, wallSet := false, integ := 0, offsets := [], snaps := []
        epoch := { running := false, port := 0, g1 := 0, samples := [], offset := none, line := 0, lineTarget := 0, lineAt := 0, retryAt := none }
        ports := [] }
    power :=
      { inReset := true, pinLow := true, internal := false, vauxUp := true, biasUp := true, preparing := false, readsOpen := false
        waited := 0, fuseOk := true, refOk := true }
    nv := { pending := [], since := 0, stored := [], writes := 0, noticed := false }
    drills := [], chains := [], groups := [], shots := [], closed := [], slots := [], clippedAt := [], items := [], cells := [], tables := []
    tableContent := []
    vpt := []
    energy := { laneCharge := [], stageCharge := [], resv := [], dieTotal := [], charged := [], past := [], ceilingValid := false, profileValid := false }
    biases := (List.range 512).map (fun l => (l, { code := 131072, target := 131072, move := .held, lastStep := none, effect := 0, byRequest := false, heldTill := 0, failed := false }))
    monitor :=
      { phase := 0, entry := 0, results := 0, channel := none, held := false, restart := false
        startedAt := 0, last := [], counts := [], active0 := 0, active1 := 1, spare := 2, calTime := [], spareFresh := false, lent := false, spareBusy := 0, diodeTurn := 0
        lastActivity := 0, asked := [] }
    trigs := [], gleaners := [], captures := [], sheaves := [], sheafLostNow := []
    memctl :=
      { made := 0, queues := [], turn := [], recent := [], streamMeter := [], fetchMeter := [], hot := [], owed := []
        mr4Time := [], scrubs := [] }
    bale := [], baleTurn := 8, baleWaits := [], fns := [], dma := []
    can := { emcy := [], lastEmcy := none, lastBeat := none, transfer := none, nodeId := 32, arbRate := 3, dataRate := 3 }
    ports := [], outstanding := [], servedPath := 13
    router := { waves := [], timers := [] }
    faults := { sticky := 0, active := 0, handler := none, safe := 0 }
    calib := { run := none, taps := [], targets := [], lastTap := [], lastAim := none, sets := [], pair := 0, drift := [] }
    ageing := { lastRecompute := 0, watchSince := [], offered := [], log := [], retire := [], operated := 0, reached := [], planWorst := [] }
    thermal :=
      { temps := [], offsets := [], coolant := 25 * 2 ^ 32, residuals := [], lastReading := [], past := [], states := []
        wanted := [], changed := [], grace := none, powerSum := [], steps := 0
        stepped := 0, judged := 0, corrected := 0 }
    store :=
      { slotA := { valid := true, live := true, security := 1, version := [], image := none }
        slotB := { valid := false, live := false, security := 0, version := [], image := some [] }
        writing := none, checkedAt := [], user := [], userWords := [], userDue := [], userHeld := [] }
    units := [], pins := [], pinSets := [], pulses := [], free := 0, out := [] }

/-- The machine right after reset (log entry 2): the block held in reset, no byte of DDR5 listed, no command waiting. -/
def State.reset : State := { dev := Dev.reset, mem := [], pending := [] }

end Sys2Proof.Machine
end

