-- ==== Sys2Proof/Machine/Bits.lean ====
section
/-! DEFINITION. Bit fields, two's complement, little-endian bytes, CRC-32C, sparse maps and DDR5 bytes: the helpers every
other file uses. -/

namespace Sys2Proof.Machine

/-! ### Bits -/

/-- Field `[hi:lo]` of a word (R8). -/
def bits (v hi lo : Nat) : Nat := (v >>> lo) % 2 ^ (hi + 1 - lo)
/-- Bit `i` of a word. -/
def bit (v i : Nat) : Bool := v.testBit i
/-- A word with bit `i` set to `b`. -/
def putBit (v i : Nat) (b : Bool) : Nat :=
  if b then v ||| 2 ^ i else if v.testBit i then v - 2 ^ i else v
/-- A word with its `w` bits from `lo` replaced by `x`. -/
def putBits (v lo w x : Nat) : Nat :=
  v - (((v >>> lo) % 2 ^ w) <<< lo) + ((x % 2 ^ w) <<< lo)
/-- 1 for true (Table 2-2). -/
def ofBool (b : Bool) : Nat := if b then 1 else 0
/-- Two's complement value of a `w`-bit word (Table 2-2). -/
def toInt (w v : Nat) : Int := if v % 2 ^ w < 2 ^ (w - 1) then ((v % 2 ^ w : Nat) : Int) else ((v % 2 ^ w : Nat) : Int) - (2 ^ w : Nat)
/-- The `w`-bit word of a two's complement value. -/
def ofInt (w : Nat) (i : Int) : Nat := (i % (2 ^ w : Nat)).toNat
/-- A value held to the range of a `w`-bit signed word. -/
def satI (w : Nat) (i : Int) : Int := max (-(2 ^ (w - 1) : Nat)) (min i ((2 ^ (w - 1) : Nat) - 1))
/-- A counter that wraps at `w` bits. -/
def wrap (w v : Nat) : Nat := v % 2 ^ w
/-- Ceiling of a quotient. -/
def ceilDiv (a b : Nat) : Nat := (a + b - 1) / b
/-- The 64-bit word of all ones. -/
def allOnes64 : Nat := 2 ^ 64 - 1
/-- How many bits of the low `w` are set. -/
def popCount : Nat → Nat → Nat
  | 0, _ => 0
  | w + 1, v => (if v.testBit w then 1 else 0) + popCount w v
/-- The numbers below `w` of the bits that are set, rising. -/
def setBits (w v : Nat) : List Nat := (List.range w).filter (fun i => v.testBit i)

/-! ### Bytes -/

/-- The little-endian bytes of a number (R19). -/
def leBytes : Nat → Nat → List Byte
  | 0, _ => []
  | n + 1, v => BitVec.ofNat 8 v :: leBytes n (v / 256)
/-- The number of little-endian bytes (R19). -/
def ofLe : List Byte → Nat
  | [] => 0
  | b :: bs => b.toNat + 256 * ofLe bs
/-- The number at byte offset `o`, `n` bytes long, of a record. -/
def field (bs : List Byte) (o n : Nat) : Nat := ofLe ((bs.drop o).take n)
/-- The bytes of a list of numbers below 256. -/
def byteList (l : List Nat) : List Byte := l.map (BitVec.ofNat 8)
/-- The bytes of a text. -/
def textBytes (s : String) : List Byte := s.toList.map (fun c => BitVec.ofNat 8 c.toNat)
/-- Zero bytes. -/
def zeros (n : Nat) : List Byte := List.replicate n 0

/-! ### CRC-32C -/

/-- One bit of the reflected CRC-32C division. -/
def crcBit (c : Nat) : Nat := if c % 2 = 1 then (c / 2) ^^^ 0x82F63B78 else c / 2
/-- One byte into a running CRC-32C. -/
def crcByte (c : Nat) (b : Byte) : Nat :=
  crcBit (crcBit (crcBit (crcBit (crcBit (crcBit (crcBit (crcBit (c ^^^ b.toNat))))))))
/-- CRC-32C of a byte string (R37). -/
def crc32c (bs : List Byte) : Nat := (bs.foldl crcByte 0xFFFFFFFF) ^^^ 0xFFFFFFFF

/-! ### Sparse maps -/

/-- The value an entry lists, if any. -/
def SMap.find {α : Type} : SMap α → Nat → Option α
  | [], _ => none
  | (k, v) :: r, i => if k = i then some v else SMap.find r i
/-- The value of an entry, or the default of an unlisted one. -/
def SMap.look {α : Type} (m : SMap α) (i : Nat) (dflt : α) : α := (SMap.find m i).getD dflt
/-- The map with an entry set. -/
def SMap.set {α : Type} : SMap α → Nat → α → SMap α
  | [], i, v => [(i, v)]
  | (k, w) :: r, i, v => if i < k then (i, v) :: (k, w) :: r else if i = k then (i, v) :: r else (k, w) :: SMap.set r i v
/-- The map without an entry. -/
def SMap.del {α : Type} (m : SMap α) (i : Nat) : SMap α := List.filter (fun p => p.1 != i) m

/-! ### DDR5 bytes -/

/-- One byte of DDR5: an unlisted address reads 0 (R308). -/
def Mem.byte : Mem → Nat → Byte
  | [], _ => 0
  | (k, v) :: r, a => if k = a then v else Mem.byte r a
/-- One byte written, in the canonical form: a zero byte is not listed. -/
def Mem.put : Mem → Nat → Byte → Mem
  | [], a, b => if b = 0 then [] else [(a, b)]
  | (k, v) :: r, a, b =>
    if a < k then (if b = 0 then (k, v) :: r else (a, b) :: (k, v) :: r)
    else if a = k then (if b = 0 then r else (a, b) :: r)
    else (k, v) :: Mem.put r a b
/-- Consecutive bytes of DDR5. -/
def Mem.bytes (m : Mem) (a : Nat) : Nat → List Byte
  | 0 => []
  | n + 1 => m.byte a :: Mem.bytes m (a + 1) n
/-- Consecutive bytes written. -/
def Mem.putBytes (m : Mem) (a : Nat) : List Byte → Mem
  | [] => m
  | b :: bs => Mem.putBytes (m.put a b) (a + 1) bs
/-- A block of zero bytes: listed entries inside it are dropped (R311). -/
def Mem.clear (m : Mem) (a n : Nat) : Mem := List.filter (fun p => p.1 < a || a + n ≤ p.1) m
/-- The canonical form: addresses strictly rising, every listed byte non-zero. -/
def Mem.wf : Mem → Bool
  | [] => true
  | [(_, v)] => v != 0
  | (k, v) :: (k', v') :: r => v != 0 && k < k' && Mem.wf ((k', v') :: r)

/-- What a command writes to DDR5. -/
inductive MemOp where
  /-- Bytes from an address. -/
  | put (address : Nat) (data : List Byte)
  /-- A block cleared to zero. -/
  | clear (address count : Nat)
deriving DecidableEq, Repr

/-- One write to DDR5. -/
def Mem.apply1 (m : Mem) : MemOp → Mem
  | .put a bs => m.putBytes a bs
  | .clear a n => m.clear a n
/-- Writes to DDR5, first to last. -/
def Mem.apply (m : Mem) (ops : List MemOp) : Mem := ops.foldl Mem.apply1 m

end Sys2Proof.Machine
end

