-- ==== Sys2Proof/Machine/Catalogue.lean ====
section
/-! DEFINITION. The catalogue of dictionary objects: one row per row of the object tables of the spec (R16–R24, R57, R58 and
each chapter's table). A row stands for `count` units and the sub-indices `lo`–`hi`. -/

namespace Sys2Proof.Machine

/-- Types of Table 2-2. -/
inductive Ty where
  | bool | i8 | i16 | i32 | i64 | u8 | u16 | u32 | u64 | str | domain | grain | ticks | wall
deriving DecidableEq, Repr

/-- Access codes of Table 2-3. -/
inductive Acc where
  | ro | wo | rw | rwc | cnt | nv | konst
deriving DecidableEq, Repr

/-- Groups (R25): each has one commit object per unit. -/
inductive GKind where
  | device | time | lane | program | dac | wave | fetch | input | kernel | disc | feedback | cell | table
  | energyProfile | energyCeiling | bias | monitor | trig | gleaner | capture | sheaf | memory | baleQueue
  | dmaChannel | ggDevice | ggPort | ggBulk | evtChannel | evtProducer | calScope | csImage | csRollback | csUser
deriving DecidableEq, Repr

/-- Ranges of values the object tables give. -/
inductive Check where
  | any
  | upTo (n : Nat)
  | within (a b : Nat)
  /-- At most `n`, or exactly `m`. -/
  | upToOr (n m : Nat)
  /-- Two's complement of `w` bits, magnitude at most `n`. -/
  | signed (w n : Nat)
  /-- `k` owner codes of 4 bits: 9–14 are refused (R47). -/
  | owners (k : Nat)
  /-- The owner code of a region descriptor, bits 38–35 (R47, Table 13-2). -/
  | regionOwner
  /-- −7 to 0 in 8 bits (Table 3-5). -/
  | logInterval
  /-- Step 1–4,096 and interval 1–10,000 (chapter 11). -/
  | slew
  /-- A cell input code with no reserved bit set (chapter 9). -/
  | cellInput
  /-- CapSource values (chapter 12). -/
  | capSource
  /-- CalSetSlot values (chapter 18). -/
  | calSet
deriving DecidableEq, Repr

/-- One row of an object table. -/
structure Row where
  base : Nat
  count : Nat
  lo : Nat
  hi : Nat
  ty : Ty
  acc : Acc
  dflt : Nat
  /-- Bits marked "reserved, write 0" (R20). -/
  reserved : Nat
  /-- Values refused at the write with 0x06090030. -/
  write : Check
  /-- Values the group check refuses (R28; log entry 8). -/
  group : Check
  member : Option GKind
deriving DecidableEq, Repr

/-- Type code of Table 2-2. -/
def Ty.code : Ty → Nat
  | .bool => 0x0001 | .i8 => 0x0002 | .i16 => 0x0003 | .i32 => 0x0004 | .i64 => 0x0015 | .u8 => 0x0005 | .u16 => 0x0006
  | .u32 => 0x0007 | .u64 => 0x001B | .str => 0x0009 | .domain => 0x000F | .grain => 0x0040 | .ticks => 0x0041 | .wall => 0x0042
/-- Bytes of Table 2-2; a STRING has no fixed length. -/
def Ty.size : Ty → Nat
  | .bool => 1 | .i8 => 1 | .i16 => 2 | .i32 => 4 | .i64 => 8 | .u8 => 1 | .u16 => 2
  | .u32 => 4 | .u64 => 8 | .str => 0 | .domain => 16 | .grain => 9 | .ticks => 8 | .wall => 16
/-- Bits a type marks reserved (Table 2-2). -/
def Ty.reserved : Ty → Nat
  | .domain => 0xFFFF0000
  | .wall => 340277174683501050521444330130596954112
  | _ => 0
/-- Access code byte of the describe operation (R50). -/
def Acc.code : Acc → Nat
  | .ro => 0 | .wo => 1 | .rw => 2 | .rwc => 3 | .cnt => 4 | .nv => 5 | .konst => 6

/-- The owner codes of a word are all 0–8 or 0xF (R47). -/
def ownersOk : Nat → Nat → Bool
  | 0, _ => true
  | k + 1, v => (v % 16 ≤ 8 || v % 16 = 15) && ownersOk k (v / 16)

/-- Whether a value lies in a range. -/
def Check.ok : Check → Nat → Bool
  | .any, _ => true
  | .upTo n, v => v ≤ n
  | .within a b, v => a ≤ v && v ≤ b
  | .upToOr n m, v => v ≤ n || v = m
  | .signed w n, v => (toInt w v).natAbs ≤ n
  | .owners k, v => ownersOk k v
  | .regionOwner, v => ownersOk 1 (bits v 38 35)
  | .logInterval, v => v = 0 || 249 ≤ v
  | .slew, v => 1 ≤ bits v 12 0 && bits v 12 0 ≤ 4096 && 1 ≤ bits v 31 16 && bits v 31 16 ≤ 10000
  | .cellInput, v => v = 0xFFF || bits v 11 11 = 0 || bits v 10 9 = 0
  | .capSource, v => v ≤ 0x3F || (0x400 ≤ v && v ≤ 0x7FF) || v = 0xFFF
  | .calSet, v => (1 ≤ v && v ≤ 6) || v = 255


/-- Objects of the profile range (object tables of spec chapter 02). -/
def profileRows : List Row := [
  ⟨0x1000, 1, 0x0, 0x0, .u32, .konst, 0, 0, .any, .any, none⟩, -- DeviceType
  ⟨0x1001, 1, 0x0, 0x0, .u8, .ro, 0, 0, .any, .any, none⟩, -- ErrorRegister
  ⟨0x1008, 1, 0x0, 0x0, .str, .konst, 0, 0, .any, .any, none⟩, -- DeviceName
  ⟨0x1009, 1, 0x0, 0x0, .str, .konst, 0, 0, .any, .any, none⟩, -- HardwareVersion
  ⟨0x100a, 1, 0x0, 0x0, .str, .ro, 0, 0, .any, .any, none⟩, -- SoftwareVersion
  ⟨0x1017, 1, 0x0, 0x0, .u16, .rw, 1000, 0, .any, .any, none⟩, -- HeartbeatTime
  ⟨0x1018, 1, 0x1, 0x1, .u32, .konst, 0, 0, .any, .any, none⟩, -- VendorId
  ⟨0x1018, 1, 0x2, 0x2, .u32, .konst, 0, 0, .any, .any, none⟩, -- ProductCode
  ⟨0x1018, 1, 0x3, 0x3, .u32, .konst, 0, 0, .any, .any, none⟩, -- RevisionNumber
  ⟨0x1018, 1, 0x4, 0x4, .u32, .konst, 0, 0, .any, .any, none⟩] -- SerialNumber

/-- Objects of the device range (object tables of spec chapters 02, 09, 21). DESIGN CHOICE: FbRemoteIn [17:14] takes owner-partition codes 9–14, which its
table neither refuses nor explains (log entry 42). -/
def deviceRows : List Row := [
  ⟨0x2000, 1, 0x1, 0x1, .u8, .ro, 0, 0, .any, .any, none⟩, -- DevState
  ⟨0x2000, 1, 0x2, 0x2, .u16, .rwc, 1, 0xfe00, .any, .any, (some .device)⟩, -- DevPartitionsEnabled
  ⟨0x2000, 1, 0x3, 0x3, .bool, .rw, 0, 0, .any, .any, none⟩, -- DevRfEnable
  ⟨0x2000, 1, 0x4, 0x4, .u64, .ro, 0, 0, .any, .any, none⟩, -- DevShotNumber
  ⟨0x2000, 1, 0x5, 0x5, .u8, .rw, 15, 0, .any, .any, none⟩, -- DevCanWriteMask
  ⟨0x2000, 1, 0x6, 0x6, .bool, .nv, 0, 0, .any, .any, none⟩, -- DevGargorRemoteWrite
  ⟨0x2000, 1, 0x7, 0x7, .u16, .rwc, 1024, 0, .any, .upTo 1024, (some .device)⟩, -- DevSpeculationLimit
  ⟨0x2000, 1, 0x9, 0x9, .u32, .rw, 0, 0, .any, .any, none⟩, -- DevCommit
  ⟨0x2000, 1, 0xa, 0xa, .u8, .ro, 32, 0, .any, .any, none⟩, -- DevChangeRecordsLeft
  ⟨0x2000, 1, 0xb, 0xb, .u32, .ro, 0, 0, .any, .any, none⟩, -- DevCommitsDeferred
  ⟨0x2000, 1, 0xc, 0xc, .u32, .rw, 0, 0, .any, .any, none⟩, -- DevCntExpectedDigest
  ⟨0x2000, 1, 0xd, 0xd, .u32, .ro, 0, 0, .any, .any, none⟩, -- DevMailboxAborts
  ⟨0x2000, 1, 0xe, 0xe, .u32, .ro, 0, 0, .any, .any, none⟩, -- DevMailboxDiscards
  ⟨0x2000, 1, 0xf, 0xf, .ticks, .ro, 0, 0, .any, .any, none⟩, -- DevCommitWaitTime
  ⟨0x2002, 1, 0x1, 0x20, .ticks, .ro, 0, 0, .any, .any, none⟩, -- DevChangeTime
  ⟨0x2003, 1, 0x1, 0x20, .u64, .ro, 0, 0, .any, .any, none⟩, -- DevChangeRecord
  ⟨0x2004, 1, 0x1, 0x1, .u32, .ro, 0, 0, .any, .any, none⟩, -- DevNvWear
  ⟨0x2004, 1, 0x2, 0x2, .u32, .ro, 0, 0, .any, .any, none⟩, -- DevNvWritesLeft
  ⟨0x2004, 1, 0x3, 0x3, .u32, .ro, 0, 0, .any, .any, none⟩, -- DevNvRefused
  ⟨0x2005, 1, 0x1, 0x20, .u64, .rwc, 0, 0, .owners 16, .any, (some .device)⟩, -- PartLaneMap
  ⟨0x2006, 1, 0x1, 0x4, .u64, .rwc, 0, 0, .owners 16, .any, (some .device)⟩, -- PartInputMap
  ⟨0x2007, 1, 0x1, 0x8, .u64, .rwc, 0, 0, .owners 16, .any, (some .device)⟩, -- PartEventMap
  ⟨0x2008, 1, 0x1, 0x10, .u64, .rwc, 0, 0, .owners 16, .any, (some .device)⟩, -- PartCellMap
  ⟨0x2008, 1, 0x11, 0x11, .u16, .rwc, 0, 0, .owners 4, .any, (some .device)⟩, -- PartTableMap
  ⟨0x2010, 1, 0x1, 0x1, .u16, .ro, 0, 0, .any, .any, none⟩, -- FbVptInUse
  ⟨0x2010, 1, 0x2, 0x2, .u16, .ro, 0, 0, .any, .any, none⟩, -- FbVptPeak
  ⟨0x2010, 1, 0x3, 0x3, .u64, .ro, 0, 0, .any, .any, none⟩, -- FbSpecAllocated
  ⟨0x2010, 1, 0x4, 0x4, .u64, .ro, 0, 0, .any, .any, none⟩, -- FbSpecConfirmed
  ⟨0x2010, 1, 0x5, 0x5, .u64, .ro, 0, 0, .any, .any, none⟩, -- FbSpecSquashed
  ⟨0x2010, 1, 0x6, 0x6, .u32, .ro, 0, 0, .any, .any, none⟩, -- FbSpecUnconfirmable
  ⟨0x2010, 1, 0x7, 0x7, .u32, .ro, 0, 0, .any, .any, none⟩, -- FbSpecRefused
  ⟨0x2010, 1, 0x8, 0x8, .u32, .ro, 0, 0, .any, .any, none⟩, -- FbProvTooLate
  ⟨0x2010, 1, 0x9, 0x9, .u64, .ro, 0, 0, .any, .any, none⟩, -- FbRemoteAccepted
  ⟨0x2010, 1, 0xa, 0xa, .u32, .ro, 0, 0, .any, .any, none⟩, -- FbRemoteMismatch
  ⟨0x2010, 1, 0xb, 0xb, .u32, .ro, 0, 0, .any, .any, none⟩, -- FbRemoteVoid
  ⟨0x2010, 1, 0x10, 0x10, .u32, .rw, 0, 0, .any, .any, none⟩, -- FbCommit
  ⟨0x2011, 4, 0x1, 0x20, .u16, .rwc, 65535, 0, .upToOr 1283 0xFFFF, .any, (some .feedback)⟩, -- FbExport
  ⟨0x2015, 1, 0x1, 0x40, .u64, .rwc, 0, 0xfc0c0000, .any, .any, (some .feedback)⟩, -- FbRemoteIn
  ⟨0x2020, 1, 0x1, 0x1, .u8, .ro, 0, 0, .any, .any, none⟩, -- PwrStartStep
  ⟨0x2020, 1, 0x2, 0x2, .u8, .ro, 0, 0, .any, .any, none⟩, -- PwrStartStop
  ⟨0x2020, 1, 0x3, 0x3, .u8, .ro, 0, 0, .any, .any, none⟩, -- PwrResetCause
  ⟨0x2020, 1, 0x4, 0x4, .u16, .ro, 0, 0, .any, .any, none⟩, -- PwrVcoreAdvice
  ⟨0x2020, 1, 0x5, 0x5, .u8, .wo, 0, 0, .upTo 1, .any, none⟩, -- PwrPrepareOff
  ⟨0x2020, 1, 0x6, 0x6, .bool, .ro, 0, 0, .any, .any, none⟩, -- PwrReadyForOff
  ⟨0x2020, 1, 0x7, 0x7, .u32, .ro, 0, 0, .any, .any, none⟩, -- PwrStartTime
  ⟨0x2021, 1, 0x1, 0x8, .i32, .ro, 0, 0, .any, .any, none⟩, -- PwrRailVoltage
  ⟨0x2022, 1, 0x1, 0x8, .u8, .ro, 0, 0, .any, .any, none⟩] -- PwrRailState

/-- Objects of the time range (object tables of spec chapter 03). -/
def timeRows : List Row := [
  ⟨0x2100, 1, 0x1, 0x1, .ticks, .ro, 0, 0, .any, .any, none⟩, -- TimeGridNow
  ⟨0x2100, 1, 0x2, 0x2, .u8, .ro, 0, 0, .any, .any, none⟩, -- TimeGridState
  ⟨0x2100, 1, 0x3, 0x3, .u8, .ro, 0, 0, .any, .any, none⟩, -- TimeRefState
  ⟨0x2100, 1, 0x4, 0x4, .u32, .ro, 0, 0, .any, .any, none⟩, -- TimeRefLosses
  ⟨0x2100, 1, 0x5, 0x5, .i32, .ro, 0, 0, .any, .any, none⟩, -- TimeRefFreqError
  ⟨0x2100, 1, 0x6, 0x6, .i32, .nv, 0, 0, .signed 32 400000, .any, none⟩, -- TimeRefSkew
  ⟨0x2100, 1, 0x7, 0x7, .u8, .nv, 0, 0, .upTo 2, .any, none⟩, -- TimeEpochRole
  ⟨0x2100, 1, 0x8, 0x8, .u8, .nv, 0, 0, .upTo 3, .any, none⟩, -- TimeEpochPort
  ⟨0x2100, 1, 0x9, 0x9, .i64, .ro, 0, 0, .any, .any, none⟩, -- TimeEpochOffset
  ⟨0x2100, 1, 0xa, 0xa, .i64, .ro, 0, 0, .any, .any, none⟩, -- TimeEpochDelay
  ⟨0x2100, 1, 0xb, 0xb, .u32, .ro, 0, 0, .any, .any, none⟩, -- TimeEpochRefusals
  ⟨0x2101, 1, 0x1, 0x1, .wall, .ro, 0, 0, .any, .any, none⟩, -- TimeWallNow
  ⟨0x2101, 1, 0x2, 0x2, .wall, .wo, 0, 0, .any, .any, none⟩, -- TimeWallSet
  ⟨0x2101, 1, 0x3, 0x3, .u8, .wo, 0, 0, .within 1 1, .any, none⟩, -- TimeSnapshot
  ⟨0x2101, 1, 0x4, 0x4, .ticks, .ro, 0, 0, .any, .any, none⟩, -- TimeSnapGrid
  ⟨0x2101, 1, 0x5, 0x5, .wall, .ro, 0, 0, .any, .any, none⟩, -- TimeSnapWall
  ⟨0x2101, 1, 0x6, 0x6, .i32, .ro, 0, 0, .any, .any, none⟩, -- TimeRate
  ⟨0x2101, 1, 0x7, 0x7, .i64, .ro, 0, 0, .any, .any, none⟩, -- TimeOffset
  ⟨0x2101, 1, 0x8, 0x8, .i64, .ro, 0, 0, .any, .any, none⟩, -- TimeMeanPathDelay
  ⟨0x2101, 1, 0x9, 0x9, .bool, .ro, 0, 0, .any, .any, none⟩, -- TimeLocked
  ⟨0x2101, 1, 0xa, 0xa, .u32, .ro, 0, 0, .any, .any, none⟩, -- TimeStepCount
  ⟨0x2101, 1, 0xb, 0xb, .i16, .nv, 37, 0, .any, .any, none⟩, -- TimeUtcOffset
  ⟨0x2101, 1, 0xc, 0xc, .bool, .ro, 0, 0, .any, .any, none⟩, -- TimeOnFallback
  ⟨0x2101, 1, 0xd, 0xd, .u64, .rw, 34359738368, 0, .any, .any, none⟩, -- TimeFallbackIncrement
  ⟨0x2101, 1, 0xe, 0xe, .bool, .rw, 1, 0, .any, .any, none⟩, -- TimeFallbackAuto
  ⟨0x2101, 1, 0x10, 0x10, .u32, .rw, 0, 0, .any, .any, none⟩, -- TimeCommit
  ⟨0x2101, 1, 0x11, 0x11, .bool, .rwc, 1, 0, .any, .any, (some .time)⟩, -- TimeServoEnable
  ⟨0x2101, 1, 0x12, 0x12, .u32, .rwc, 72089600, 0, .any, .any, (some .time)⟩, -- TimeServoKp
  ⟨0x2101, 1, 0x13, 0x13, .u32, .rwc, 4521984, 0, .any, .any, (some .time)⟩, -- TimeServoKi
  ⟨0x2101, 1, 0x14, 0x14, .u32, .rwc, 549755814, 0, .any, .any, (some .time)⟩, -- TimeServoIntLimit
  ⟨0x2101, 1, 0x15, 0x15, .u32, .rwc, 1000, 0, .any, .any, (some .time)⟩, -- TimeStepThreshold
  ⟨0x2101, 1, 0x16, 0x16, .u8, .rwc, 4, 0, .any, .upTo 8, (some .time)⟩, -- TimePathDelayFilter
  ⟨0x2102, 1, 0x1, 0x4, .u8, .rwc, 0, 0, .any, .upTo 3, (some .time)⟩, -- PtpPortRole
  ⟨0x2102, 1, 0x5, 0x8, .i8, .rwc, 253, 0, .any, .logInterval, (some .time)⟩, -- PtpLogSyncInterval
  ⟨0x2102, 1, 0x9, 0xc, .i8, .rwc, 253, 0, .any, .logInterval, (some .time)⟩, -- PtpLogDelayReqInterval
  ⟨0x2102, 1, 0xd, 0xd, .u8, .rwc, 0, 0, .any, .any, (some .time)⟩, -- PtpDomain
  ⟨0x2102, 1, 0xe, 0xe, .u8, .rwc, 0, 0, .any, .upTo 1, (some .time)⟩, -- PtpDelayMechanism
  ⟨0x2102, 1, 0xf, 0xf, .u64, .rwc, 0x5A51200000000000 + Config.serialNumber, 0, .any, .any, (some .time)⟩, -- PtpClockIdentity
  ⟨0x2102, 1, 0x10, 0x10, .u8, .rwc, 4, 0, .any, .any, (some .time)⟩, -- PtpSyncTimeout
  ⟨0x2103, 1, 0x1, 0x4, .u32, .ro, 0, 0, .any, .any, none⟩, -- PtpSyncSent
  ⟨0x2103, 1, 0x5, 0x8, .u32, .ro, 0, 0, .any, .any, none⟩, -- PtpSyncReceived
  ⟨0x2103, 1, 0x9, 0xc, .u32, .ro, 0, 0, .any, .any, none⟩, -- PtpForwarded
  ⟨0x2103, 1, 0xd, 0x10, .u32, .ro, 0, 0, .any, .any, none⟩, -- PtpRxDiscards
  ⟨0x2103, 1, 0x11, 0x14, .i64, .ro, 0, 0, .any, .any, none⟩] -- PtpPeerDelay

/-- Objects of the strip range (object tables of spec chapter 04). -/
def stripRows : List Row := [
  ⟨0x3840, 64, 0x1, 0x1, .u8, .ro, 0, 0, .any, .any, none⟩, -- StripState
  ⟨0x3840, 64, 0x2, 0x2, .u8, .wo, 0, 0, .within 1 1, .any, none⟩, -- StripReset
  ⟨0x3840, 64, 0x3, 0x3, .bool, .rw, 1, 0, .any, .any, none⟩, -- StripPower
  ⟨0x3840, 64, 0x4, 0x4, .u16, .ro, 0, 0, .any, .any, none⟩, -- StripStageDelay
  ⟨0x3840, 64, 0x5, 0x5, .u16, .ro, 0, 0, .any, .any, none⟩, -- StripStageDelayPlan
  ⟨0x3840, 64, 0x6, 0x6, .u32, .ro, 0, 0, .any, .any, none⟩, -- StripVoidSent
  ⟨0x3840, 64, 0x7, 0x7, .u32, .ro, 0, 0, .any, .any, none⟩, -- StripVoidReceived
  ⟨0x3840, 64, 0x8, 0xb, .u8, .ro, 0, 0, .any, .any, none⟩, -- StripLeadPlan
  ⟨0x3840, 64, 0x10, 0x17, .u8, .ro, 255, 0, .any, .any, none⟩, -- StripLeadMin
  ⟨0x3840, 64, 0x18, 0x1f, .u32, .ro, 0, 0, .any, .any, none⟩, -- StripLateGranules
  ⟨0x3840, 64, 0x20, 0x27, .ticks, .ro, 0, 0, .any, .any, none⟩] -- StripLateTime

/-- Objects of the tile range (object tables of spec chapter 04). -/
def tileRows : List Row := [
  ⟨0x3880, 16, 0x1, 0x1, .u8, .ro, 0, 0, .any, .any, none⟩, -- TileState
  ⟨0x3880, 16, 0x2, 0x2, .u8, .wo, 0, 0, .within 1 1, .any, none⟩, -- TileReset
  ⟨0x3880, 16, 0x3, 0x3, .bool, .rw, 1, 0, .any, .any, none⟩, -- TilePower
  ⟨0x3880, 16, 0x4, 0x4, .u16, .ro, 0, 0, .any, .any, none⟩, -- TileStageDelay
  ⟨0x3880, 16, 0x5, 0x5, .u32, .ro, 0, 0, .any, .any, none⟩, -- TileVoidVerdicts
  ⟨0x3880, 16, 0x6, 0x6, .u32, .ro, 0, 0, .any, .any, none⟩, -- TileVoidSent
  ⟨0x3880, 16, 0x7, 0x7, .ticks, .ro, 0, 0, .any, .any, none⟩] -- TileReturnTime

/-- Objects of the lane range (object tables of spec chapters 05, 06, 07, 09, 13). -/
def laneRows : List Row := [
  ⟨0x3000, 512, 0x1, 0x1, .u32, .rw, 0, 0, .any, .any, none⟩, -- LaneCommit
  ⟨0x3000, 512, 0x10, 0x17, .u64, .rwc, 0, 0xffff000000000000, .any, .any, (some .lane)⟩, -- LaneFrameFreq
  ⟨0x3000, 512, 0x18, 0x1f, .u32, .rwc, 0, 0xff000000, .any, .any, (some .lane)⟩, -- LaneFramePhase
  ⟨0x3000, 512, 0x28, 0x2f, .ticks, .rwc, 0, 0, .any, .any, (some .lane)⟩, -- LaneFrameOrigin
  ⟨0x3000, 512, 0x30, 0x30, .u32, .rw, 0, 0, .any, .any, none⟩, -- LaneDacCommit
  ⟨0x3000, 512, 0x31, 0x31, .u8, .rwc, 0, 0, .upTo 1, .any, (some .dac)⟩, -- LaneDacMode
  ⟨0x3000, 512, 0x32, 0x32, .u8, .rwc, 200, 0, .any, .within 50 250, (some .dac)⟩, -- LaneFullScale
  ⟨0x3000, 512, 0x33, 0x33, .u16, .rwc, 32768, 0, .any, .any, (some .lane)⟩, -- LaneDigitalGain
  ⟨0x3000, 512, 0x38, 0x38, .u32, .rw, 0, 0, .any, .any, none⟩, -- LaneWaveCommit
  ⟨0x3000, 512, 0x39, 0x39, .domain, .rwc, 0, 0, .any, .any, (some .wave)⟩, -- LaneLibrary
  ⟨0x3000, 512, 0x3a, 0x3a, .u16, .rwc, 0, 0, .any, .any, (some .wave)⟩, -- LaneStreamRate
  ⟨0x3000, 512, 0x3b, 0x3b, .u16, .rwc, 0, 0, .any, .any, (some .wave)⟩, -- LaneStreamBuffer
  ⟨0x3000, 512, 0x3c, 0x3c, .u16, .ro, 0, 0, .any, .any, none⟩, -- LaneResidentUsed
  ⟨0x3000, 512, 0x3d, 0x3d, .u32, .ro, 0, 0, .any, .any, none⟩, -- LaneStreamLate
  ⟨0x3000, 512, 0x3e, 0x3e, .u32, .ro, 0, 0, .any, .any, none⟩, -- LaneSatCount
  ⟨0x3000, 512, 0x3f, 0x3f, .u32, .ro, 0, 0, .any, .any, none⟩, -- LaneEnergyMetaErrors
  ⟨0x3000, 512, 0x40, 0x40, .u16, .ro, 0, 0, .any, .any, none⟩, -- LaneStreamGranted
  ⟨0x3000, 512, 0x2, 0x2, .domain, .rwc, 0, 0, .any, .any, (some .program)⟩, -- LaneProgram
  ⟨0x3000, 512, 0x3, 0x3, .u32, .rw, 0, 0, .any, .any, none⟩, -- LaneProgCommit
  ⟨0x3000, 512, 0x4, 0x4, .u8, .rwc, 255, 0, .upToOr 63 255, .any, (some .program)⟩, -- LaneShotGroup
  ⟨0x3000, 512, 0x5, 0x5, .u16, .rwc, 8192, 0, .any, .within 128 8192, (some .program)⟩, -- LaneHorizon
  ⟨0x3000, 512, 0x6, 0x6, .domain, .rwc, 0, 0, .any, .any, (some .program)⟩, -- LaneSegTable
  ⟨0x3000, 512, 0x7, 0x7, .u8, .rw, 0, 0, .upTo 2, .any, none⟩, -- LaneRun
  ⟨0x3000, 512, 0x8, 0x8, .u8, .ro, 0, 0, .any, .any, none⟩, -- LaneState
  ⟨0x3000, 512, 0x9, 0x9, .u32, .ro, 0, 0, .any, .any, none⟩, -- LaneLoadError
  ⟨0x3000, 512, 0xa, 0xa, .u32, .ro, 0, 0, .any, .any, none⟩, -- LanePc
  ⟨0x3000, 512, 0xb, 0xb, .u32, .rwc, 0, 0xfe80, .any, .any, (some .lane)⟩, -- LaneSegMarker
  ⟨0x3000, 512, 0xc, 0xc, .u64, .ro, 0, 0, .any, .any, none⟩, -- LaneShots
  ⟨0x3000, 512, 0xd, 0xd, .u64, .ro, 0, 0, .any, .any, none⟩, -- LaneSpoiled
  ⟨0x3000, 512, 0xe, 0xe, .u32, .ro, 0, 0, .any, .any, none⟩, -- LaneLateJumps
  ⟨0x3000, 512, 0xf, 0xf, .u32, .ro, 0, 0, .any, .any, none⟩, -- LaneSyncOverruns
  ⟨0x3000, 512, 0x20, 0x20, .u32, .ro, 0, 0, .any, .any, none⟩, -- LaneSyncTimeouts
  ⟨0x3000, 512, 0x21, 0x21, .u32, .ro, 0, 0, .any, .any, none⟩, -- LaneLatePeriods
  ⟨0x3000, 512, 0x22, 0x22, .u32, .ro, 0, 0, .any, .any, none⟩, -- LaneWindowConflicts
  ⟨0x3000, 512, 0x25, 0x25, .u64, .ro, 0, 0, .any, .any, none⟩, -- LaneLastSpoil
  ⟨0x3000, 512, 0x23, 0x23, .u16, .ro, 0, 0, .any, .any, none⟩, -- LaneSegEntry
  ⟨0x3000, 512, 0x24, 0x24, .u32, .ro, 0, 0, .any, .any, none⟩, -- LaneSegJumps
  ⟨0x3000, 512, 0x50, 0x50, .u32, .ro, 0, 0, .any, .any, none⟩, -- LaneSpecAllocated
  ⟨0x3000, 512, 0x51, 0x51, .u32, .ro, 0, 0, .any, .any, none⟩, -- LaneSpecSquashed
  ⟨0x3000, 512, 0x52, 0x52, .u32, .ro, 0, 0, .any, .any, none⟩, -- LaneSpecRefused
  ⟨0x3000, 512, 0x53, 0x53, .u32, .ro, 0, 0, .any, .any, none⟩, -- LaneMispredictSpoils
  ⟨0x3000, 512, 0x41, 0x41, .u32, .rw, 0, 0, .any, .any, none⟩, -- LaneFetchCommit
  ⟨0x3000, 512, 0x42, 0x42, .u16, .rwc, 0, 0, .upTo 2813, .any, (some .fetch)⟩, -- LaneFetchRate
  ⟨0x3000, 512, 0x43, 0x43, .u16, .ro, 0, 0, .any, .any, none⟩, -- LaneFetchGranted
  ⟨0x3000, 512, 0x44, 0x44, .u32, .ro, 0, 0, .any, .any, none⟩, -- LaneClass1Demoted
  ⟨0x3000, 512, 0x45, 0x45, .u32, .ro, 0, 0, .any, .any, none⟩] -- LaneClass1Late

/-- Objects of the input range (object tables of spec chapter 08). -/
def inputRows : List Row := [
  ⟨0x3400, 64, 0x1, 0x1, .u32, .rw, 0, 0, .any, .any, none⟩, -- InputCommit
  ⟨0x3400, 64, 0x2, 0x2, .u8, .rwc, 3, 0, .within 1 3, .any, (some .input)⟩, -- InputZone
  ⟨0x3400, 64, 0x3, 0x3, .u32, .ro, 0, 0, .any, .any, none⟩, -- InputOverRange
  ⟨0x3400, 64, 0x4, 0x4, .ticks, .ro, 0, 0, .any, .any, none⟩, -- InputOverRangeTime
  ⟨0x3400, 64, 0x5, 0x5, .u16, .ro, 0, 0, .any, .any, none⟩] -- InputOpenSlots

/-- Objects of the slot range (object tables of spec chapter 08). -/
def slotRows : List Row := [
  ⟨0x3440, 1024, 0x1, 0x1, .u32, .rw, 0, 0, .any, .any, none⟩, -- SlotCommit
  ⟨0x3440, 1024, 0x2, 0x2, .u32, .rw, 0, 0, .any, .any, none⟩, -- SlotKernelCommit
  ⟨0x3440, 1024, 0x3, 0x3, .u16, .rwc, 0, 0, .any, .upTo 1024, (some .kernel)⟩, -- SlotWindowLength
  ⟨0x3440, 1024, 0x4, 0x4, .domain, .rwc, 0, 0, .any, .any, (some .kernel)⟩, -- SlotKernel
  ⟨0x3440, 1024, 0x5, 0x5, .u64, .rwc, 0, 0xffff000000000000, .any, .any, (some .disc)⟩, -- SlotFreq
  ⟨0x3440, 1024, 0x6, 0x6, .u32, .rwc, 0, 0xff000000, .any, .any, (some .disc)⟩, -- SlotPhase
  ⟨0x3440, 1024, 0x7, 0x7, .ticks, .rwc, 0, 0, .any, .any, (some .disc)⟩, -- SlotOrigin
  ⟨0x3440, 1024, 0x8, 0x8, .u8, .rwc, 0, 0xf8, .any, .any, (some .disc)⟩, -- SlotBoundaryEnable
  ⟨0x3440, 1024, 0x9, 0xb, .u32, .rwc, 0, 0, .any, .any, (some .disc)⟩, -- SlotBoundaryNormal
  ⟨0x3440, 1024, 0xc, 0xe, .i64, .rwc, 0, 0, .any, .any, (some .disc)⟩, -- SlotBoundaryOffset
  ⟨0x3440, 1024, 0xf, 0xf, .u16, .rwc, 0, 0, .any, .any, (some .disc)⟩, -- SlotRegionMap
  ⟨0x3440, 1024, 0x10, 0x10, .bool, .rwc, 0, 0, .any, .any, (some .disc)⟩, -- SlotProvisionalEnable
  ⟨0x3440, 1024, 0x11, 0x11, .bool, .rw, 0, 0, .any, .any, none⟩, -- SlotExportGrain
  ⟨0x3440, 1024, 0x20, 0x20, .u64, .ro, 0, 0, .any, .any, none⟩, -- SlotWindows
  ⟨0x3440, 1024, 0x21, 0x24, .u32, .ro, 0, 0, .any, .any, none⟩, -- SlotVerdictCount
  ⟨0x3440, 1024, 0x25, 0x25, .u32, .ro, 0, 0, .any, .any, none⟩, -- SlotVoidVerdicts
  ⟨0x3440, 1024, 0x26, 0x26, .u32, .ro, 0, 0, .any, .any, none⟩, -- SlotSatCount
  ⟨0x3440, 1024, 0x27, 0x27, .grain, .ro, 0, 0, .any, .any, none⟩, -- SlotLastGrain
  ⟨0x3440, 1024, 0x28, 0x28, .u8, .ro, 0, 0, .any, .any, none⟩, -- SlotLastVerdict
  ⟨0x3440, 1024, 0x29, 0x29, .u32, .ro, 0, 0, .any, .any, none⟩, -- SlotProvIssued
  ⟨0x3440, 1024, 0x2a, 0x2a, .u32, .ro, 0, 0, .any, .any, none⟩, -- SlotProvContradicted
  ⟨0x3440, 1024, 0x40, 0x7f, .u64, .rwc, 0, 0xff00000000000000, .any, .any, (some .disc)⟩] -- SlotMargin

/-- Objects of the cell range (object tables of spec chapter 09). -/
def cellRows : List Row := [
  ⟨0x3900, 256, 0x1, 0x1, .u32, .rw, 0, 0, .any, .any, none⟩, -- CellCommit
  ⟨0x3900, 256, 0x2, 0x2, .u8, .rwc, 0, 0, .upTo 3, .any, (some .cell)⟩, -- CellFunction
  ⟨0x3900, 256, 0x3, 0x3, .u8, .rwc, 0, 0, .any, .any, (some .cell)⟩, -- CellInvert
  ⟨0x3900, 256, 0x4, 0xb, .u16, .rwc, 4095, 0xf000, .cellInput, .any, (some .cell)⟩, -- CellInput
  ⟨0x3900, 256, 0xc, 0xf, .u64, .rwc, 0, 0, .any, .any, (some .cell)⟩, -- CellTruthTable
  ⟨0x3900, 256, 0x10, 0x10, .u64, .ro, 0, 0, .any, .any, none⟩, -- CellOutputs
  ⟨0x3900, 256, 0x11, 0x11, .u32, .ro, 0, 0, .any, .any, none⟩, -- CellVoids
  ⟨0x3900, 256, 0x12, 0x12, .u32, .ro, 0, 0, .any, .any, none⟩, -- CellOverwrites
  ⟨0x3900, 256, 0x13, 0x13, .u8, .ro, 0, 0, .any, .any, none⟩, -- CellLastOutput
  ⟨0x3900, 256, 0x14, 0x14, .u32, .ro, 0, 0, .any, .any, none⟩] -- CellProvIssued

/-- Objects of the table range (object tables of spec chapter 09). -/
def tableRows : List Row := [
  ⟨0x3a00, 4, 0x1, 0x1, .u32, .rw, 0, 0, .any, .any, none⟩, -- TableCommit
  ⟨0x3a00, 4, 0x2, 0x2, .domain, .rwc, 0, 0, .any, .any, (some .table)⟩, -- TableContent
  ⟨0x3a00, 4, 0x3, 0x3, .u8, .rwc, 0, 0, .any, .upTo 16, (some .table)⟩, -- TableBitCount
  ⟨0x3a00, 4, 0x4, 0x5, .u64, .rwc, 0, 0, .any, .any, (some .table)⟩, -- TableAddressCells
  ⟨0x3a00, 4, 0x6, 0x6, .u64, .ro, 0, 0, .any, .any, none⟩, -- TableLookups
  ⟨0x3a00, 4, 0x7, 0x7, .u32, .ro, 0, 0, .any, .any, none⟩, -- TableVoids
  ⟨0x3a00, 4, 0x8, 0x8, .u16, .ro, 0, 0, .any, .any, none⟩, -- TableLastCode
  ⟨0x3a00, 4, 0x9, 0x9, .u32, .ro, 0, 0, .any, .any, none⟩] -- TableProvIssued

/-- Objects of the energy range (object tables of spec chapter 10). -/
def energyRows : List Row := [
  ⟨0x2200, 1, 0x1, 0x1, .u8, .ro, 0, 0, .any, .any, none⟩, -- EnergyGovState
  ⟨0x2200, 1, 0x2, 0x2, .u32, .ro, 0, 0, .any, .any, none⟩, -- EnergyStagingRefusals
  ⟨0x2200, 1, 0x3, 0x3, .u32, .ro, 0, 0, .any, .any, none⟩, -- EnergyReleaseRefusals
  ⟨0x2200, 1, 0x4, 0x4, .u32, .ro, 0, 0, .any, .any, none⟩, -- EnergyLastRefusal
  ⟨0x2200, 1, 0x5, 0x5, .ticks, .ro, 0, 0, .any, .any, none⟩, -- EnergyLastRefusalTime
  ⟨0x2201, 1, 0x1, 0x1, .u32, .rw, 0, 0, .any, .any, none⟩, -- EnergyProfileCommit
  ⟨0x2201, 1, 0x2, 0x2, .u32, .rw, 0, 0, .any, .any, none⟩, -- EnergyCeilingCommit
  ⟨0x2202, 1, 0x1, 0xc, .u64, .cnt, 0, 0, .any, .any, (some .energyCeiling)⟩, -- EnergyStageCeiling
  ⟨0x2203, 1, 0x1, 0xc, .u64, .ro, 0, 0, .any, .any, none⟩, -- EnergyStageSum
  ⟨0x2210, 4, 0x1, 0x80, .u64, .cnt, 32768, 0, .any, .any, (some .energyProfile)⟩, -- EnergyStageFractions
  ⟨0x2214, 4, 0x1, 0x80, .u16, .cnt, 32768, 0, .any, .any, (some .energyProfile)⟩, -- EnergyPinFactor
  ⟨0x2218, 4, 0x1, 0x80, .u64, .cnt, 0, 0, .any, .any, (some .energyProfile)⟩, -- EnergyBiasProfile
  ⟨0x2220, 12, 0x1, 0x80, .u64, .cnt, 0, 0, .any, .any, (some .energyCeiling)⟩, -- EnergyLaneCeiling
  ⟨0x2230, 12, 0x1, 0x80, .u64, .ro, 0, 0, .any, .any, none⟩, -- EnergyLaneSum
  ⟨0x2240, 4, 0x1, 0x80, .u32, .ro, 0, 0, .any, .any, none⟩] -- EnergyLaneRefusals

/-- Objects of the bias range (object tables of spec chapter 11). -/
def biasRows : List Row := [
  ⟨0x3200, 512, 0x1, 0x1, .u32, .rw, 0, 0, .any, .any, none⟩, -- BiasCommit
  ⟨0x3200, 512, 0x2, 0x2, .u32, .rwc, 0, 0xfffc0000, .any, .any, (some .bias)⟩, -- BiasTarget
  ⟨0x3200, 512, 0x3, 0x3, .u16, .rwc, 0, 0, .any, .within 1 4096, (some .bias)⟩, -- BiasStep
  ⟨0x3200, 512, 0x4, 0x4, .u16, .rwc, 0, 0, .any, .within 1 10000, (some .bias)⟩, -- BiasInterval
  ⟨0x3200, 512, 0x5, 0x5, .u32, .ro, 0, 0, .any, .any, none⟩, -- BiasCode
  ⟨0x3200, 512, 0x6, 0x6, .u8, .ro, 0, 0, .any, .any, none⟩, -- BiasState
  ⟨0x3200, 512, 0x7, 0x7, .u32, .nv, 131072, 0, .any, .any, none⟩, -- BiasPowerUpValue
  ⟨0x3200, 512, 0x8, 0x8, .u32, .nv, 131072, 0, .any, .any, none⟩, -- BiasFaultValue
  ⟨0x3200, 512, 0x9, 0x9, .u32, .nv, 655376, 0xe000, .slew, .any, none⟩, -- BiasSafeSlew
  ⟨0x3200, 512, 0xa, 0xa, .ticks, .ro, 0, 0, .any, .any, none⟩, -- BiasTargetTime
  ⟨0x3200, 512, 0xb, 0xb, .u32, .ro, 0, 0, .any, .any, none⟩, -- BiasDiscards
  ⟨0x3200, 512, 0xc, 0xc, .i32, .ro, 0, 0, .any, .any, none⟩] -- BiasTrackError

/-- Objects of the monitor range (object tables of spec chapter 11). -/
def monitorRows : List Row := [
  ⟨0x2c00, 1, 0x1, 0x1, .u32, .rw, 0, 0, .any, .any, none⟩, -- MonCommit
  ⟨0x2c00, 1, 0x2, 0x2, .u8, .rwc, 0, 0, .upTo 3, .any, (some .monitor)⟩, -- MonRunMode
  ⟨0x2c00, 1, 0x3, 0x3, .u32, .rwc, 20000000, 0, .any, .within 15000000 25000000, (some .monitor)⟩, -- MonLinePeriod
  ⟨0x2c00, 1, 0x4, 0x4, .u8, .rwc, 255, 0, .upToOr 127 255, .any, (some .monitor)⟩, -- MonTriggerChannel
  ⟨0x2c00, 1, 0x5, 0x5, .u16, .rwc, 600, 0, .any, .any, (some .monitor)⟩, -- MonRotatePeriod
  ⟨0x2c00, 1, 0x6, 0x6, .u8, .wo, 0, 0, .within 1 1, .any, none⟩, -- MonRestart
  ⟨0x2c00, 1, 0x10, 0x10, .u8, .ro, 0, 0, .any, .any, none⟩, -- MonState
  ⟨0x2c00, 1, 0x11, 0x11, .u8, .ro, 0, 0, .any, .any, none⟩, -- MonCurrentEntry
  ⟨0x2c00, 1, 0x12, 0x12, .u32, .ro, 0, 0, .any, .any, none⟩, -- MonOverruns
  ⟨0x2c00, 1, 0x13, 0x13, .bool, .ro, 0, 0, .any, .any, none⟩, -- MonTriggerHeld
  ⟨0x2c00, 1, 0x14, 0x14, .u32, .ro, 0, 0, .any, .any, none⟩, -- MonPasses
  ⟨0x2c00, 1, 0x15, 0x15, .u8, .ro, 0, 0, .any, .any, none⟩, -- MonSpareSlice
  ⟨0x2c00, 1, 0x16, 0x16, .ticks, .ro, 0, 0, .any, .any, none⟩, -- MonLastRotation
  ⟨0x2c10, 1, 0x1, 0x40, .u64, .rwc, 0, 0xfff0000000000000, .any, .any, (some .monitor)⟩, -- MonEntry
  ⟨0x2c11, 1, 0x1, 0x40, .u32, .rwc, 0, 0, .any, .any, (some .monitor)⟩, -- MonDeadband
  ⟨0x2c20, 1, 0x1, 0x40, .grain, .ro, 0, 0, .any, .any, none⟩, -- MonResult
  ⟨0x2c21, 1, 0x1, 0x40, .ticks, .ro, 0, 0, .any, .any, none⟩] -- MonResultTime

/-- Objects of the trig range (object tables of spec chapter 12). -/
def trigRows : List Row := [
  ⟨0x2b10, 16, 0x1, 0x1, .u32, .rw, 0, 0, .any, .any, none⟩, -- TrigCommit
  ⟨0x2b10, 16, 0x2, 0x2, .i16, .rwc, 500, 0, .any, .any, (some .trig)⟩, -- TrigThreshold
  ⟨0x2b10, 16, 0x3, 0x3, .u8, .rwc, 20, 0, .any, .upTo 100, (some .trig)⟩, -- TrigHysteresis
  ⟨0x2b10, 16, 0x4, 0x4, .u8, .rwc, 0, 0, .any, .upTo 2, (some .trig)⟩, -- TrigEdge
  ⟨0x2b10, 16, 0x5, 0x5, .u16, .rwc, 0, 0, .any, .any, (some .trig)⟩, -- TrigHoldOff
  ⟨0x2b10, 16, 0x6, 0x6, .u8, .rwc, 255, 0, .any, .upToOr 127 255, (some .trig)⟩, -- TrigEventChannel
  ⟨0x2b10, 16, 0x7, 0x7, .bool, .rwc, 0, 0, .any, .any, (some .trig)⟩, -- TdcStreamEnable
  ⟨0x2b10, 16, 0x8, 0x8, .domain, .rwc, 0, 0, .any, .any, (some .trig)⟩, -- TdcRing
  ⟨0x2b10, 16, 0x10, 0x10, .bool, .ro, 0, 0, .any, .any, none⟩, -- TrigLevel
  ⟨0x2b10, 16, 0x11, 0x11, .u64, .ro, 0, 0, .any, .any, none⟩, -- TrigEdges
  ⟨0x2b10, 16, 0x12, 0x12, .u32, .ro, 0, 0, .any, .any, none⟩, -- TrigHeldOff
  ⟨0x2b10, 16, 0x13, 0x13, .u16, .ro, 0, 0, .any, .any, none⟩, -- TdcQueueDepth
  ⟨0x2b10, 16, 0x14, 0x14, .u16, .ro, 0, 0, .any, .any, none⟩, -- TdcQueuePeak
  ⟨0x2b10, 16, 0x15, 0x15, .u64, .ro, 0, 0, .any, .any, none⟩, -- TdcLost
  ⟨0x2b10, 16, 0x16, 0x16, .u32, .ro, 0, 0, .any, .any, none⟩, -- TdcGaps
  ⟨0x2b10, 16, 0x17, 0x17, .ticks, .ro, 0, 0, .any, .any, none⟩, -- TdcLastTick
  ⟨0x2b10, 16, 0x18, 0x18, .u8, .ro, 0, 0, .any, .any, none⟩, -- TdcLastPs
  ⟨0x2b10, 16, 0x19, 0x19, .u32, .ro, 0, 0, .any, .any, none⟩, -- TdcRingWrite
  ⟨0x2b10, 16, 0x1a, 0x1a, .u32, .rw, 0, 0, .any, .any, none⟩] -- TdcRingRead

/-- Objects of the gleaner range (object tables of spec chapter 12). -/
def gleanerRows : List Row := [
  ⟨0x2a00, 1, 0x1, 0x1, .u32, .rw, 0, 0, .any, .any, none⟩, -- GlnCommit
  ⟨0x2a00, 1, 0x2, 0x2, .u8, .rwc, 0, 0x80, .any, .any, (some .gleaner)⟩, -- GlnSourceEnable
  ⟨0x2a00, 1, 0x3, 0x3, .u16, .rwc, 10, 0, .any, .any, (some .gleaner)⟩, -- GlnCanaryDeadband
  ⟨0x2a00, 1, 0x4, 0x4, .u8, .rwc, 255, 0, .any, .upToOr 127 255, (some .gleaner)⟩, -- GlnGapEvent
  ⟨0x2a10, 16, 0x1, 0x1, .domain, .rwc, 0, 0, .any, .any, (some .gleaner)⟩, -- GlnRing
  ⟨0x2a20, 16, 0x1, 0x1, .u64, .rwc, 0, 0, .any, .any, (some .gleaner)⟩, -- GlnSlotMask
  ⟨0x2a30, 16, 0x1, 0x1, .u32, .ro, 0, 0, .any, .any, none⟩, -- GlnRingWrite
  ⟨0x2a30, 16, 0x2, 0x2, .u32, .rw, 0, 0, .any, .any, none⟩, -- GlnRingRead
  ⟨0x2a30, 16, 0x3, 0x3, .u64, .ro, 0, 0, .any, .any, none⟩, -- GlnRecords
  ⟨0x2a30, 16, 0x4, 0x4, .u64, .ro, 0, 0, .any, .any, none⟩, -- GlnLost
  ⟨0x2a30, 16, 0x5, 0x5, .u32, .ro, 0, 0, .any, .any, none⟩, -- GlnGaps
  ⟨0x2a30, 16, 0x6, 0x6, .u16, .ro, 0, 0, .any, .any, none⟩, -- GlnBufferPeak
  ⟨0x2a40, 8, 0x1, 0x1, .u32, .rw, 0, 0, .any, .any, none⟩, -- CapCommit
  ⟨0x2a40, 8, 0x2, 0x2, .u8, .rw, 15, 0, .upToOr 8 15, .any, none⟩, -- CapOwner
  ⟨0x2a40, 8, 0x3, 0x3, .u16, .rwc, 4095, 0, .any, .capSource, (some .capture)⟩, -- CapSource
  ⟨0x2a40, 8, 0x4, 0x4, .u32, .rwc, 0, 0, .any, .any, (some .capture)⟩, -- CapLength
  ⟨0x2a40, 8, 0x5, 0x5, .u32, .rwc, 0, 0, .any, .any, (some .capture)⟩, -- CapDelay
  ⟨0x2a40, 8, 0x6, 0x6, .u8, .rwc, 255, 0, .any, .upToOr 127 255, (some .capture)⟩, -- CapTriggerChannel
  ⟨0x2a40, 8, 0x7, 0x7, .u8, .rwc, 255, 0, .any, .upToOr 127 255, (some .capture)⟩, -- CapArmChannel
  ⟨0x2a40, 8, 0x8, 0x8, .u8, .rwc, 0, 0, .any, .upTo 2, (some .capture)⟩, -- CapPolicy
  ⟨0x2a40, 8, 0x9, 0x9, .u8, .rwc, 0, 0, .any, .upTo 1, (some .capture)⟩, -- CapMode
  ⟨0x2a40, 8, 0xa, 0xa, .domain, .rwc, 0, 0, .any, .any, (some .capture)⟩, -- CapRing
  ⟨0x2a40, 8, 0xb, 0xb, .u8, .rwc, 255, 0, .any, .upToOr 127 255, (some .capture)⟩, -- CapDoneEvent
  ⟨0x2a40, 8, 0x10, 0x10, .u8, .wo, 0, 0, .upTo 1, .any, none⟩, -- CapArm
  ⟨0x2a40, 8, 0x11, 0x11, .u8, .ro, 0, 0, .any, .any, none⟩, -- CapState
  ⟨0x2a40, 8, 0x12, 0x12, .u64, .ro, 0, 0, .any, .any, none⟩, -- CapRecords
  ⟨0x2a40, 8, 0x13, 0x13, .u32, .ro, 0, 0, .any, .any, none⟩, -- CapIgnored
  ⟨0x2a40, 8, 0x14, 0x14, .u32, .ro, 0, 0, .any, .any, none⟩, -- CapRestarts
  ⟨0x2a40, 8, 0x15, 0x15, .u32, .ro, 0, 0, .any, .any, none⟩, -- CapOverruns
  ⟨0x2a40, 8, 0x16, 0x16, .u32, .ro, 0, 0, .any, .any, none⟩, -- CapOverflows
  ⟨0x2a40, 8, 0x17, 0x17, .u32, .ro, 0, 0, .any, .any, none⟩, -- CapRingWrite
  ⟨0x2a40, 8, 0x18, 0x18, .u32, .rw, 0, 0, .any, .any, none⟩, -- CapRingRead
  ⟨0x2a80, 64, 0x1, 0x1, .u32, .rw, 0, 0, .any, .any, none⟩, -- SheafCommit
  ⟨0x2a80, 64, 0x2, 0x2, .domain, .rwc, 0, 0, .any, .any, (some .sheaf)⟩, -- SheafRing
  ⟨0x2a80, 64, 0x3, 0x3, .u16, .rwc, 0, 0, .any, .any, (some .sheaf)⟩, -- SheafFirstSlot
  ⟨0x2a80, 64, 0x4, 0x4, .u16, .rwc, 0, 0, .any, .upTo 1024, (some .sheaf)⟩, -- SheafSlotCount
  ⟨0x2a80, 64, 0x5, 0x5, .u8, .rwc, 0, 0, .any, .any, (some .sheaf)⟩, -- SheafFirstCell
  ⟨0x2a80, 64, 0x6, 0x6, .u16, .rwc, 0, 0, .any, .upTo 256, (some .sheaf)⟩, -- SheafCellCount
  ⟨0x2a80, 64, 0x7, 0x7, .u8, .rwc, 0, 0xf0, .any, .any, (some .sheaf)⟩, -- SheafCodes
  ⟨0x2a80, 64, 0x8, 0x8, .bool, .rwc, 0, 0, .any, .any, (some .sheaf)⟩, -- SheafGrains
  ⟨0x2a80, 64, 0x10, 0x10, .u64, .ro, 0, 0, .any, .any, none⟩, -- SheafWritten
  ⟨0x2a80, 64, 0x11, 0x11, .u32, .ro, 0, 0, .any, .any, none⟩, -- SheafLost
  ⟨0x2a80, 64, 0x12, 0x12, .u32, .ro, 0, 0, .any, .any, none⟩, -- SheafLateItems
  ⟨0x2a80, 64, 0x13, 0x13, .u32, .ro, 0, 0, .any, .any, none⟩, -- SheafRingWrite
  ⟨0x2a80, 64, 0x14, 0x14, .u32, .rw, 0, 0, .any, .any, none⟩] -- SheafRingRead

/-- Objects of the memory range (object tables of spec chapter 13). -/
def memoryRows : List Row := [
  ⟨0x2800, 1, 0x1, 0x1, .u8, .ro, 0, 0, .any, .any, none⟩, -- MemState
  ⟨0x2800, 1, 0x2, 0x2, .u32, .ro, 0, 0, .any, .any, none⟩, -- MemCapacity
  ⟨0x2800, 1, 0x3, 0x3, .u32, .konst, 0, 0, .any, .any, none⟩, -- MemClass1Pool
  ⟨0x2800, 1, 0x4, 0x4, .u32, .ro, 0, 0, .any, .any, none⟩, -- MemClass1Granted
  ⟨0x2800, 1, 0x5, 0x5, .u64, .ro, 0, 0, .any, .any, none⟩, -- MemHostForced
  ⟨0x2800, 1, 0x7, 0x7, .u16, .rwc, 20, 0, .any, .within 5 1000, (some .memory)⟩, -- MemHostMaxWait
  ⟨0x2800, 1, 0x10, 0x10, .u32, .rw, 0, 0, .any, .any, none⟩, -- MemCommit
  ⟨0x2801, 1, 0x1, 0x1, .u32, .rwc, 286720, 0, .any, .any, (some .memory)⟩, -- MemPartClass1Limit
  ⟨0x2801, 1, 0x2, 0x9, .u32, .rwc, 0, 0, .any, .any, (some .memory)⟩, -- MemPartClass1Limit
  ⟨0x2802, 1, 0x1, 0x1, .u32, .rwc, 40960, 0, .any, .any, (some .memory)⟩, -- MemPartClass2Share
  ⟨0x2802, 1, 0x2, 0x9, .u32, .rwc, 0, 0, .any, .any, (some .memory)⟩, -- MemPartClass2Share
  ⟨0x2803, 1, 0x1, 0x1, .u32, .rwc, 16000, 0, .any, .any, (some .memory)⟩, -- MemPartClass4Limit
  ⟨0x2803, 1, 0x2, 0x9, .u32, .rwc, 0, 0, .any, .any, (some .memory)⟩, -- MemPartClass4Limit
  ⟨0x2804, 1, 0x1, 0x9, .u32, .ro, 0, 0, .any, .any, none⟩, -- MemPartClass1Granted
  ⟨0x2810, 1, 0x1, 0xc, .u64, .ro, 0, 0, .any, .any, none⟩, -- MemClassCount
  ⟨0x2811, 9, 0x1, 0xc, .u64, .ro, 0, 0, .any, .any, none⟩, -- MemPartClassCount
  ⟨0x2820, 1, 0x1, 0x8, .u32, .ro, 0, 0, .any, .any, none⟩, -- MemChanConfig
  ⟨0x2821, 1, 0x1, 0x8, .u32, .ro, 0, 0, .any, .any, none⟩, -- MemRefreshForced
  ⟨0x2822, 1, 0x1, 0x8, .u64, .ro, 0, 0, .any, .any, none⟩, -- MemEccCorrected
  ⟨0x2823, 1, 0x1, 0x8, .u32, .ro, 0, 0, .any, .any, none⟩, -- MemEccRetries
  ⟨0x2824, 1, 0x1, 0x8, .u32, .ro, 0, 0, .any, .any, none⟩, -- MemEccUncorrected
  ⟨0x2825, 1, 0x1, 0x8, .u32, .ro, 0, 0, .any, .any, none⟩, -- MemHotTime
  ⟨0x2826, 1, 0x1, 0x8, .u8, .ro, 0, 0, .any, .any, none⟩, -- MemDramTemp
  ⟨0x2840, 8, 0x1, 0x80, .u64, .rwc, 0, 0xfffffe0000000000, .regionOwner, .any, (some .memory)⟩] -- MemRegion

/-- Objects of the bale range (object tables of spec chapter 14). -/
def baleRows : List Row := [
  ⟨0x2900, 1, 0x1, 0x1, .u8, .ro, 0, 0, .any, .any, none⟩, -- BaleState
  ⟨0x2900, 1, 0x2, 0x2, .u8, .ro, 0, 0, .any, .any, none⟩, -- BaleUnitsBusy
  ⟨0x2900, 1, 0x3, 0x3, .u64, .ro, 0, 0, .any, .any, none⟩, -- BaleLoadDecodes
  ⟨0x2900, 1, 0x4, 0x4, .u32, .ro, 0, 0, .any, .any, none⟩, -- BaleLoadBad
  ⟨0x2900, 1, 0x5, 0x5, .u64, .ro, 0, 0, .any, .any, none⟩, -- BaleBytesIn
  ⟨0x2900, 1, 0x6, 0x6, .u64, .ro, 0, 0, .any, .any, none⟩, -- BaleBytesOut
  ⟨0x2910, 9, 0x1, 0x1, .u32, .rw, 0, 0, .any, .any, none⟩, -- BaleQueueCommit
  ⟨0x2910, 9, 0x2, 0x2, .domain, .rwc, 0, 0, .any, .any, (some .baleQueue)⟩, -- BaleQueueRing
  ⟨0x2910, 9, 0x3, 0x3, .u32, .rw, 0, 0, .any, .any, none⟩, -- BaleQueueTail
  ⟨0x2910, 9, 0x4, 0x4, .u32, .ro, 0, 0, .any, .any, none⟩, -- BaleQueueHead
  ⟨0x2910, 9, 0x5, 0x5, .u64, .ro, 0, 0, .any, .any, none⟩, -- BaleJobsDone
  ⟨0x2910, 9, 0x6, 0x6, .u32, .ro, 0, 0, .any, .any, none⟩, -- BaleJobsBad
  ⟨0x2910, 9, 0x7, 0x7, .u32, .ro, 0, 0, .any, .any, none⟩, -- BaleJobsSuspended
  ⟨0x2910, 9, 0x8, 0x8, .u32, .ro, 0, 0, .any, .any, none⟩, -- BaleJobsRefused
  ⟨0x2910, 9, 0x9, 0x9, .u32, .ro, 0, 0, .any, .any, none⟩] -- BaleJobsMemError

/-- Objects of the host range (object tables of spec chapter 15). -/
def hostRows : List Row := [
  ⟨0x2e00, 1, 0x1, 0x1, .u8, .ro, 0, 0, .any, .any, none⟩, -- PcieLinkState
  ⟨0x2e00, 1, 0x2, 0x2, .u8, .ro, 0, 0, .any, .any, none⟩, -- PcieLinkRate
  ⟨0x2e00, 1, 0x3, 0x3, .u8, .ro, 0, 0, .any, .any, none⟩, -- PcieLinkWidth
  ⟨0x2e00, 1, 0x4, 0x4, .bool, .ro, 0, 0, .any, .any, none⟩, -- PcieDegraded
  ⟨0x2e00, 1, 0x5, 0x5, .u32, .ro, 0, 0, .any, .any, none⟩, -- PcieLinkDownCount
  ⟨0x2e00, 1, 0x6, 0x6, .u8, .nv, 0, 0, .upTo 1, .any, none⟩, -- PcieLinkDownAction
  ⟨0x2e00, 1, 0x7, 0x7, .u8, .ro, 0, 0, .any, .any, none⟩, -- PcieNumVfs
  ⟨0x2e00, 1, 0x8, 0x8, .u32, .ro, 0, 0, .any, .any, none⟩, -- PcieApertureRefused
  ⟨0x2e00, 1, 0x9, 0x9, .u32, .ro, 0, 0, .any, .any, none⟩, -- PcieRingRefused
  ⟨0x2e01, 1, 0x1, 0x10, .u8, .rw, 15, 0, .upToOr 8 15, .any, none⟩, -- PcieDmaOwner
  ⟨0x2e02, 1, 0x1, 0x10, .u8, .ro, 0, 0, .any, .any, none⟩, -- PcieDmaState
  ⟨0x2e03, 1, 0x1, 0x9, .u64, .rw, 0, 0xffff00000000fc00, .any, .any, none⟩, -- PcieAperture
  ⟨0x2e10, 9, 0x1, 0x20, .u8, .rw, 255, 0, .upToOr 127 255, .any, none⟩, -- PcieVectorEvent
  ⟨0x2e20, 16, 0x1, 0x1, .u32, .rw, 0, 0, .any, .any, none⟩, -- PcieDmaCommit
  ⟨0x2e20, 16, 0x2, 0x2, .u8, .rwc, 0, 0, .any, .upTo 1, (some .dmaChannel)⟩, -- PcieDmaMode
  ⟨0x2e20, 16, 0x3, 0x3, .u64, .rwc, 0, 0, .any, .any, (some .dmaChannel)⟩, -- PcieDmaRingAddr
  ⟨0x2e20, 16, 0x4, 0x4, .u32, .rwc, 0, 0, .any, .any, (some .dmaChannel)⟩, -- PcieDmaRingBytes
  ⟨0x2e20, 16, 0x5, 0x5, .u8, .rwc, 255, 0, .any, .any, (some .dmaChannel)⟩, -- PcieDmaFollow
  ⟨0x2e20, 16, 0x6, 0x6, .u64, .rwc, 0, 0, .any, .any, (some .dmaChannel)⟩, -- PcieDmaWriteBack
  ⟨0x2e40, 1, 0x1, 0x1, .u8, .nv, 32, 0, .within 1 127, .any, none⟩, -- CanNodeId
  ⟨0x2e40, 1, 0x2, 0x2, .u8, .nv, 3, 0, .upTo 3, .any, none⟩, -- CanArbRate
  ⟨0x2e40, 1, 0x3, 0x3, .u8, .nv, 3, 0, .upTo 3, .any, none⟩, -- CanDataRate
  ⟨0x2e40, 1, 0x4, 0x4, .u8, .ro, 0, 0, .any, .any, none⟩, -- CanNmtState
  ⟨0x2e40, 1, 0x5, 0x5, .u8, .ro, 0, 0, .any, .any, none⟩, -- CanBusState
  ⟨0x2e40, 1, 0x6, 0x6, .u32, .ro, 0, 0, .any, .any, none⟩, -- CanBusOffCount
  ⟨0x2e40, 1, 0x7, 0x7, .u32, .ro, 0, 0, .any, .any, none⟩] -- CanEmcyLost

/-- Objects of the gargor range (object tables of spec chapter 16). -/
def gargorRows : List Row := [
  ⟨0x2d00, 1, 0x1, 0x1, .u32, .rw, 0, 0, .any, .any, none⟩, -- GgCommit
  ⟨0x2d00, 1, 0x2, 0x2, .u8, .rwc, 255, 0, .any, .upToOr 127 255, (some .ggDevice)⟩, -- GgNoticeChannel
  ⟨0x2d10, 4, 0x1, 0x1, .u32, .rw, 0, 0, .any, .any, none⟩, -- GgPortCommit
  ⟨0x2d10, 4, 0x2, 0x2, .bool, .rwc, 0, 0, .any, .any, (some .ggPort)⟩, -- GgPortEnable
  ⟨0x2d10, 4, 0x3, 0x3, .u8, .rwc, 4, 0, .any, .within 1 4, (some .ggPort)⟩, -- GgMaxRate
  ⟨0x2d10, 4, 0x4, 0x4, .bool, .rwc, 0, 0, .any, .any, (some .ggPort)⟩, -- GgRestEnable
  ⟨0x2d10, 4, 0x5, 0x5, .u16, .rwc, 100, 0, .any, .any, (some .ggPort)⟩, -- GgRestDelay
  ⟨0x2d10, 4, 0x6, 0x6, .u16, .rwc, 250, 0, .any, .any, (some .ggPort)⟩, -- GgMarginLimit
  ⟨0x2d10, 4, 0x7, 0x7, .u64, .rwc, 0, 0, .any, .any, (some .ggPort)⟩, -- GgTxTapsFixed
  ⟨0x2d10, 4, 0x8, 0x8, .u8, .rwc, 255, 0, .any, .upToOr 127 255, (some .ggPort)⟩, -- GgStateEvent
  ⟨0x2d10, 4, 0x10, 0x10, .u8, .ro, 0, 0, .any, .any, none⟩, -- GgPortState
  ⟨0x2d10, 4, 0x11, 0x11, .u8, .ro, 0, 0, .any, .any, none⟩, -- GgRate
  ⟨0x2d10, 4, 0x12, 0x12, .u32, .ro, 0, 0, .any, .any, none⟩, -- GgPartnerSerial
  ⟨0x2d10, 4, 0x13, 0x13, .u64, .ro, 0, 0, .any, .any, none⟩, -- GgTxTaps
  ⟨0x2d10, 4, 0x14, 0x14, .u16, .ro, 0, 0, .any, .any, none⟩, -- GgMarginMin
  ⟨0x2d10, 4, 0x15, 0x15, .u32, .ro, 0, 0, .any, .any, none⟩, -- GgTrainings
  ⟨0x2d10, 4, 0x16, 0x16, .u32, .ro, 0, 0, .any, .any, none⟩, -- GgFallbacks
  ⟨0x2d10, 4, 0x17, 0x17, .u32, .ro, 0, 0, .any, .any, none⟩, -- GgRetrains
  ⟨0x2d10, 4, 0x18, 0x18, .u32, .ro, 0, 0, .any, .any, none⟩, -- GgHeaderErrors
  ⟨0x2d10, 4, 0x19, 0x19, .u32, .ro, 0, 0, .any, .any, none⟩, -- GgBipErrors
  ⟨0x2d10, 4, 0x1a, 0x1a, .u32, .ro, 0, 0, .any, .any, none⟩, -- GgFrameErrors
  ⟨0x2d10, 4, 0x1b, 0x1b, .u32, .ro, 0, 0, .any, .any, none⟩, -- GgFramesLost
  ⟨0x2d10, 4, 0x1c, 0x1c, .u32, .ro, 0, 0, .any, .any, none⟩, -- GgVerdictOverBudget
  ⟨0x2d10, 4, 0x1d, 0x1d, .u32, .ro, 0, 0, .any, .any, none⟩, -- GgRestEntries
  ⟨0x2d10, 4, 0x1e, 0x1e, .u32, .ro, 0, 0, .any, .any, none⟩, -- GgEventUnaligned
  ⟨0x2d10, 4, 0x1f, 0x1f, .u32, .ro, 0, 0, .any, .any, none⟩, -- GgEventVoid
  ⟨0x2d10, 4, 0x20, 0x24, .u64, .ro, 0, 0, .any, .any, none⟩, -- GgFramesSent
  ⟨0x2d10, 4, 0x28, 0x2c, .u64, .ro, 0, 0, .any, .any, none⟩, -- GgFramesReceived
  ⟨0x2d14, 4, 0x1, 0x1, .domain, .rw, 0, 0, .any, .any, none⟩, -- GgRemoteBuffer
  ⟨0x2d14, 4, 0x2, 0x2, .u8, .wo, 0, 0, .within 1 1, .any, none⟩, -- GgRemoteDoorbell
  ⟨0x2d14, 4, 0x3, 0x3, .u8, .ro, 0, 0, .any, .any, none⟩, -- GgRemoteStatus
  ⟨0x2d18, 4, 0x1, 0x1, .u32, .rw, 0, 0, .any, .any, none⟩, -- GgBulkCommit
  ⟨0x2d18, 4, 0x2, 0x2, .u8, .rwc, 0, 0, .any, .upTo 2, (some .ggBulk)⟩, -- GgBulkOp
  ⟨0x2d18, 4, 0x3, 0x3, .domain, .rwc, 0, 0, .any, .any, (some .ggBulk)⟩, -- GgBulkLocal
  ⟨0x2d18, 4, 0x4, 0x4, .u16, .rwc, 0, 0, .any, .upTo 1023, (some .ggBulk)⟩, -- GgBulkRemoteRegion
  ⟨0x2d18, 4, 0x5, 0x5, .u64, .rwc, 0, 0, .any, .any, (some .ggBulk)⟩, -- GgBulkRemoteOffset
  ⟨0x2d18, 4, 0x6, 0x6, .u8, .wo, 0, 0, .within 1 1, .any, none⟩, -- GgBulkStart
  ⟨0x2d18, 4, 0x7, 0x7, .u8, .ro, 0, 0, .any, .any, none⟩, -- GgBulkState
  ⟨0x2d18, 4, 0x8, 0x8, .u64, .ro, 0, 0, .any, .any, none⟩, -- GgBulkBytes
  ⟨0x2d20, 4, 0x1, 0x20, .u8, .rwc, 255, 0, .any, .upToOr 127 255, (some .ggPort)⟩, -- GgEventOut
  ⟨0x2d24, 4, 0x1, 0x20, .u8, .rwc, 255, 0, .any, .upToOr 127 255, (some .ggPort)⟩] -- GgEventIn

/-- Objects of the event range (object tables of spec chapter 17). -/
def eventRows : List Row := [
  ⟨0x2500, 1, 0x1, 0x1, .u32, .rw, 0, 0, .any, .any, none⟩, -- EvtCommit
  ⟨0x2500, 1, 0x2, 0x2, .u8, .ro, 0, 0, .any, .any, none⟩, -- EvtQueuePeak
  ⟨0x2501, 1, 0x1, 0x80, .u16, .rwc, 0, 0xfe00, .any, .any, (some .evtChannel)⟩, -- EvtChannelCfg
  ⟨0x2503, 1, 0x1, 0x80, .u32, .rw, 0, 0, .any, .any, none⟩, -- EvtChannelCommit
  ⟨0x2504, 1, 0x0, 0x0, .u8, .wo, 0, 0, .upTo 127, .any, none⟩, -- EvtFire
  ⟨0x2505, 1, 0x1, 0x80, .u64, .ro, 0, 0, .any, .any, none⟩, -- EvtFired
  ⟨0x2506, 1, 0x1, 0x80, .u8, .rw, 0, 0xf8, .any, .any, none⟩, -- EvtFlags
  ⟨0x2507, 1, 0x1, 0x80, .u32, .ro, 0, 0, .any, .any, none⟩, -- EvtMerges
  ⟨0x2508, 1, 0x1, 0x80, .u32, .ro, 0, 0, .any, .any, none⟩, -- EvtOverruns
  ⟨0x2509, 1, 0x1, 0x80, .u32, .ro, 0, 0, .any, .any, none⟩, -- EvtLoops
  ⟨0x250a, 1, 0x1, 0x4, .u64, .rwc, 0, 0xfffe000000000000, .any, .any, (some .evtProducer)⟩, -- EvtTimer
  ⟨0x250b, 1, 0x1, 0x10, .u64, .rwc, 0, 0xfffffff800000000, .any, .any, (some .evtProducer)⟩, -- EvtVerdictProducer
  ⟨0x250c, 1, 0x1, 0x1, .u8, .rwc, 255, 0, .any, .upToOr 127 255, (some .evtProducer)⟩, -- EvtThermalChannel
  ⟨0x250d, 1, 0x1, 0x4, .u8, .rwc, 255, 0, .any, .upToOr 127 255, (some .evtProducer)⟩, -- EvtFaultChannel
  ⟨0x250e, 1, 0x1, 0x80, .u32, .ro, 0, 0, .any, .any, none⟩, -- EvtDropped
  ⟨0x2510, 8, 0x1, 0x80, .u32, .rwc, 0, 0xfffff800, .any, .any, (some .evtChannel)⟩] -- EvtTask

/-- Objects of the calibration range (object tables of spec chapter 18). -/
def calibrationRows : List Row := [
  ⟨0x2600, 1, 0x1, 0x1, .u32, .rw, 0, 0, .any, .any, none⟩, -- CalCommit
  ⟨0x2600, 1, 0x2, 0x2, .u16, .rwc, 31, 0xffe0, .any, .any, (some .calScope)⟩, -- CalItems
  ⟨0x2600, 1, 0x3, 0x3, .u64, .rwc, 18446744073709551615, 0, .any, .any, (some .calScope)⟩, -- CalScopeStrips
  ⟨0x2600, 1, 0x4, 0x4, .u64, .rwc, 18446744073709551615, 0, .any, .any, (some .calScope)⟩, -- CalScopeInputs
  ⟨0x2600, 1, 0x5, 0x5, .u16, .rwc, 65535, 0, .any, .any, (some .calScope)⟩, -- CalScopeTiles
  ⟨0x2600, 1, 0x6, 0x6, .u16, .rwc, 10, 0, .any, .within 1 3600, (some .calScope)⟩, -- CalIdleWait
  ⟨0x2600, 1, 0x7, 0x7, .u8, .rwc, 255, 0, .any, .calSet, (some .calScope)⟩, -- CalSetSlot
  ⟨0x2600, 1, 0x8, 0x8, .u8, .wo, 0, 0, .within 1 1, .any, none⟩, -- CalStart
  ⟨0x2600, 1, 0x9, 0x9, .u8, .wo, 0, 0, .within 1 1, .any, none⟩, -- CalAbort
  ⟨0x2600, 1, 0xa, 0xa, .u8, .ro, 0, 0, .any, .any, none⟩, -- CalState
  ⟨0x2600, 1, 0xb, 0xb, .u16, .ro, 0, 0, .any, .any, none⟩, -- CalUnitsLeft
  ⟨0x2600, 1, 0xc, 0xc, .bool, .rw, 1, 0, .any, .any, none⟩, -- CalInterp
  ⟨0x2600, 1, 0xd, 0xd, .i16, .ro, 0, 0, .any, .any, none⟩, -- CalLidTemp
  ⟨0x2600, 1, 0xe, 0xe, .u32, .ro, 0, 0, .any, .any, none⟩, -- CalTapsPending
  ⟨0x2600, 1, 0xf, 0xf, .i32, .nv, 0, 0, .any, .any, none⟩, -- CalVcalValue
  ⟨0x2600, 1, 0x10, 0x10, .i32, .ro, 0, 0, .any, .any, none⟩, -- CalVcalMeasured
  ⟨0x2600, 1, 0x11, 0x11, .u8, .ro, 0, 0, .any, .any, none⟩, -- CalRunSet
  ⟨0x2600, 1, 0x12, 0x12, .u8, .ro, 0, 0, .any, .any, none⟩, -- CalRunNote
  ⟨0x2601, 1, 0x1, 0x5, .u8, .ro, 0, 0, .any, .any, none⟩, -- CalItemResult
  ⟨0x2601, 1, 0x6, 0xa, .u32, .ro, 0, 0, .any, .any, none⟩, -- CalItemFailures
  ⟨0x2602, 1, 0x1, 0x6, .i16, .ro, 32767, 0, .any, .any, none⟩, -- CalSetTemp
  ⟨0x2603, 1, 0x1, 0x6, .wall, .ro, 0, 0, .any, .any, none⟩, -- CalSetTime
  ⟨0x2605, 1, 0x1, 0x5, .i32, .ro, 0, 0, .any, .any, none⟩, -- CalDriftRate
  ⟨0x2605, 1, 0x6, 0xa, .u32, .ro, 4294967295, 0, .any, .any, none⟩, -- CalDriftHoursLeft
  ⟨0x2606, 1, 0x1, 0x1, .u32, .ro, 0, 0, .any, .any, none⟩] -- CalFlashWrites

/-- Objects of the ageing range (object tables of spec chapter 18). -/
def ageingRows : List Row := [
  ⟨0x2700, 1, 0x1, 0x1, .u8, .wo, 0, 0, .within 1 1, .any, none⟩, -- AgeRecompute
  ⟨0x2700, 1, 0x2, 0x2, .u32, .rw, 86400, 0, .within 3600 604800, .any, none⟩, -- AgeInterval
  ⟨0x2700, 1, 0x3, 0x3, .u16, .rw, 30, 0, .within 5 200, .any, none⟩, -- AgeWatchThreshold
  ⟨0x2700, 1, 0x4, 0x4, .ticks, .ro, 0, 0, .any, .any, none⟩, -- AgeLastTime
  ⟨0x2700, 1, 0x5, 0x5, .u8, .ro, 0, 0, .any, .any, none⟩, -- AgeLastReason
  ⟨0x2700, 1, 0x6, 0x6, .u32, .ro, 0, 0, .any, .any, none⟩, -- AgeOperatingHours
  ⟨0x2700, 1, 0x7, 0x7, .u32, .ro, 4294967295, 0, .any, .any, none⟩, -- AgeHoursLeftMin
  ⟨0x2700, 1, 0x8, 0x8, .u8, .ro, 0, 0, .any, .any, none⟩, -- AgeWorstUnit
  ⟨0x2700, 1, 0x9, 0x9, .wall, .ro, 0, 0, .any, .any, none⟩, -- AgeRetireDate
  ⟨0x2700, 1, 0xa, 0xa, .u16, .konst, 0, 0, .any, .any, none⟩, -- AgeAllowance
  ⟨0x2710, 1, 0x1, 0x50, .u16, .konst, 0, 0, .any, .any, none⟩, -- AgeBaseline
  ⟨0x2711, 1, 0x1, 0x50, .u16, .ro, 0, 0, .any, .any, none⟩, -- AgeStageDelayWorst
  ⟨0x2712, 1, 0x1, 0x50, .u16, .ro, 0, 0, .any, .any, none⟩, -- AgeAllowanceUsed
  ⟨0x2713, 1, 0x1, 0x50, .i16, .ro, 0, 0, .any, .any, none⟩, -- AgePlanMargin
  ⟨0x2714, 1, 0x1, 0x50, .u32, .ro, 4294967295, 0, .any, .any, none⟩, -- AgeHoursLeft
  ⟨0x2715, 1, 0x1, 0x40, .u8, .ro, 0, 0, .any, .any, none⟩] -- AgeLeadShort

/-- Objects of the thermal range (object tables of spec chapter 19). -/
def thermalRows : List Row := [
  ⟨0x2300, 1, 0x1, 0x1, .u8, .ro, 0, 0, .any, .any, none⟩, -- ThermDevState
  ⟨0x2300, 1, 0x2, 0x2, .u8, .ro, 0, 0, .any, .any, none⟩, -- ThermThrottle
  ⟨0x2300, 1, 0x3, 0x3, .u32, .rw, 2000, 0, .upTo 60000, .any, none⟩, -- ThermGrace
  ⟨0x2300, 1, 0x4, 0x4, .u16, .rw, 500, 0, .within 100 1000, .any, none⟩, -- ThermDutyLimit
  ⟨0x2300, 1, 0x5, 0x5, .i16, .ro, 2500, 0, .any, .any, none⟩, -- ThermCoolantEst
  ⟨0x2300, 1, 0x6, 0x6, .u16, .nv, 50, 0, .within 5 2000, .any, none⟩, -- ThermPlateToCoolant
  ⟨0x2300, 1, 0x7, 0x7, .u16, .rw, 10, 0, .within 1 3600, .any, none⟩, -- ThermCorrTau
  ⟨0x2300, 1, 0x8, 0x8, .u64, .ro, 0, 0, .any, .any, none⟩, -- ThermDeadTime
  ⟨0x2300, 1, 0x9, 0x9, .u32, .ro, 0, 0, .any, .any, none⟩, -- ThermEventsSkipped
  ⟨0x2300, 1, 0xa, 0xa, .u32, .ro, 0, 0, .any, .any, none⟩, -- ThermEnforcements
  ⟨0x2301, 1, 0x1, 0x13, .i16, .ro, 0, 0, .any, .any, none⟩, -- ThermNodeTemp
  ⟨0x2302, 1, 0x1, 0x13, .i16, .ro, 0, 0, .any, .any, none⟩, -- ThermNodeRate
  ⟨0x2303, 1, 0x1, 0x13, .u8, .ro, 0, 0, .any, .any, none⟩, -- ThermNodeState
  ⟨0x2304, 1, 0x1, 0x11, .i16, .ro, 0, 0, .any, .any, none⟩, -- ThermDieOffset
  ⟨0x2305, 1, 0x1, 0x11, .i16, .ro, 0, 0, .any, .any, none⟩, -- ThermDiodeTemp
  ⟨0x2306, 1, 0x1, 0x11, .u32, .ro, 0, 0, .any, .any, none⟩] -- ThermDiePower

/-- Objects of the fault range (object tables of spec chapter 19). -/
def faultRows : List Row := [
  ⟨0x2400, 1, 0x1, 0x1, .u8, .ro, 0, 0, .any, .any, none⟩, -- FaultSafeState
  ⟨0x2400, 1, 0x2, 0x2, .u32, .rw, 10000, 0, .within 1 1000000, .any, none⟩, -- FaultHandlerTime
  ⟨0x2400, 1, 0x3, 0x3, .u32, .ro, 0, 0, .any, .any, none⟩, -- FaultHandlerLeft
  ⟨0x2400, 1, 0x4, 0x4, .u8, .wo, 0, 0, .within 1 1, .any, none⟩, -- FaultEnterSafe
  ⟨0x2400, 1, 0x5, 0x5, .u8, .wo, 0, 0, .within 1 1, .any, none⟩, -- FaultLeaveSafe
  ⟨0x2400, 1, 0x6, 0x6, .u32, .ro, 0, 0, .any, .any, none⟩, -- FaultEscalations
  ⟨0x2401, 1, 0x1, 0x4, .u64, .rw, 0, 0, .any, .any, none⟩, -- FaultSticky
  ⟨0x2402, 1, 0x1, 0x4, .u64, .ro, 0, 0, .any, .any, none⟩, -- FaultActive
  ⟨0x2403, 1, 0x1, 0x4, .u32, .ro, 0, 0, .any, .any, none⟩] -- FaultClassCount

/-- Objects of the store range (object tables of spec chapter 20). -/
def storeRows : List Row := [
  ⟨0x2f00, 1, 0x1, 0x1, .u32, .rw, 0, 0, .any, .any, none⟩, -- CsCommit
  ⟨0x2f00, 1, 0x2, 0x2, .domain, .rwc, 0, 0, .any, .any, (some .csImage)⟩, -- CsImage
  ⟨0x2f00, 1, 0x3, 0x3, .u8, .ro, 0, 0, .any, .any, none⟩, -- CsLastCheck
  ⟨0x2f00, 1, 0x4, 0x4, .u8, .ro, 0, 0, .any, .any, none⟩, -- CsActiveSlot
  ⟨0x2f00, 1, 0x5, 0x5, .u8, .ro, 0, 0, .any, .any, none⟩, -- CsNextSlot
  ⟨0x2f00, 1, 0x6, 0x6, .u8, .wo, 0, 0, .upTo 63, .any, none⟩, -- CsStripUpdate
  ⟨0x2f00, 1, 0x7, 0x8, .u8, .ro, 0, 0, .any, .any, none⟩, -- CsSlotVersion
  ⟨0x2f00, 1, 0x9, 0x9, .u32, .ro, 0, 0, .any, .any, none⟩, -- CsImageWrites
  ⟨0x2f00, 1, 0xa, 0xa, .u32, .ro, 0, 0, .any, .any, none⟩, -- CsMachineChecks
  ⟨0x2f00, 1, 0x10, 0x10, .u32, .rw, 0, 0, .any, .any, none⟩, -- CsRollbackCommit
  ⟨0x2f00, 1, 0x11, 0x11, .u8, .cnt, 0, 0, .any, .upTo 64, (some .csRollback)⟩, -- CsRollbackCounter
  ⟨0x2f00, 1, 0x12, 0x12, .u8, .ro, 0, 0, .any, .any, none⟩, -- CsRollbackStepsLeft
  ⟨0x2f01, 1, 0x1, 0x40, .u8, .ro, 0, 0, .any, .any, none⟩, -- CsStripSlot
  ⟨0x2f40, 64, 0x1, 0x1, .u32, .rw, 0, 0, .any, .any, none⟩, -- CsUserCommit
  ⟨0x2f40, 64, 0x2, 0x2, .domain, .rwc, 0, 0, .any, .any, (some .csUser)⟩, -- CsUserRoutine
  ⟨0x2f40, 64, 0x3, 0x3, .u8, .rwc, 255, 0, .any, .upToOr 7 255, (some .csUser)⟩, -- CsUserShotLane
  ⟨0x2f40, 64, 0x4, 0x4, .u8, .wo, 0, 0, .within 1 1, .any, none⟩, -- CsUserStart
  ⟨0x2f40, 64, 0x5, 0x5, .u8, .ro, 0, 0, .any, .any, none⟩, -- CsUserState
  ⟨0x2f40, 64, 0x6, 0x6, .u32, .ro, 0, 0, .any, .any, none⟩, -- CsUserRuns
  ⟨0x2f40, 64, 0x7, 0x7, .u32, .ro, 0, 0, .any, .any, none⟩, -- CsUserOverruns
  ⟨0x2f40, 64, 0x8, 0x8, .u32, .ro, 0, 0, .any, .any, none⟩, -- CsUserAborts
  ⟨0x2f40, 64, 0x10, 0x1f, .u32, .rw, 0, 0, .any, .any, none⟩] -- CsUserScratch

/-- The rows that may describe an index (Table 2-1). -/
def rowsOf (idx : Nat) : List Row :=
  if idx < 0x2000 then profileRows
  else if idx < 0x2100 then deviceRows
  else if idx < 0x2200 then timeRows
  else if idx < 0x2300 then energyRows
  else if idx < 0x2400 then thermalRows
  else if idx < 0x2500 then faultRows
  else if idx < 0x2600 then eventRows
  else if idx < 0x2700 then calibrationRows
  else if idx < 0x2800 then ageingRows
  else if idx < 0x2900 then memoryRows
  else if idx < 0x2A00 then baleRows
  else if idx < 0x2B00 then gleanerRows
  else if idx < 0x2C00 then trigRows
  else if idx < 0x2D00 then monitorRows
  else if idx < 0x2E00 then gargorRows
  else if idx < 0x2F00 then hostRows
  else if idx < 0x3000 then storeRows
  else if idx < 0x3200 then laneRows
  else if idx < 0x3400 then biasRows
  else if idx < 0x3440 then inputRows
  else if idx < 0x3840 then slotRows
  else if idx < 0x3880 then stripRows
  else if idx < 0x3900 then tileRows
  else if idx < 0x3A00 then cellRows
  else tableRows

/-- Whether a row covers an index. -/
def Row.hasIndex (r : Row) (idx : Nat) : Bool := r.base ≤ idx && idx < r.base + r.count
/-- Whether a row covers a sub-index. -/
def Row.hasSub (r : Row) (sub : Nat) : Bool := r.lo ≤ sub && sub ≤ r.hi
/-- The row of an object, if the device implements it (R17). -/
def rowAt (idx sub : Nat) : Option Row := (rowsOf idx).find? (fun r => r.hasIndex idx && r.hasSub sub)
/-- Whether the device implements an index (R17). -/
def indexExists (idx : Nat) : Bool := (rowsOf idx).any (fun r => r.hasIndex idx)
/-- The highest sub-index in use at an index (R16). -/
def highestSub (idx : Nat) : Nat := ((rowsOf idx).filter (fun r => r.hasIndex idx)).foldl (fun m r => max m r.hi) 0
/-- The index of a dictionary key. -/
def keyIndex (k : Nat) : Nat := k / 256
/-- The sub-index of a dictionary key. -/
def keySub (k : Nat) : Nat := k % 256

/-- The default of an object as its table states it (R24); 0 where it states none (log entry 9). -/
def tableDefault (k : Nat) : Nat :=
  match rowAt (keyIndex k) (keySub k) with
  | some r => r.dflt
  | none => 0

end Sys2Proof.Machine
end

