-- ==== Sys2Proof/Machine/Objects.lean ====
section
/-! DEFINITION. The dictionary keys (`index × 256 + sub-index`) of the objects, by the names the spec gives them. A first
argument is the unit, a last one counts from the first sub-index of the row. -/

namespace Sys2Proof.Machine.Obj

/-- DeviceType, 0x1000:00 (spec 02). -/
def deviceType : Nat := 0x100000
/-- ErrorRegister, 0x1001:00 (spec 02). -/
def errorRegister : Nat := 0x100100
/-- DeviceName, 0x1008:00 (spec 02). -/
def deviceName : Nat := 0x100800
/-- HardwareVersion, 0x1009:00 (spec 02). -/
def hardwareVersion : Nat := 0x100900
/-- SoftwareVersion, 0x100A:00 (spec 02). -/
def softwareVersion : Nat := 0x100a00
/-- HeartbeatTime, 0x1017:00 (spec 02). -/
def heartbeatTime : Nat := 0x101700
/-- VendorId, 0x1018:01 (spec 02). -/
def vendorId : Nat := 0x101801
/-- ProductCode, 0x1018:02 (spec 02). -/
def productCode : Nat := 0x101802
/-- RevisionNumber, 0x1018:03 (spec 02). -/
def revisionNumber : Nat := 0x101803
/-- SerialNumber, 0x1018:04 (spec 02). -/
def serialNumber : Nat := 0x101804
/-- DevState, 0x2000:01 (spec 02). -/
def devState : Nat := 0x200001
/-- DevPartitionsEnabled, 0x2000:02 (spec 02). -/
def devPartitionsEnabled : Nat := 0x200002
/-- DevRfEnable, 0x2000:03 (spec 02). -/
def devRfEnable : Nat := 0x200003
/-- DevShotNumber, 0x2000:04 (spec 02). -/
def devShotNumber : Nat := 0x200004
/-- DevCanWriteMask, 0x2000:05 (spec 02). -/
def devCanWriteMask : Nat := 0x200005
/-- DevGargorRemoteWrite, 0x2000:06 (spec 02). -/
def devGargorRemoteWrite : Nat := 0x200006
/-- DevSpeculationLimit, 0x2000:07 (spec 02). -/
def devSpeculationLimit : Nat := 0x200007
/-- DevCommit, 0x2000:09 (spec 02). -/
def devCommit : Nat := 0x200009
/-- DevChangeRecordsLeft, 0x2000:0A (spec 02). -/
def devChangeRecordsLeft : Nat := 0x20000a
/-- DevCommitsDeferred, 0x2000:0B (spec 02). -/
def devCommitsDeferred : Nat := 0x20000b
/-- DevCntExpectedDigest, 0x2000:0C (spec 02). -/
def devCntExpectedDigest : Nat := 0x20000c
/-- DevMailboxAborts, 0x2000:0D (spec 02). -/
def devMailboxAborts : Nat := 0x20000d
/-- DevMailboxDiscards, 0x2000:0E (spec 02). -/
def devMailboxDiscards : Nat := 0x20000e
/-- DevCommitWaitTime, 0x2000:0F (spec 02). -/
def devCommitWaitTime : Nat := 0x20000f
/-- DevChangeTime, 0x2002:01 (spec 02). -/
def devChangeTime (j : Nat) : Nat := 0x200201 + j
/-- DevChangeRecord, 0x2003:01 (spec 02). -/
def devChangeRecord (j : Nat) : Nat := 0x200301 + j
/-- DevNvWear, 0x2004:01 (spec 02). -/
def devNvWear : Nat := 0x200401
/-- DevNvWritesLeft, 0x2004:02 (spec 02). -/
def devNvWritesLeft : Nat := 0x200402
/-- DevNvRefused, 0x2004:03 (spec 02). -/
def devNvRefused : Nat := 0x200403
/-- PartLaneMap, 0x2005:01 (spec 02). -/
def partLaneMap (j : Nat) : Nat := 0x200501 + j
/-- PartInputMap, 0x2006:01 (spec 02). -/
def partInputMap (j : Nat) : Nat := 0x200601 + j
/-- PartEventMap, 0x2007:01 (spec 02). -/
def partEventMap (j : Nat) : Nat := 0x200701 + j
/-- PartCellMap, 0x2008:01 (spec 02). -/
def partCellMap (j : Nat) : Nat := 0x200801 + j
/-- PartTableMap, 0x2008:11 (spec 02). -/
def partTableMap : Nat := 0x200811
/-- TimeGridNow, 0x2100:01 (spec 03). -/
def timeGridNow : Nat := 0x210001
/-- TimeGridState, 0x2100:02 (spec 03). -/
def timeGridState : Nat := 0x210002
/-- TimeRefState, 0x2100:03 (spec 03). -/
def timeRefState : Nat := 0x210003
/-- TimeRefLosses, 0x2100:04 (spec 03). -/
def timeRefLosses : Nat := 0x210004
/-- TimeRefFreqError, 0x2100:05 (spec 03). -/
def timeRefFreqError : Nat := 0x210005
/-- TimeRefSkew, 0x2100:06 (spec 03). -/
def timeRefSkew : Nat := 0x210006
/-- TimeEpochRole, 0x2100:07 (spec 03). -/
def timeEpochRole : Nat := 0x210007
/-- TimeEpochPort, 0x2100:08 (spec 03). -/
def timeEpochPort : Nat := 0x210008
/-- TimeEpochOffset, 0x2100:09 (spec 03). -/
def timeEpochOffset : Nat := 0x210009
/-- TimeEpochDelay, 0x2100:0A (spec 03). -/
def timeEpochDelay : Nat := 0x21000a
/-- TimeEpochRefusals, 0x2100:0B (spec 03). -/
def timeEpochRefusals : Nat := 0x21000b
/-- TimeWallNow, 0x2101:01 (spec 03). -/
def timeWallNow : Nat := 0x210101
/-- TimeWallSet, 0x2101:02 (spec 03). -/
def timeWallSet : Nat := 0x210102
/-- TimeSnapshot, 0x2101:03 (spec 03). -/
def timeSnapshot : Nat := 0x210103
/-- TimeSnapGrid, 0x2101:04 (spec 03). -/
def timeSnapGrid : Nat := 0x210104
/-- TimeSnapWall, 0x2101:05 (spec 03). -/
def timeSnapWall : Nat := 0x210105
/-- TimeRate, 0x2101:06 (spec 03). -/
def timeRate : Nat := 0x210106
/-- TimeOffset, 0x2101:07 (spec 03). -/
def timeOffset : Nat := 0x210107
/-- TimeMeanPathDelay, 0x2101:08 (spec 03). -/
def timeMeanPathDelay : Nat := 0x210108
/-- TimeLocked, 0x2101:09 (spec 03). -/
def timeLocked : Nat := 0x210109
/-- TimeStepCount, 0x2101:0A (spec 03). -/
def timeStepCount : Nat := 0x21010a
/-- TimeUtcOffset, 0x2101:0B (spec 03). -/
def timeUtcOffset : Nat := 0x21010b
/-- TimeOnFallback, 0x2101:0C (spec 03). -/
def timeOnFallback : Nat := 0x21010c
/-- TimeFallbackIncrement, 0x2101:0D (spec 03). -/
def timeFallbackIncrement : Nat := 0x21010d
/-- TimeFallbackAuto, 0x2101:0E (spec 03). -/
def timeFallbackAuto : Nat := 0x21010e
/-- TimeCommit, 0x2101:10 (spec 03). -/
def timeCommit : Nat := 0x210110
/-- TimeServoEnable, 0x2101:11 (spec 03). -/
def timeServoEnable : Nat := 0x210111
/-- TimeServoKp, 0x2101:12 (spec 03). -/
def timeServoKp : Nat := 0x210112
/-- TimeServoKi, 0x2101:13 (spec 03). -/
def timeServoKi : Nat := 0x210113
/-- TimeServoIntLimit, 0x2101:14 (spec 03). -/
def timeServoIntLimit : Nat := 0x210114
/-- TimeStepThreshold, 0x2101:15 (spec 03). -/
def timeStepThreshold : Nat := 0x210115
/-- TimePathDelayFilter, 0x2101:16 (spec 03). -/
def timePathDelayFilter : Nat := 0x210116
/-- PtpPortRole, 0x2102:01 (spec 03). -/
def ptpPortRole (j : Nat) : Nat := 0x210201 + j
/-- PtpLogSyncInterval, 0x2102:05 (spec 03). -/
def ptpLogSyncInterval (j : Nat) : Nat := 0x210205 + j
/-- PtpLogDelayReqInterval, 0x2102:09 (spec 03). -/
def ptpLogDelayReqInterval (j : Nat) : Nat := 0x210209 + j
/-- PtpDomain, 0x2102:0D (spec 03). -/
def ptpDomain : Nat := 0x21020d
/-- PtpDelayMechanism, 0x2102:0E (spec 03). -/
def ptpDelayMechanism : Nat := 0x21020e
/-- PtpClockIdentity, 0x2102:0F (spec 03). -/
def ptpClockIdentity : Nat := 0x21020f
/-- PtpSyncTimeout, 0x2102:10 (spec 03). -/
def ptpSyncTimeout : Nat := 0x210210
/-- PtpSyncSent, 0x2103:01 (spec 03). -/
def ptpSyncSent (j : Nat) : Nat := 0x210301 + j
/-- PtpSyncReceived, 0x2103:05 (spec 03). -/
def ptpSyncReceived (j : Nat) : Nat := 0x210305 + j
/-- PtpForwarded, 0x2103:09 (spec 03). -/
def ptpForwarded (j : Nat) : Nat := 0x210309 + j
/-- PtpRxDiscards, 0x2103:0D (spec 03). -/
def ptpRxDiscards (j : Nat) : Nat := 0x21030d + j
/-- PtpPeerDelay, 0x2103:11 (spec 03). -/
def ptpPeerDelay (j : Nat) : Nat := 0x210311 + j
/-- StripState, 0x3840:01 (spec 04). -/
def stripState (n : Nat) : Nat := 0x384001 + n * 256
/-- StripReset, 0x3840:02 (spec 04). -/
def stripReset (n : Nat) : Nat := 0x384002 + n * 256
/-- StripPower, 0x3840:03 (spec 04). -/
def stripPower (n : Nat) : Nat := 0x384003 + n * 256
/-- StripStageDelay, 0x3840:04 (spec 04). -/
def stripStageDelay (n : Nat) : Nat := 0x384004 + n * 256
/-- StripStageDelayPlan, 0x3840:05 (spec 04). -/
def stripStageDelayPlan (n : Nat) : Nat := 0x384005 + n * 256
/-- StripVoidSent, 0x3840:06 (spec 04). -/
def stripVoidSent (n : Nat) : Nat := 0x384006 + n * 256
/-- StripVoidReceived, 0x3840:07 (spec 04). -/
def stripVoidReceived (n : Nat) : Nat := 0x384007 + n * 256
/-- StripLeadPlan, 0x3840:08 (spec 04). -/
def stripLeadPlan (n j : Nat) : Nat := 0x384008 + n * 256 + j
/-- StripLeadMin, 0x3840:10 (spec 04). -/
def stripLeadMin (n j : Nat) : Nat := 0x384010 + n * 256 + j
/-- StripLateGranules, 0x3840:18 (spec 04). -/
def stripLateGranules (n j : Nat) : Nat := 0x384018 + n * 256 + j
/-- StripLateTime, 0x3840:20 (spec 04). -/
def stripLateTime (n j : Nat) : Nat := 0x384020 + n * 256 + j
/-- TileState, 0x3880:01 (spec 04). -/
def tileState (n : Nat) : Nat := 0x388001 + n * 256
/-- TileReset, 0x3880:02 (spec 04). -/
def tileReset (n : Nat) : Nat := 0x388002 + n * 256
/-- TilePower, 0x3880:03 (spec 04). -/
def tilePower (n : Nat) : Nat := 0x388003 + n * 256
/-- TileStageDelay, 0x3880:04 (spec 04). -/
def tileStageDelay (n : Nat) : Nat := 0x388004 + n * 256
/-- TileVoidVerdicts, 0x3880:05 (spec 04). -/
def tileVoidVerdicts (n : Nat) : Nat := 0x388005 + n * 256
/-- TileVoidSent, 0x3880:06 (spec 04). -/
def tileVoidSent (n : Nat) : Nat := 0x388006 + n * 256
/-- TileReturnTime, 0x3880:07 (spec 04). -/
def tileReturnTime (n : Nat) : Nat := 0x388007 + n * 256
/-- LaneCommit, 0x3000:01 (spec 06). -/
def laneCommit (n : Nat) : Nat := 0x300001 + n * 256
/-- LaneProgram, 0x3000:02 (spec 05). -/
def laneProgram (n : Nat) : Nat := 0x300002 + n * 256
/-- LaneProgCommit, 0x3000:03 (spec 05). -/
def laneProgCommit (n : Nat) : Nat := 0x300003 + n * 256
/-- LaneShotGroup, 0x3000:04 (spec 05). -/
def laneShotGroup (n : Nat) : Nat := 0x300004 + n * 256
/-- LaneHorizon, 0x3000:05 (spec 05). -/
def laneHorizon (n : Nat) : Nat := 0x300005 + n * 256
/-- LaneSegTable, 0x3000:06 (spec 05). -/
def laneSegTable (n : Nat) : Nat := 0x300006 + n * 256
/-- LaneRun, 0x3000:07 (spec 05). -/
def laneRun (n : Nat) : Nat := 0x300007 + n * 256
/-- LaneState, 0x3000:08 (spec 05). -/
def laneState (n : Nat) : Nat := 0x300008 + n * 256
/-- LaneLoadError, 0x3000:09 (spec 05). -/
def laneLoadError (n : Nat) : Nat := 0x300009 + n * 256
/-- LanePc, 0x3000:0A (spec 05). -/
def lanePc (n : Nat) : Nat := 0x30000a + n * 256
/-- LaneSegMarker, 0x3000:0B (spec 05). -/
def laneSegMarker (n : Nat) : Nat := 0x30000b + n * 256
/-- LaneShots, 0x3000:0C (spec 05). -/
def laneShots (n : Nat) : Nat := 0x30000c + n * 256
/-- LaneSpoiled, 0x3000:0D (spec 05). -/
def laneSpoiled (n : Nat) : Nat := 0x30000d + n * 256
/-- LaneLateJumps, 0x3000:0E (spec 05). -/
def laneLateJumps (n : Nat) : Nat := 0x30000e + n * 256
/-- LaneSyncOverruns, 0x3000:0F (spec 05). -/
def laneSyncOverruns (n : Nat) : Nat := 0x30000f + n * 256
/-- LaneSyncTimeouts, 0x3000:20 (spec 05). -/
def laneSyncTimeouts (n : Nat) : Nat := 0x300020 + n * 256
/-- LaneLatePeriods, 0x3000:21 (spec 05). -/
def laneLatePeriods (n : Nat) : Nat := 0x300021 + n * 256
/-- LaneWindowConflicts, 0x3000:22 (spec 05). -/
def laneWindowConflicts (n : Nat) : Nat := 0x300022 + n * 256
/-- LaneLastSpoil, 0x3000:25 (spec 05). -/
def laneLastSpoil (n : Nat) : Nat := 0x300025 + n * 256
/-- LaneFrameFreq, 0x3000:10 (spec 06). -/
def laneFrameFreq (n j : Nat) : Nat := 0x300010 + n * 256 + j
/-- LaneFramePhase, 0x3000:18 (spec 06). -/
def laneFramePhase (n j : Nat) : Nat := 0x300018 + n * 256 + j
/-- LaneFrameOrigin, 0x3000:28 (spec 06). -/
def laneFrameOrigin (n j : Nat) : Nat := 0x300028 + n * 256 + j
/-- LaneDacCommit, 0x3000:30 (spec 06). -/
def laneDacCommit (n : Nat) : Nat := 0x300030 + n * 256
/-- LaneDacMode, 0x3000:31 (spec 06). -/
def laneDacMode (n : Nat) : Nat := 0x300031 + n * 256
/-- LaneFullScale, 0x3000:32 (spec 06). -/
def laneFullScale (n : Nat) : Nat := 0x300032 + n * 256
/-- LaneDigitalGain, 0x3000:33 (spec 06). -/
def laneDigitalGain (n : Nat) : Nat := 0x300033 + n * 256
/-- LaneWaveCommit, 0x3000:38 (spec 06). -/
def laneWaveCommit (n : Nat) : Nat := 0x300038 + n * 256
/-- LaneLibrary, 0x3000:39 (spec 06). -/
def laneLibrary (n : Nat) : Nat := 0x300039 + n * 256
/-- LaneStreamRate, 0x3000:3A (spec 06). -/
def laneStreamRate (n : Nat) : Nat := 0x30003a + n * 256
/-- LaneStreamBuffer, 0x3000:3B (spec 06). -/
def laneStreamBuffer (n : Nat) : Nat := 0x30003b + n * 256
/-- LaneResidentUsed, 0x3000:3C (spec 06). -/
def laneResidentUsed (n : Nat) : Nat := 0x30003c + n * 256
/-- LaneStreamLate, 0x3000:3D (spec 06). -/
def laneStreamLate (n : Nat) : Nat := 0x30003d + n * 256
/-- LaneSatCount, 0x3000:3E (spec 06). -/
def laneSatCount (n : Nat) : Nat := 0x30003e + n * 256
/-- LaneEnergyMetaErrors, 0x3000:3F (spec 06). -/
def laneEnergyMetaErrors (n : Nat) : Nat := 0x30003f + n * 256
/-- LaneStreamGranted, 0x3000:40 (spec 06). -/
def laneStreamGranted (n : Nat) : Nat := 0x300040 + n * 256
/-- LaneSegEntry, 0x3000:23 (spec 07). -/
def laneSegEntry (n : Nat) : Nat := 0x300023 + n * 256
/-- LaneSegJumps, 0x3000:24 (spec 07). -/
def laneSegJumps (n : Nat) : Nat := 0x300024 + n * 256
/-- InputCommit, 0x3400:01 (spec 08). -/
def inputCommit (n : Nat) : Nat := 0x340001 + n * 256
/-- InputZone, 0x3400:02 (spec 08). -/
def inputZone (n : Nat) : Nat := 0x340002 + n * 256
/-- InputOverRange, 0x3400:03 (spec 08). -/
def inputOverRange (n : Nat) : Nat := 0x340003 + n * 256
/-- InputOverRangeTime, 0x3400:04 (spec 08). -/
def inputOverRangeTime (n : Nat) : Nat := 0x340004 + n * 256
/-- InputOpenSlots, 0x3400:05 (spec 08). -/
def inputOpenSlots (n : Nat) : Nat := 0x340005 + n * 256
/-- SlotCommit, 0x3440:01 (spec 08). -/
def slotCommit (n : Nat) : Nat := 0x344001 + n * 256
/-- SlotKernelCommit, 0x3440:02 (spec 08). -/
def slotKernelCommit (n : Nat) : Nat := 0x344002 + n * 256
/-- SlotWindowLength, 0x3440:03 (spec 08). -/
def slotWindowLength (n : Nat) : Nat := 0x344003 + n * 256
/-- SlotKernel, 0x3440:04 (spec 08). -/
def slotKernel (n : Nat) : Nat := 0x344004 + n * 256
/-- SlotFreq, 0x3440:05 (spec 08). -/
def slotFreq (n : Nat) : Nat := 0x344005 + n * 256
/-- SlotPhase, 0x3440:06 (spec 08). -/
def slotPhase (n : Nat) : Nat := 0x344006 + n * 256
/-- SlotOrigin, 0x3440:07 (spec 08). -/
def slotOrigin (n : Nat) : Nat := 0x344007 + n * 256
/-- SlotBoundaryEnable, 0x3440:08 (spec 08). -/
def slotBoundaryEnable (n : Nat) : Nat := 0x344008 + n * 256
/-- SlotBoundaryNormal, 0x3440:09 (spec 08). -/
def slotBoundaryNormal (n j : Nat) : Nat := 0x344009 + n * 256 + j
/-- SlotBoundaryOffset, 0x3440:0C (spec 08). -/
def slotBoundaryOffset (n j : Nat) : Nat := 0x34400c + n * 256 + j
/-- SlotRegionMap, 0x3440:0F (spec 08). -/
def slotRegionMap (n : Nat) : Nat := 0x34400f + n * 256
/-- SlotProvisionalEnable, 0x3440:10 (spec 08). -/
def slotProvisionalEnable (n : Nat) : Nat := 0x344010 + n * 256
/-- SlotExportGrain, 0x3440:11 (spec 08). -/
def slotExportGrain (n : Nat) : Nat := 0x344011 + n * 256
/-- SlotWindows, 0x3440:20 (spec 08). -/
def slotWindows (n : Nat) : Nat := 0x344020 + n * 256
/-- SlotVerdictCount, 0x3440:21 (spec 08). -/
def slotVerdictCount (n j : Nat) : Nat := 0x344021 + n * 256 + j
/-- SlotVoidVerdicts, 0x3440:25 (spec 08). -/
def slotVoidVerdicts (n : Nat) : Nat := 0x344025 + n * 256
/-- SlotSatCount, 0x3440:26 (spec 08). -/
def slotSatCount (n : Nat) : Nat := 0x344026 + n * 256
/-- SlotLastGrain, 0x3440:27 (spec 08). -/
def slotLastGrain (n : Nat) : Nat := 0x344027 + n * 256
/-- SlotLastVerdict, 0x3440:28 (spec 08). -/
def slotLastVerdict (n : Nat) : Nat := 0x344028 + n * 256
/-- SlotProvIssued, 0x3440:29 (spec 08). -/
def slotProvIssued (n : Nat) : Nat := 0x344029 + n * 256
/-- SlotProvContradicted, 0x3440:2A (spec 08). -/
def slotProvContradicted (n : Nat) : Nat := 0x34402a + n * 256
/-- SlotMargin, 0x3440:40 (spec 08). -/
def slotMargin (n j : Nat) : Nat := 0x344040 + n * 256 + j
/-- FbVptInUse, 0x2010:01 (spec 09). -/
def fbVptInUse : Nat := 0x201001
/-- FbVptPeak, 0x2010:02 (spec 09). -/
def fbVptPeak : Nat := 0x201002
/-- FbSpecAllocated, 0x2010:03 (spec 09). -/
def fbSpecAllocated : Nat := 0x201003
/-- FbSpecConfirmed, 0x2010:04 (spec 09). -/
def fbSpecConfirmed : Nat := 0x201004
/-- FbSpecSquashed, 0x2010:05 (spec 09). -/
def fbSpecSquashed : Nat := 0x201005
/-- FbSpecUnconfirmable, 0x2010:06 (spec 09). -/
def fbSpecUnconfirmable : Nat := 0x201006
/-- FbSpecRefused, 0x2010:07 (spec 09). -/
def fbSpecRefused : Nat := 0x201007
/-- FbProvTooLate, 0x2010:08 (spec 09). -/
def fbProvTooLate : Nat := 0x201008
/-- FbRemoteAccepted, 0x2010:09 (spec 09). -/
def fbRemoteAccepted : Nat := 0x201009
/-- FbRemoteMismatch, 0x2010:0A (spec 09). -/
def fbRemoteMismatch : Nat := 0x20100a
/-- FbRemoteVoid, 0x2010:0B (spec 09). -/
def fbRemoteVoid : Nat := 0x20100b
/-- FbCommit, 0x2010:10 (spec 09). -/
def fbCommit : Nat := 0x201010
/-- FbExport, 0x2011:01 (spec 09). -/
def fbExport (n j : Nat) : Nat := 0x201101 + n * 256 + j
/-- FbRemoteIn, 0x2015:01 (spec 09). -/
def fbRemoteIn (j : Nat) : Nat := 0x201501 + j
/-- LaneSpecAllocated, 0x3000:50 (spec 09). -/
def laneSpecAllocated (n : Nat) : Nat := 0x300050 + n * 256
/-- LaneSpecSquashed, 0x3000:51 (spec 09). -/
def laneSpecSquashed (n : Nat) : Nat := 0x300051 + n * 256
/-- LaneSpecRefused, 0x3000:52 (spec 09). -/
def laneSpecRefused (n : Nat) : Nat := 0x300052 + n * 256
/-- LaneMispredictSpoils, 0x3000:53 (spec 09). -/
def laneMispredictSpoils (n : Nat) : Nat := 0x300053 + n * 256
/-- CellCommit, 0x3900:01 (spec 09). -/
def cellCommit (n : Nat) : Nat := 0x390001 + n * 256
/-- CellFunction, 0x3900:02 (spec 09). -/
def cellFunction (n : Nat) : Nat := 0x390002 + n * 256
/-- CellInvert, 0x3900:03 (spec 09). -/
def cellInvert (n : Nat) : Nat := 0x390003 + n * 256
/-- CellInput, 0x3900:04 (spec 09). -/
def cellInput (n j : Nat) : Nat := 0x390004 + n * 256 + j
/-- CellTruthTable, 0x3900:0C (spec 09). -/
def cellTruthTable (n j : Nat) : Nat := 0x39000c + n * 256 + j
/-- CellOutputs, 0x3900:10 (spec 09). -/
def cellOutputs (n : Nat) : Nat := 0x390010 + n * 256
/-- CellVoids, 0x3900:11 (spec 09). -/
def cellVoids (n : Nat) : Nat := 0x390011 + n * 256
/-- CellOverwrites, 0x3900:12 (spec 09). -/
def cellOverwrites (n : Nat) : Nat := 0x390012 + n * 256
/-- CellLastOutput, 0x3900:13 (spec 09). -/
def cellLastOutput (n : Nat) : Nat := 0x390013 + n * 256
/-- CellProvIssued, 0x3900:14 (spec 09). -/
def cellProvIssued (n : Nat) : Nat := 0x390014 + n * 256
/-- TableCommit, 0x3A00:01 (spec 09). -/
def tableCommit (n : Nat) : Nat := 0x3a0001 + n * 256
/-- TableContent, 0x3A00:02 (spec 09). -/
def tableContent (n : Nat) : Nat := 0x3a0002 + n * 256
/-- TableBitCount, 0x3A00:03 (spec 09). -/
def tableBitCount (n : Nat) : Nat := 0x3a0003 + n * 256
/-- TableAddressCells, 0x3A00:04 (spec 09). -/
def tableAddressCells (n j : Nat) : Nat := 0x3a0004 + n * 256 + j
/-- TableLookups, 0x3A00:06 (spec 09). -/
def tableLookups (n : Nat) : Nat := 0x3a0006 + n * 256
/-- TableVoids, 0x3A00:07 (spec 09). -/
def tableVoids (n : Nat) : Nat := 0x3a0007 + n * 256
/-- TableLastCode, 0x3A00:08 (spec 09). -/
def tableLastCode (n : Nat) : Nat := 0x3a0008 + n * 256
/-- TableProvIssued, 0x3A00:09 (spec 09). -/
def tableProvIssued (n : Nat) : Nat := 0x3a0009 + n * 256
/-- EnergyGovState, 0x2200:01 (spec 10). -/
def energyGovState : Nat := 0x220001
/-- EnergyStagingRefusals, 0x2200:02 (spec 10). -/
def energyStagingRefusals : Nat := 0x220002
/-- EnergyReleaseRefusals, 0x2200:03 (spec 10). -/
def energyReleaseRefusals : Nat := 0x220003
/-- EnergyLastRefusal, 0x2200:04 (spec 10). -/
def energyLastRefusal : Nat := 0x220004
/-- EnergyLastRefusalTime, 0x2200:05 (spec 10). -/
def energyLastRefusalTime : Nat := 0x220005
/-- EnergyProfileCommit, 0x2201:01 (spec 10). -/
def energyProfileCommit : Nat := 0x220101
/-- EnergyCeilingCommit, 0x2201:02 (spec 10). -/
def energyCeilingCommit : Nat := 0x220102
/-- EnergyStageCeiling, 0x2202:01 (spec 10). -/
def energyStageCeiling (j : Nat) : Nat := 0x220201 + j
/-- EnergyStageSum, 0x2203:01 (spec 10). -/
def energyStageSum (j : Nat) : Nat := 0x220301 + j
/-- EnergyStageFractions, 0x2210:01 (spec 10). -/
def energyStageFractions (n j : Nat) : Nat := 0x221001 + n * 256 + j
/-- EnergyPinFactor, 0x2214:01 (spec 10). -/
def energyPinFactor (n j : Nat) : Nat := 0x221401 + n * 256 + j
/-- EnergyBiasProfile, 0x2218:01 (spec 10). -/
def energyBiasProfile (n j : Nat) : Nat := 0x221801 + n * 256 + j
/-- EnergyLaneCeiling, 0x2220:01 (spec 10). -/
def energyLaneCeiling (n j : Nat) : Nat := 0x222001 + n * 256 + j
/-- EnergyLaneSum, 0x2230:01 (spec 10). -/
def energyLaneSum (n j : Nat) : Nat := 0x223001 + n * 256 + j
/-- EnergyLaneRefusals, 0x2240:01 (spec 10). -/
def energyLaneRefusals (n j : Nat) : Nat := 0x224001 + n * 256 + j
/-- BiasCommit, 0x3200:01 (spec 11). -/
def biasCommit (n : Nat) : Nat := 0x320001 + n * 256
/-- BiasTarget, 0x3200:02 (spec 11). -/
def biasTarget (n : Nat) : Nat := 0x320002 + n * 256
/-- BiasStep, 0x3200:03 (spec 11). -/
def biasStep (n : Nat) : Nat := 0x320003 + n * 256
/-- BiasInterval, 0x3200:04 (spec 11). -/
def biasInterval (n : Nat) : Nat := 0x320004 + n * 256
/-- BiasCode, 0x3200:05 (spec 11). -/
def biasCode (n : Nat) : Nat := 0x320005 + n * 256
/-- BiasState, 0x3200:06 (spec 11). -/
def biasState (n : Nat) : Nat := 0x320006 + n * 256
/-- BiasPowerUpValue, 0x3200:07 (spec 11). -/
def biasPowerUpValue (n : Nat) : Nat := 0x320007 + n * 256
/-- BiasFaultValue, 0x3200:08 (spec 11). -/
def biasFaultValue (n : Nat) : Nat := 0x320008 + n * 256
/-- BiasSafeSlew, 0x3200:09 (spec 11). -/
def biasSafeSlew (n : Nat) : Nat := 0x320009 + n * 256
/-- BiasTargetTime, 0x3200:0A (spec 11). -/
def biasTargetTime (n : Nat) : Nat := 0x32000a + n * 256
/-- BiasDiscards, 0x3200:0B (spec 11). -/
def biasDiscards (n : Nat) : Nat := 0x32000b + n * 256
/-- BiasTrackError, 0x3200:0C (spec 11). -/
def biasTrackError (n : Nat) : Nat := 0x32000c + n * 256
/-- MonCommit, 0x2C00:01 (spec 11). -/
def monCommit : Nat := 0x2c0001
/-- MonRunMode, 0x2C00:02 (spec 11). -/
def monRunMode : Nat := 0x2c0002
/-- MonLinePeriod, 0x2C00:03 (spec 11). -/
def monLinePeriod : Nat := 0x2c0003
/-- MonTriggerChannel, 0x2C00:04 (spec 11). -/
def monTriggerChannel : Nat := 0x2c0004
/-- MonRotatePeriod, 0x2C00:05 (spec 11). -/
def monRotatePeriod : Nat := 0x2c0005
/-- MonRestart, 0x2C00:06 (spec 11). -/
def monRestart : Nat := 0x2c0006
/-- MonState, 0x2C00:10 (spec 11). -/
def monState : Nat := 0x2c0010
/-- MonCurrentEntry, 0x2C00:11 (spec 11). -/
def monCurrentEntry : Nat := 0x2c0011
/-- MonOverruns, 0x2C00:12 (spec 11). -/
def monOverruns : Nat := 0x2c0012
/-- MonTriggerHeld, 0x2C00:13 (spec 11). -/
def monTriggerHeld : Nat := 0x2c0013
/-- MonPasses, 0x2C00:14 (spec 11). -/
def monPasses : Nat := 0x2c0014
/-- MonSpareSlice, 0x2C00:15 (spec 11). -/
def monSpareSlice : Nat := 0x2c0015
/-- MonLastRotation, 0x2C00:16 (spec 11). -/
def monLastRotation : Nat := 0x2c0016
/-- MonEntry, 0x2C10:01 (spec 11). -/
def monEntry (j : Nat) : Nat := 0x2c1001 + j
/-- MonDeadband, 0x2C11:01 (spec 11). -/
def monDeadband (j : Nat) : Nat := 0x2c1101 + j
/-- MonResult, 0x2C20:01 (spec 11). -/
def monResult (j : Nat) : Nat := 0x2c2001 + j
/-- MonResultTime, 0x2C21:01 (spec 11). -/
def monResultTime (j : Nat) : Nat := 0x2c2101 + j
/-- TrigCommit, 0x2B10:01 (spec 12). -/
def trigCommit (n : Nat) : Nat := 0x2b1001 + n * 256
/-- TrigThreshold, 0x2B10:02 (spec 12). -/
def trigThreshold (n : Nat) : Nat := 0x2b1002 + n * 256
/-- TrigHysteresis, 0x2B10:03 (spec 12). -/
def trigHysteresis (n : Nat) : Nat := 0x2b1003 + n * 256
/-- TrigEdge, 0x2B10:04 (spec 12). -/
def trigEdge (n : Nat) : Nat := 0x2b1004 + n * 256
/-- TrigHoldOff, 0x2B10:05 (spec 12). -/
def trigHoldOff (n : Nat) : Nat := 0x2b1005 + n * 256
/-- TrigEventChannel, 0x2B10:06 (spec 12). -/
def trigEventChannel (n : Nat) : Nat := 0x2b1006 + n * 256
/-- TdcStreamEnable, 0x2B10:07 (spec 12). -/
def tdcStreamEnable (n : Nat) : Nat := 0x2b1007 + n * 256
/-- TdcRing, 0x2B10:08 (spec 12). -/
def tdcRing (n : Nat) : Nat := 0x2b1008 + n * 256
/-- TrigLevel, 0x2B10:10 (spec 12). -/
def trigLevel (n : Nat) : Nat := 0x2b1010 + n * 256
/-- TrigEdges, 0x2B10:11 (spec 12). -/
def trigEdges (n : Nat) : Nat := 0x2b1011 + n * 256
/-- TrigHeldOff, 0x2B10:12 (spec 12). -/
def trigHeldOff (n : Nat) : Nat := 0x2b1012 + n * 256
/-- TdcQueueDepth, 0x2B10:13 (spec 12). -/
def tdcQueueDepth (n : Nat) : Nat := 0x2b1013 + n * 256
/-- TdcQueuePeak, 0x2B10:14 (spec 12). -/
def tdcQueuePeak (n : Nat) : Nat := 0x2b1014 + n * 256
/-- TdcLost, 0x2B10:15 (spec 12). -/
def tdcLost (n : Nat) : Nat := 0x2b1015 + n * 256
/-- TdcGaps, 0x2B10:16 (spec 12). -/
def tdcGaps (n : Nat) : Nat := 0x2b1016 + n * 256
/-- TdcLastTick, 0x2B10:17 (spec 12). -/
def tdcLastTick (n : Nat) : Nat := 0x2b1017 + n * 256
/-- TdcLastPs, 0x2B10:18 (spec 12). -/
def tdcLastPs (n : Nat) : Nat := 0x2b1018 + n * 256
/-- TdcRingWrite, 0x2B10:19 (spec 12). -/
def tdcRingWrite (n : Nat) : Nat := 0x2b1019 + n * 256
/-- TdcRingRead, 0x2B10:1A (spec 12). -/
def tdcRingRead (n : Nat) : Nat := 0x2b101a + n * 256
/-- GlnCommit, 0x2A00:01 (spec 12). -/
def glnCommit : Nat := 0x2a0001
/-- GlnSourceEnable, 0x2A00:02 (spec 12). -/
def glnSourceEnable : Nat := 0x2a0002
/-- GlnCanaryDeadband, 0x2A00:03 (spec 12). -/
def glnCanaryDeadband : Nat := 0x2a0003
/-- GlnGapEvent, 0x2A00:04 (spec 12). -/
def glnGapEvent : Nat := 0x2a0004
/-- GlnRing, 0x2A10:01 (spec 12). -/
def glnRing (n : Nat) : Nat := 0x2a1001 + n * 256
/-- GlnSlotMask, 0x2A20:01 (spec 12). -/
def glnSlotMask (n : Nat) : Nat := 0x2a2001 + n * 256
/-- GlnRingWrite, 0x2A30:01 (spec 12). -/
def glnRingWrite (n : Nat) : Nat := 0x2a3001 + n * 256
/-- GlnRingRead, 0x2A30:02 (spec 12). -/
def glnRingRead (n : Nat) : Nat := 0x2a3002 + n * 256
/-- GlnRecords, 0x2A30:03 (spec 12). -/
def glnRecords (n : Nat) : Nat := 0x2a3003 + n * 256
/-- GlnLost, 0x2A30:04 (spec 12). -/
def glnLost (n : Nat) : Nat := 0x2a3004 + n * 256
/-- GlnGaps, 0x2A30:05 (spec 12). -/
def glnGaps (n : Nat) : Nat := 0x2a3005 + n * 256
/-- GlnBufferPeak, 0x2A30:06 (spec 12). -/
def glnBufferPeak (n : Nat) : Nat := 0x2a3006 + n * 256
/-- CapCommit, 0x2A40:01 (spec 12). -/
def capCommit (n : Nat) : Nat := 0x2a4001 + n * 256
/-- CapOwner, 0x2A40:02 (spec 12). -/
def capOwner (n : Nat) : Nat := 0x2a4002 + n * 256
/-- CapSource, 0x2A40:03 (spec 12). -/
def capSource (n : Nat) : Nat := 0x2a4003 + n * 256
/-- CapLength, 0x2A40:04 (spec 12). -/
def capLength (n : Nat) : Nat := 0x2a4004 + n * 256
/-- CapDelay, 0x2A40:05 (spec 12). -/
def capDelay (n : Nat) : Nat := 0x2a4005 + n * 256
/-- CapTriggerChannel, 0x2A40:06 (spec 12). -/
def capTriggerChannel (n : Nat) : Nat := 0x2a4006 + n * 256
/-- CapArmChannel, 0x2A40:07 (spec 12). -/
def capArmChannel (n : Nat) : Nat := 0x2a4007 + n * 256
/-- CapPolicy, 0x2A40:08 (spec 12). -/
def capPolicy (n : Nat) : Nat := 0x2a4008 + n * 256
/-- CapMode, 0x2A40:09 (spec 12). -/
def capMode (n : Nat) : Nat := 0x2a4009 + n * 256
/-- CapRing, 0x2A40:0A (spec 12). -/
def capRing (n : Nat) : Nat := 0x2a400a + n * 256
/-- CapDoneEvent, 0x2A40:0B (spec 12). -/
def capDoneEvent (n : Nat) : Nat := 0x2a400b + n * 256
/-- CapArm, 0x2A40:10 (spec 12). -/
def capArm (n : Nat) : Nat := 0x2a4010 + n * 256
/-- CapState, 0x2A40:11 (spec 12). -/
def capState (n : Nat) : Nat := 0x2a4011 + n * 256
/-- CapRecords, 0x2A40:12 (spec 12). -/
def capRecords (n : Nat) : Nat := 0x2a4012 + n * 256
/-- CapIgnored, 0x2A40:13 (spec 12). -/
def capIgnored (n : Nat) : Nat := 0x2a4013 + n * 256
/-- CapRestarts, 0x2A40:14 (spec 12). -/
def capRestarts (n : Nat) : Nat := 0x2a4014 + n * 256
/-- CapOverruns, 0x2A40:15 (spec 12). -/
def capOverruns (n : Nat) : Nat := 0x2a4015 + n * 256
/-- CapOverflows, 0x2A40:16 (spec 12). -/
def capOverflows (n : Nat) : Nat := 0x2a4016 + n * 256
/-- CapRingWrite, 0x2A40:17 (spec 12). -/
def capRingWrite (n : Nat) : Nat := 0x2a4017 + n * 256
/-- CapRingRead, 0x2A40:18 (spec 12). -/
def capRingRead (n : Nat) : Nat := 0x2a4018 + n * 256
/-- SheafCommit, 0x2A80:01 (spec 12). -/
def sheafCommit (n : Nat) : Nat := 0x2a8001 + n * 256
/-- SheafRing, 0x2A80:02 (spec 12). -/
def sheafRing (n : Nat) : Nat := 0x2a8002 + n * 256
/-- SheafFirstSlot, 0x2A80:03 (spec 12). -/
def sheafFirstSlot (n : Nat) : Nat := 0x2a8003 + n * 256
/-- SheafSlotCount, 0x2A80:04 (spec 12). -/
def sheafSlotCount (n : Nat) : Nat := 0x2a8004 + n * 256
/-- SheafFirstCell, 0x2A80:05 (spec 12). -/
def sheafFirstCell (n : Nat) : Nat := 0x2a8005 + n * 256
/-- SheafCellCount, 0x2A80:06 (spec 12). -/
def sheafCellCount (n : Nat) : Nat := 0x2a8006 + n * 256
/-- SheafCodes, 0x2A80:07 (spec 12). -/
def sheafCodes (n : Nat) : Nat := 0x2a8007 + n * 256
/-- SheafGrains, 0x2A80:08 (spec 12). -/
def sheafGrains (n : Nat) : Nat := 0x2a8008 + n * 256
/-- SheafWritten, 0x2A80:10 (spec 12). -/
def sheafWritten (n : Nat) : Nat := 0x2a8010 + n * 256
/-- SheafLost, 0x2A80:11 (spec 12). -/
def sheafLost (n : Nat) : Nat := 0x2a8011 + n * 256
/-- SheafLateItems, 0x2A80:12 (spec 12). -/
def sheafLateItems (n : Nat) : Nat := 0x2a8012 + n * 256
/-- SheafRingWrite, 0x2A80:13 (spec 12). -/
def sheafRingWrite (n : Nat) : Nat := 0x2a8013 + n * 256
/-- SheafRingRead, 0x2A80:14 (spec 12). -/
def sheafRingRead (n : Nat) : Nat := 0x2a8014 + n * 256
/-- MemState, 0x2800:01 (spec 13). -/
def memState : Nat := 0x280001
/-- MemCapacity, 0x2800:02 (spec 13). -/
def memCapacity : Nat := 0x280002
/-- MemClass1Pool, 0x2800:03 (spec 13). -/
def memClass1Pool : Nat := 0x280003
/-- MemClass1Granted, 0x2800:04 (spec 13). -/
def memClass1Granted : Nat := 0x280004
/-- MemHostForced, 0x2800:05 (spec 13). -/
def memHostForced : Nat := 0x280005
/-- MemHostMaxWait, 0x2800:07 (spec 13). -/
def memHostMaxWait : Nat := 0x280007
/-- MemCommit, 0x2800:10 (spec 13). -/
def memCommit : Nat := 0x280010
/-- MemPartClass1Limit, 0x2801:01 (spec 13). -/
def memPartClass1Limit (j : Nat) : Nat := 0x280101 + j
/-- MemPartClass2Share, 0x2802:01 (spec 13). -/
def memPartClass2Share (j : Nat) : Nat := 0x280201 + j
/-- MemPartClass4Limit, 0x2803:01 (spec 13). -/
def memPartClass4Limit (j : Nat) : Nat := 0x280301 + j
/-- MemPartClass1Granted, 0x2804:01 (spec 13). -/
def memPartClass1Granted (j : Nat) : Nat := 0x280401 + j
/-- MemClassCount, 0x2810:01 (spec 13). -/
def memClassCount (j : Nat) : Nat := 0x281001 + j
/-- MemPartClassCount, 0x2811:01 (spec 13). -/
def memPartClassCount (n j : Nat) : Nat := 0x281101 + n * 256 + j
/-- MemChanConfig, 0x2820:01 (spec 13). -/
def memChanConfig (j : Nat) : Nat := 0x282001 + j
/-- MemRefreshForced, 0x2821:01 (spec 13). -/
def memRefreshForced (j : Nat) : Nat := 0x282101 + j
/-- MemEccCorrected, 0x2822:01 (spec 13). -/
def memEccCorrected (j : Nat) : Nat := 0x282201 + j
/-- MemEccRetries, 0x2823:01 (spec 13). -/
def memEccRetries (j : Nat) : Nat := 0x282301 + j
/-- MemEccUncorrected, 0x2824:01 (spec 13). -/
def memEccUncorrected (j : Nat) : Nat := 0x282401 + j
/-- MemHotTime, 0x2825:01 (spec 13). -/
def memHotTime (j : Nat) : Nat := 0x282501 + j
/-- MemDramTemp, 0x2826:01 (spec 13). -/
def memDramTemp (j : Nat) : Nat := 0x282601 + j
/-- MemRegion, 0x2840:01 (spec 13). -/
def memRegion (n j : Nat) : Nat := 0x284001 + n * 256 + j
/-- LaneFetchCommit, 0x3000:41 (spec 13). -/
def laneFetchCommit (n : Nat) : Nat := 0x300041 + n * 256
/-- LaneFetchRate, 0x3000:42 (spec 13). -/
def laneFetchRate (n : Nat) : Nat := 0x300042 + n * 256
/-- LaneFetchGranted, 0x3000:43 (spec 13). -/
def laneFetchGranted (n : Nat) : Nat := 0x300043 + n * 256
/-- LaneClass1Demoted, 0x3000:44 (spec 13). -/
def laneClass1Demoted (n : Nat) : Nat := 0x300044 + n * 256
/-- LaneClass1Late, 0x3000:45 (spec 13). -/
def laneClass1Late (n : Nat) : Nat := 0x300045 + n * 256
/-- BaleState, 0x2900:01 (spec 14). -/
def baleState : Nat := 0x290001
/-- BaleUnitsBusy, 0x2900:02 (spec 14). -/
def baleUnitsBusy : Nat := 0x290002
/-- BaleLoadDecodes, 0x2900:03 (spec 14). -/
def baleLoadDecodes : Nat := 0x290003
/-- BaleLoadBad, 0x2900:04 (spec 14). -/
def baleLoadBad : Nat := 0x290004
/-- BaleBytesIn, 0x2900:05 (spec 14). -/
def baleBytesIn : Nat := 0x290005
/-- BaleBytesOut, 0x2900:06 (spec 14). -/
def baleBytesOut : Nat := 0x290006
/-- BaleQueueCommit, 0x2910:01 (spec 14). -/
def baleQueueCommit (n : Nat) : Nat := 0x291001 + n * 256
/-- BaleQueueRing, 0x2910:02 (spec 14). -/
def baleQueueRing (n : Nat) : Nat := 0x291002 + n * 256
/-- BaleQueueTail, 0x2910:03 (spec 14). -/
def baleQueueTail (n : Nat) : Nat := 0x291003 + n * 256
/-- BaleQueueHead, 0x2910:04 (spec 14). -/
def baleQueueHead (n : Nat) : Nat := 0x291004 + n * 256
/-- BaleJobsDone, 0x2910:05 (spec 14). -/
def baleJobsDone (n : Nat) : Nat := 0x291005 + n * 256
/-- BaleJobsBad, 0x2910:06 (spec 14). -/
def baleJobsBad (n : Nat) : Nat := 0x291006 + n * 256
/-- BaleJobsSuspended, 0x2910:07 (spec 14). -/
def baleJobsSuspended (n : Nat) : Nat := 0x291007 + n * 256
/-- BaleJobsRefused, 0x2910:08 (spec 14). -/
def baleJobsRefused (n : Nat) : Nat := 0x291008 + n * 256
/-- BaleJobsMemError, 0x2910:09 (spec 14). -/
def baleJobsMemError (n : Nat) : Nat := 0x291009 + n * 256
/-- PcieLinkState, 0x2E00:01 (spec 15). -/
def pcieLinkState : Nat := 0x2e0001
/-- PcieLinkRate, 0x2E00:02 (spec 15). -/
def pcieLinkRate : Nat := 0x2e0002
/-- PcieLinkWidth, 0x2E00:03 (spec 15). -/
def pcieLinkWidth : Nat := 0x2e0003
/-- PcieDegraded, 0x2E00:04 (spec 15). -/
def pcieDegraded : Nat := 0x2e0004
/-- PcieLinkDownCount, 0x2E00:05 (spec 15). -/
def pcieLinkDownCount : Nat := 0x2e0005
/-- PcieLinkDownAction, 0x2E00:06 (spec 15). -/
def pcieLinkDownAction : Nat := 0x2e0006
/-- PcieNumVfs, 0x2E00:07 (spec 15). -/
def pcieNumVfs : Nat := 0x2e0007
/-- PcieApertureRefused, 0x2E00:08 (spec 15). -/
def pcieApertureRefused : Nat := 0x2e0008
/-- PcieRingRefused, 0x2E00:09 (spec 15). -/
def pcieRingRefused : Nat := 0x2e0009
/-- PcieDmaOwner, 0x2E01:01 (spec 15). -/
def pcieDmaOwner (j : Nat) : Nat := 0x2e0101 + j
/-- PcieDmaState, 0x2E02:01 (spec 15). -/
def pcieDmaState (j : Nat) : Nat := 0x2e0201 + j
/-- PcieAperture, 0x2E03:01 (spec 15). -/
def pcieAperture (j : Nat) : Nat := 0x2e0301 + j
/-- PcieVectorEvent, 0x2E10:01 (spec 15). -/
def pcieVectorEvent (n j : Nat) : Nat := 0x2e1001 + n * 256 + j
/-- PcieDmaCommit, 0x2E20:01 (spec 15). -/
def pcieDmaCommit (n : Nat) : Nat := 0x2e2001 + n * 256
/-- PcieDmaMode, 0x2E20:02 (spec 15). -/
def pcieDmaMode (n : Nat) : Nat := 0x2e2002 + n * 256
/-- PcieDmaRingAddr, 0x2E20:03 (spec 15). -/
def pcieDmaRingAddr (n : Nat) : Nat := 0x2e2003 + n * 256
/-- PcieDmaRingBytes, 0x2E20:04 (spec 15). -/
def pcieDmaRingBytes (n : Nat) : Nat := 0x2e2004 + n * 256
/-- PcieDmaFollow, 0x2E20:05 (spec 15). -/
def pcieDmaFollow (n : Nat) : Nat := 0x2e2005 + n * 256
/-- PcieDmaWriteBack, 0x2E20:06 (spec 15). -/
def pcieDmaWriteBack (n : Nat) : Nat := 0x2e2006 + n * 256
/-- CanNodeId, 0x2E40:01 (spec 15). -/
def canNodeId : Nat := 0x2e4001
/-- CanArbRate, 0x2E40:02 (spec 15). -/
def canArbRate : Nat := 0x2e4002
/-- CanDataRate, 0x2E40:03 (spec 15). -/
def canDataRate : Nat := 0x2e4003
/-- CanNmtState, 0x2E40:04 (spec 15). -/
def canNmtState : Nat := 0x2e4004
/-- CanBusState, 0x2E40:05 (spec 15). -/
def canBusState : Nat := 0x2e4005
/-- CanBusOffCount, 0x2E40:06 (spec 15). -/
def canBusOffCount : Nat := 0x2e4006
/-- CanEmcyLost, 0x2E40:07 (spec 15). -/
def canEmcyLost : Nat := 0x2e4007
/-- GgCommit, 0x2D00:01 (spec 16). -/
def ggCommit : Nat := 0x2d0001
/-- GgNoticeChannel, 0x2D00:02 (spec 16). -/
def ggNoticeChannel : Nat := 0x2d0002
/-- GgPortCommit, 0x2D10:01 (spec 16). -/
def ggPortCommit (n : Nat) : Nat := 0x2d1001 + n * 256
/-- GgPortEnable, 0x2D10:02 (spec 16). -/
def ggPortEnable (n : Nat) : Nat := 0x2d1002 + n * 256
/-- GgMaxRate, 0x2D10:03 (spec 16). -/
def ggMaxRate (n : Nat) : Nat := 0x2d1003 + n * 256
/-- GgRestEnable, 0x2D10:04 (spec 16). -/
def ggRestEnable (n : Nat) : Nat := 0x2d1004 + n * 256
/-- GgRestDelay, 0x2D10:05 (spec 16). -/
def ggRestDelay (n : Nat) : Nat := 0x2d1005 + n * 256
/-- GgMarginLimit, 0x2D10:06 (spec 16). -/
def ggMarginLimit (n : Nat) : Nat := 0x2d1006 + n * 256
/-- GgTxTapsFixed, 0x2D10:07 (spec 16). -/
def ggTxTapsFixed (n : Nat) : Nat := 0x2d1007 + n * 256
/-- GgStateEvent, 0x2D10:08 (spec 16). -/
def ggStateEvent (n : Nat) : Nat := 0x2d1008 + n * 256
/-- GgPortState, 0x2D10:10 (spec 16). -/
def ggPortState (n : Nat) : Nat := 0x2d1010 + n * 256
/-- GgRate, 0x2D10:11 (spec 16). -/
def ggRate (n : Nat) : Nat := 0x2d1011 + n * 256
/-- GgPartnerSerial, 0x2D10:12 (spec 16). -/
def ggPartnerSerial (n : Nat) : Nat := 0x2d1012 + n * 256
/-- GgTxTaps, 0x2D10:13 (spec 16). -/
def ggTxTaps (n : Nat) : Nat := 0x2d1013 + n * 256
/-- GgMarginMin, 0x2D10:14 (spec 16). -/
def ggMarginMin (n : Nat) : Nat := 0x2d1014 + n * 256
/-- GgTrainings, 0x2D10:15 (spec 16). -/
def ggTrainings (n : Nat) : Nat := 0x2d1015 + n * 256
/-- GgFallbacks, 0x2D10:16 (spec 16). -/
def ggFallbacks (n : Nat) : Nat := 0x2d1016 + n * 256
/-- GgRetrains, 0x2D10:17 (spec 16). -/
def ggRetrains (n : Nat) : Nat := 0x2d1017 + n * 256
/-- GgHeaderErrors, 0x2D10:18 (spec 16). -/
def ggHeaderErrors (n : Nat) : Nat := 0x2d1018 + n * 256
/-- GgBipErrors, 0x2D10:19 (spec 16). -/
def ggBipErrors (n : Nat) : Nat := 0x2d1019 + n * 256
/-- GgFrameErrors, 0x2D10:1A (spec 16). -/
def ggFrameErrors (n : Nat) : Nat := 0x2d101a + n * 256
/-- GgFramesLost, 0x2D10:1B (spec 16). -/
def ggFramesLost (n : Nat) : Nat := 0x2d101b + n * 256
/-- GgVerdictOverBudget, 0x2D10:1C (spec 16). -/
def ggVerdictOverBudget (n : Nat) : Nat := 0x2d101c + n * 256
/-- GgRestEntries, 0x2D10:1D (spec 16). -/
def ggRestEntries (n : Nat) : Nat := 0x2d101d + n * 256
/-- GgEventUnaligned, 0x2D10:1E (spec 16). -/
def ggEventUnaligned (n : Nat) : Nat := 0x2d101e + n * 256
/-- GgEventVoid, 0x2D10:1F (spec 16). -/
def ggEventVoid (n : Nat) : Nat := 0x2d101f + n * 256
/-- GgFramesSent, 0x2D10:20 (spec 16). -/
def ggFramesSent (n j : Nat) : Nat := 0x2d1020 + n * 256 + j
/-- GgFramesReceived, 0x2D10:28 (spec 16). -/
def ggFramesReceived (n j : Nat) : Nat := 0x2d1028 + n * 256 + j
/-- GgRemoteBuffer, 0x2D14:01 (spec 16). -/
def ggRemoteBuffer (n : Nat) : Nat := 0x2d1401 + n * 256
/-- GgRemoteDoorbell, 0x2D14:02 (spec 16). -/
def ggRemoteDoorbell (n : Nat) : Nat := 0x2d1402 + n * 256
/-- GgRemoteStatus, 0x2D14:03 (spec 16). -/
def ggRemoteStatus (n : Nat) : Nat := 0x2d1403 + n * 256
/-- GgBulkCommit, 0x2D18:01 (spec 16). -/
def ggBulkCommit (n : Nat) : Nat := 0x2d1801 + n * 256
/-- GgBulkOp, 0x2D18:02 (spec 16). -/
def ggBulkOp (n : Nat) : Nat := 0x2d1802 + n * 256
/-- GgBulkLocal, 0x2D18:03 (spec 16). -/
def ggBulkLocal (n : Nat) : Nat := 0x2d1803 + n * 256
/-- GgBulkRemoteRegion, 0x2D18:04 (spec 16). -/
def ggBulkRemoteRegion (n : Nat) : Nat := 0x2d1804 + n * 256
/-- GgBulkRemoteOffset, 0x2D18:05 (spec 16). -/
def ggBulkRemoteOffset (n : Nat) : Nat := 0x2d1805 + n * 256
/-- GgBulkStart, 0x2D18:06 (spec 16). -/
def ggBulkStart (n : Nat) : Nat := 0x2d1806 + n * 256
/-- GgBulkState, 0x2D18:07 (spec 16). -/
def ggBulkState (n : Nat) : Nat := 0x2d1807 + n * 256
/-- GgBulkBytes, 0x2D18:08 (spec 16). -/
def ggBulkBytes (n : Nat) : Nat := 0x2d1808 + n * 256
/-- GgEventOut, 0x2D20:01 (spec 16). -/
def ggEventOut (n j : Nat) : Nat := 0x2d2001 + n * 256 + j
/-- GgEventIn, 0x2D24:01 (spec 16). -/
def ggEventIn (n j : Nat) : Nat := 0x2d2401 + n * 256 + j
/-- EvtCommit, 0x2500:01 (spec 17). -/
def evtCommit : Nat := 0x250001
/-- EvtQueuePeak, 0x2500:02 (spec 17). -/
def evtQueuePeak : Nat := 0x250002
/-- EvtChannelCfg, 0x2501:01 (spec 17). -/
def evtChannelCfg (j : Nat) : Nat := 0x250101 + j
/-- EvtChannelCommit, 0x2503:01 (spec 17). -/
def evtChannelCommit (j : Nat) : Nat := 0x250301 + j
/-- EvtFire, 0x2504:00 (spec 17). -/
def evtFire : Nat := 0x250400
/-- EvtFired, 0x2505:01 (spec 17). -/
def evtFired (j : Nat) : Nat := 0x250501 + j
/-- EvtFlags, 0x2506:01 (spec 17). -/
def evtFlags (j : Nat) : Nat := 0x250601 + j
/-- EvtMerges, 0x2507:01 (spec 17). -/
def evtMerges (j : Nat) : Nat := 0x250701 + j
/-- EvtOverruns, 0x2508:01 (spec 17). -/
def evtOverruns (j : Nat) : Nat := 0x250801 + j
/-- EvtLoops, 0x2509:01 (spec 17). -/
def evtLoops (j : Nat) : Nat := 0x250901 + j
/-- EvtTimer, 0x250A:01 (spec 17). -/
def evtTimer (j : Nat) : Nat := 0x250a01 + j
/-- EvtVerdictProducer, 0x250B:01 (spec 17). -/
def evtVerdictProducer (j : Nat) : Nat := 0x250b01 + j
/-- EvtThermalChannel, 0x250C:01 (spec 17). -/
def evtThermalChannel : Nat := 0x250c01
/-- EvtFaultChannel, 0x250D:01 (spec 17). -/
def evtFaultChannel (j : Nat) : Nat := 0x250d01 + j
/-- EvtDropped, 0x250E:01 (spec 17). -/
def evtDropped (j : Nat) : Nat := 0x250e01 + j
/-- EvtTask, 0x2510:01 (spec 17). -/
def evtTask (n j : Nat) : Nat := 0x251001 + n * 256 + j
/-- CalCommit, 0x2600:01 (spec 18). -/
def calCommit : Nat := 0x260001
/-- CalItems, 0x2600:02 (spec 18). -/
def calItems : Nat := 0x260002
/-- CalScopeStrips, 0x2600:03 (spec 18). -/
def calScopeStrips : Nat := 0x260003
/-- CalScopeInputs, 0x2600:04 (spec 18). -/
def calScopeInputs : Nat := 0x260004
/-- CalScopeTiles, 0x2600:05 (spec 18). -/
def calScopeTiles : Nat := 0x260005
/-- CalIdleWait, 0x2600:06 (spec 18). -/
def calIdleWait : Nat := 0x260006
/-- CalSetSlot, 0x2600:07 (spec 18). -/
def calSetSlot : Nat := 0x260007
/-- CalStart, 0x2600:08 (spec 18). -/
def calStart : Nat := 0x260008
/-- CalAbort, 0x2600:09 (spec 18). -/
def calAbort : Nat := 0x260009
/-- CalState, 0x2600:0A (spec 18). -/
def calState : Nat := 0x26000a
/-- CalUnitsLeft, 0x2600:0B (spec 18). -/
def calUnitsLeft : Nat := 0x26000b
/-- CalInterp, 0x2600:0C (spec 18). -/
def calInterp : Nat := 0x26000c
/-- CalLidTemp, 0x2600:0D (spec 18). -/
def calLidTemp : Nat := 0x26000d
/-- CalTapsPending, 0x2600:0E (spec 18). -/
def calTapsPending : Nat := 0x26000e
/-- CalVcalValue, 0x2600:0F (spec 18). -/
def calVcalValue : Nat := 0x26000f
/-- CalVcalMeasured, 0x2600:10 (spec 18). -/
def calVcalMeasured : Nat := 0x260010
/-- CalRunSet, 0x2600:11 (spec 18). -/
def calRunSet : Nat := 0x260011
/-- CalRunNote, 0x2600:12 (spec 18). -/
def calRunNote : Nat := 0x260012
/-- CalItemResult, 0x2601:01 (spec 18). -/
def calItemResult (j : Nat) : Nat := 0x260101 + j
/-- CalItemFailures, 0x2601:06 (spec 18). -/
def calItemFailures (j : Nat) : Nat := 0x260106 + j
/-- CalSetTemp, 0x2602:01 (spec 18). -/
def calSetTemp (j : Nat) : Nat := 0x260201 + j
/-- CalSetTime, 0x2603:01 (spec 18). -/
def calSetTime (j : Nat) : Nat := 0x260301 + j
/-- CalDriftRate, 0x2605:01 (spec 18). -/
def calDriftRate (j : Nat) : Nat := 0x260501 + j
/-- CalDriftHoursLeft, 0x2605:06 (spec 18). -/
def calDriftHoursLeft (j : Nat) : Nat := 0x260506 + j
/-- CalFlashWrites, 0x2606:01 (spec 18). -/
def calFlashWrites : Nat := 0x260601
/-- AgeRecompute, 0x2700:01 (spec 18). -/
def ageRecompute : Nat := 0x270001
/-- AgeInterval, 0x2700:02 (spec 18). -/
def ageInterval : Nat := 0x270002
/-- AgeWatchThreshold, 0x2700:03 (spec 18). -/
def ageWatchThreshold : Nat := 0x270003
/-- AgeLastTime, 0x2700:04 (spec 18). -/
def ageLastTime : Nat := 0x270004
/-- AgeLastReason, 0x2700:05 (spec 18). -/
def ageLastReason : Nat := 0x270005
/-- AgeOperatingHours, 0x2700:06 (spec 18). -/
def ageOperatingHours : Nat := 0x270006
/-- AgeHoursLeftMin, 0x2700:07 (spec 18). -/
def ageHoursLeftMin : Nat := 0x270007
/-- AgeWorstUnit, 0x2700:08 (spec 18). -/
def ageWorstUnit : Nat := 0x270008
/-- AgeRetireDate, 0x2700:09 (spec 18). -/
def ageRetireDate : Nat := 0x270009
/-- AgeAllowance, 0x2700:0A (spec 18). -/
def ageAllowance : Nat := 0x27000a
/-- AgeBaseline, 0x2710:01 (spec 18). -/
def ageBaseline (j : Nat) : Nat := 0x271001 + j
/-- AgeStageDelayWorst, 0x2711:01 (spec 18). -/
def ageStageDelayWorst (j : Nat) : Nat := 0x271101 + j
/-- AgeAllowanceUsed, 0x2712:01 (spec 18). -/
def ageAllowanceUsed (j : Nat) : Nat := 0x271201 + j
/-- AgePlanMargin, 0x2713:01 (spec 18). -/
def agePlanMargin (j : Nat) : Nat := 0x271301 + j
/-- AgeHoursLeft, 0x2714:01 (spec 18). -/
def ageHoursLeft (j : Nat) : Nat := 0x271401 + j
/-- AgeLeadShort, 0x2715:01 (spec 18). -/
def ageLeadShort (j : Nat) : Nat := 0x271501 + j
/-- ThermDevState, 0x2300:01 (spec 19). -/
def thermDevState : Nat := 0x230001
/-- ThermThrottle, 0x2300:02 (spec 19). -/
def thermThrottle : Nat := 0x230002
/-- ThermGrace, 0x2300:03 (spec 19). -/
def thermGrace : Nat := 0x230003
/-- ThermDutyLimit, 0x2300:04 (spec 19). -/
def thermDutyLimit : Nat := 0x230004
/-- ThermCoolantEst, 0x2300:05 (spec 19). -/
def thermCoolantEst : Nat := 0x230005
/-- ThermPlateToCoolant, 0x2300:06 (spec 19). -/
def thermPlateToCoolant : Nat := 0x230006
/-- ThermCorrTau, 0x2300:07 (spec 19). -/
def thermCorrTau : Nat := 0x230007
/-- ThermDeadTime, 0x2300:08 (spec 19). -/
def thermDeadTime : Nat := 0x230008
/-- ThermEventsSkipped, 0x2300:09 (spec 19). -/
def thermEventsSkipped : Nat := 0x230009
/-- ThermEnforcements, 0x2300:0A (spec 19). -/
def thermEnforcements : Nat := 0x23000a
/-- ThermNodeTemp, 0x2301:01 (spec 19). -/
def thermNodeTemp (j : Nat) : Nat := 0x230101 + j
/-- ThermNodeRate, 0x2302:01 (spec 19). -/
def thermNodeRate (j : Nat) : Nat := 0x230201 + j
/-- ThermNodeState, 0x2303:01 (spec 19). -/
def thermNodeState (j : Nat) : Nat := 0x230301 + j
/-- ThermDieOffset, 0x2304:01 (spec 19). -/
def thermDieOffset (j : Nat) : Nat := 0x230401 + j
/-- ThermDiodeTemp, 0x2305:01 (spec 19). -/
def thermDiodeTemp (j : Nat) : Nat := 0x230501 + j
/-- ThermDiePower, 0x2306:01 (spec 19). -/
def thermDiePower (j : Nat) : Nat := 0x230601 + j
/-- FaultSafeState, 0x2400:01 (spec 19). -/
def faultSafeState : Nat := 0x240001
/-- FaultHandlerTime, 0x2400:02 (spec 19). -/
def faultHandlerTime : Nat := 0x240002
/-- FaultHandlerLeft, 0x2400:03 (spec 19). -/
def faultHandlerLeft : Nat := 0x240003
/-- FaultEnterSafe, 0x2400:04 (spec 19). -/
def faultEnterSafe : Nat := 0x240004
/-- FaultLeaveSafe, 0x2400:05 (spec 19). -/
def faultLeaveSafe : Nat := 0x240005
/-- FaultEscalations, 0x2400:06 (spec 19). -/
def faultEscalations : Nat := 0x240006
/-- FaultSticky, 0x2401:01 (spec 19). -/
def faultSticky (j : Nat) : Nat := 0x240101 + j
/-- FaultActive, 0x2402:01 (spec 19). -/
def faultActive (j : Nat) : Nat := 0x240201 + j
/-- FaultClassCount, 0x2403:01 (spec 19). -/
def faultClassCount (j : Nat) : Nat := 0x240301 + j
/-- CsCommit, 0x2F00:01 (spec 20). -/
def csCommit : Nat := 0x2f0001
/-- CsImage, 0x2F00:02 (spec 20). -/
def csImage : Nat := 0x2f0002
/-- CsLastCheck, 0x2F00:03 (spec 20). -/
def csLastCheck : Nat := 0x2f0003
/-- CsActiveSlot, 0x2F00:04 (spec 20). -/
def csActiveSlot : Nat := 0x2f0004
/-- CsNextSlot, 0x2F00:05 (spec 20). -/
def csNextSlot : Nat := 0x2f0005
/-- CsStripUpdate, 0x2F00:06 (spec 20). -/
def csStripUpdate : Nat := 0x2f0006
/-- CsSlotVersion, 0x2F00:07 (spec 20). -/
def csSlotVersion (j : Nat) : Nat := 0x2f0007 + j
/-- CsImageWrites, 0x2F00:09 (spec 20). -/
def csImageWrites : Nat := 0x2f0009
/-- CsMachineChecks, 0x2F00:0A (spec 20). -/
def csMachineChecks : Nat := 0x2f000a
/-- CsRollbackCommit, 0x2F00:10 (spec 20). -/
def csRollbackCommit : Nat := 0x2f0010
/-- CsRollbackCounter, 0x2F00:11 (spec 20). -/
def csRollbackCounter : Nat := 0x2f0011
/-- CsRollbackStepsLeft, 0x2F00:12 (spec 20). -/
def csRollbackStepsLeft : Nat := 0x2f0012
/-- CsStripSlot, 0x2F01:01 (spec 20). -/
def csStripSlot (j : Nat) : Nat := 0x2f0101 + j
/-- CsUserCommit, 0x2F40:01 (spec 20). -/
def csUserCommit (n : Nat) : Nat := 0x2f4001 + n * 256
/-- CsUserRoutine, 0x2F40:02 (spec 20). -/
def csUserRoutine (n : Nat) : Nat := 0x2f4002 + n * 256
/-- CsUserShotLane, 0x2F40:03 (spec 20). -/
def csUserShotLane (n : Nat) : Nat := 0x2f4003 + n * 256
/-- CsUserStart, 0x2F40:04 (spec 20). -/
def csUserStart (n : Nat) : Nat := 0x2f4004 + n * 256
/-- CsUserState, 0x2F40:05 (spec 20). -/
def csUserState (n : Nat) : Nat := 0x2f4005 + n * 256
/-- CsUserRuns, 0x2F40:06 (spec 20). -/
def csUserRuns (n : Nat) : Nat := 0x2f4006 + n * 256
/-- CsUserOverruns, 0x2F40:07 (spec 20). -/
def csUserOverruns (n : Nat) : Nat := 0x2f4007 + n * 256
/-- CsUserAborts, 0x2F40:08 (spec 20). -/
def csUserAborts (n : Nat) : Nat := 0x2f4008 + n * 256
/-- CsUserScratch, 0x2F40:10 (spec 20). -/
def csUserScratch (n j : Nat) : Nat := 0x2f4010 + n * 256 + j
/-- PwrStartStep, 0x2020:01 (spec 21). -/
def pwrStartStep : Nat := 0x202001
/-- PwrStartStop, 0x2020:02 (spec 21). -/
def pwrStartStop : Nat := 0x202002
/-- PwrResetCause, 0x2020:03 (spec 21). -/
def pwrResetCause : Nat := 0x202003
/-- PwrVcoreAdvice, 0x2020:04 (spec 21). -/
def pwrVcoreAdvice : Nat := 0x202004
/-- PwrPrepareOff, 0x2020:05 (spec 21). -/
def pwrPrepareOff : Nat := 0x202005
/-- PwrReadyForOff, 0x2020:06 (spec 21). -/
def pwrReadyForOff : Nat := 0x202006
/-- PwrStartTime, 0x2020:07 (spec 21). -/
def pwrStartTime : Nat := 0x202007
/-- PwrRailVoltage, 0x2021:01 (spec 21). -/
def pwrRailVoltage (j : Nat) : Nat := 0x202101 + j
/-- PwrRailState, 0x2022:01 (spec 21). -/
def pwrRailState (j : Nat) : Nat := 0x202201 + j

end Sys2Proof.Machine.Obj
end

