-- ==== Sys2Proof/Machine/Ops.lean ====
section
/-! DEFINITION. The named operations every meaning uses: the lifts that run an effect as a command, dictionary values, units,
ownership and regions, and what the block sends: outputs, interrupts, gleaner records, frames and event firings. -/

namespace Sys2Proof.Machine

/-! ### Times in ticks of 100 ps (Table 0-5) -/

/-- One microsecond. -/
def ticksUs : Nat := 10000
/-- One millisecond. -/
def ticksMs : Nat := 10000000
/-- One second. -/
def ticksS : Nat := 10000000000

/-! ### Dictionary values -/

/-- Whether a key is BiasTarget, BiasStep or BiasInterval, whose defaults come from NV objects (Table 11-4). -/
def isBiasKey (k : Nat) : Bool := 0x320000 ≤ k && k < 0x340000 && 2 ≤ k % 256 && k % 256 ≤ 4

/-- The stored value of an object, or the default its table states. -/
def Dev.raw (d : Dev) (k : Nat) : Nat := (SMap.find d.objs k).getD (tableDefault k)

/-- The default of an object now (R24). -/
def Dev.dflt (d : Dev) (k : Nat) : Nat :=
  if isBiasKey k then
    let b := k - k % 256
    if k % 256 = 2 then bits (d.raw (b + 7)) 17 0
    else if k % 256 = 3 then bits (d.raw (b + 9)) 12 0
    else bits (d.raw (b + 9)) 31 16
  else tableDefault k

/-- The value an object holds. -/
def Dev.val (d : Dev) (k : Nat) : Nat := (SMap.find d.objs k).getD (d.dflt k)
/-- An object's value set. -/
def Dev.put (d : Dev) (k v : Nat) : Dev := { d with objs := SMap.set d.objs k v }
/-- An object back at its default. -/
def Dev.unset (d : Dev) (k : Nat) : Dev := { d with objs := SMap.del d.objs k }
/-- A 32-bit counter incremented; it wraps. -/
def Dev.bump (d : Dev) (k : Nat) : Dev := d.put k (wrap 32 (d.val k + 1))
/-- A 32-bit counter raised by `n`; it wraps. -/
def Dev.bumpBy (d : Dev) (k n : Nat) : Dev := d.put k (wrap 32 (d.val k + n))
/-- A 64-bit counter incremented. -/
def Dev.bump64 (d : Dev) (k : Nat) : Dev := d.put k (wrap 64 (d.val k + 1))
/-- A 64-bit counter raised by `n`. -/
def Dev.bump64By (d : Dev) (k n : Nat) : Dev := d.put k (wrap 64 (d.val k + n))
/-- A BOOL object. -/
def Dev.flag (d : Dev) (k : Nat) : Bool := d.val k != 0
/-- A signed object of `w` bits. -/
def Dev.ival (d : Dev) (w k : Nat) : Int := toInt w (d.val k)
/-- Several objects bumped. -/
def Dev.bumpAll (d : Dev) (ks : List Nat) : Dev := ks.foldl Dev.bump d

/-- The next free value (log entry 3): a value the spec leaves open. -/
def Dev.freeNow (d : Dev) : Nat := Config.freeValue d.free
/-- One free value used. -/
def Dev.used (d : Dev) : Dev := { d with free := d.free + 1 }

/-! ### Lifts -/

/-- Grid time moves forward to a command's time and never back (log entry 1). -/
def Dev.tick (d : Dev) (t : Nat) : Dev := { d with now := max d.now t }

/-- The Grave bits of Table 19-3: 0–3 and 255. -/
def graveMask : Nat := 0xF + 2 ^ 255
/-- Grave bits and the latch at 2 outlast everything but a loss of VAUX (R445). -/
def keepGrave (before after : Faults) : Faults :=
  { after with
    sticky := after.sticky ||| (before.sticky &&& graveMask)
    safe := if before.safe = 2 then 2 else after.safe }
/-- The seal on every command but VAUX_LOSS and VAUX_POWER_UP. -/
def Dev.seal (before after : Dev) : Dev := { after with faults := keepGrave before.faults after.faults }

/-- Units outside the VAUX island do nothing while RESET_N or an internal reset holds them, or VAUX is down (R471). -/
def Dev.live (d : Dev) : Bool := d.power.vauxUp && !d.power.inReset

/-- A command's effect on the block: DDR5 is read and not written. -/
def devStep (t : Nat) (f : Mem → Dev → Dev) (s : State) : Host.Outcome State Fault Refusal :=
  let d := s.dev.tick t
  .next { s with dev := s.dev.seal (if d.live then f s.mem d else d) }
/-- A command's effect on the VAUX island, which also runs while the rest is held in reset (R471). -/
def islandStep (t : Nat) (f : Mem → Dev → Dev) (s : State) : Host.Outcome State Fault Refusal :=
  let d := s.dev.tick t
  .next { s with dev := s.dev.seal (if d.power.vauxUp then f s.mem d else d) }
/-- A command's effect on the block and on DDR5. -/
def memStep (t : Nat) (f : Mem → Dev → Dev × List MemOp) (s : State) : Host.Outcome State Fault Refusal :=
  let d := s.dev.tick t
  let r := if d.live then f s.mem d else (d, [])
  .next { s with dev := s.dev.seal r.1, mem := s.mem.apply r.2 }
/-- The effect of VAUX falling or rising, which alone clears the Grave latch (R445, R468). -/
def vauxStep (t : Nat) (f : Dev → Dev) (s : State) : Host.Outcome State Fault Refusal :=
  .next { s with dev := f (s.dev.tick t) }

/-! ### Units -/

/-- A drill that has never run: stopped, no program. -/
def Drill.init : Drill :=
  { run := .stopped, pc := 0, cursor := 0, busy := 0, loops := [], calls := [], latches := [], timeoutFlag := false
    watch := none, stopAtBoundary := false, segStart := 0, segDue := false, seg := none, alt := none, shadow := none
    firstDue := false, waitGrain := 0, urgentDue := false, why := 6, specAsked := false, segEnds := [], shotEnd := 0, tail := none, segTails := []
    ready := [], muteFrom := none, streamPos := 0, streamCur := 0, streamNext := 0, streamSeq := [], streamSecs := [], streamBad := [], streamEarly := []
    lines := [], grains := [], table := [], library := [], passed := 0, mode := 0, length := 0, entry := 0, held := false, next := none }
/-- An empty converter chain. -/
def Chain.init : Chain :=
  { flight := [], timed := [], furrow := [], alt0 := none, alt1 := none, frameQ := [], markers := [], biases := []
    lastStamp := none, muteFrom := none, muteShot := 0, history := [], last := none, lastFrame := (0, 0, 0), lastGain := 0, used := 0, breach := none
    satDone := false, sums := [], nextInterval := 0, leadMin := [], leadEnds := [], leads := [], settleAt := 0 }
/-- A group that has not started. -/
def Group.init : Group :=
  { started := false, inShot := false, shot := 0, origin := 0, runOrigin := 0, prevEnd := 0, prevOrigin := 0
    hasPrev := false, members := [], took := [], ended := [], windows := [], scope := [], spans := [], spoil := none, earliest := 0 }
/-- A slot with no window. -/
def SlotSt.init : SlotSt := { kernel := [], win := none, closing := [], asked := [], lastEnd := 0, voids := [], lastGroup := 0, lastShot := 0 }
/-- A cell or table that holds nothing. -/
def Holder.init : Holder := { held := [], recv := [], provDone := false }
/-- A TRIG input that has seen no edge. -/
def TrigIn.init : TrigIn :=
  { lastAccepted := none, seq := 0, queue := [], lost := [], fresh := false, interrupted := false }
/-- An empty gleaner. -/
def Gleaner.init : Gleaner :=
  { buffer := [], lost := [], slotStart := 0, slotCount := 0, verdicts := [], canaries := [] }
/-- A disarmed capture engine. -/
def Capture.init : Capture := { armed := false, run := none, follow := [], heldTrigger := none, heldShots := [], asked := [], armDue := false, seq := 0, waiting := [] }
/-- A function with an idle mailbox; every vector masked, as PCI Express resets MSI-X (log entry 10). -/
def FnSt.init : FnSt := { mailbox := 0, request := [], response := [], stale := [], masked := 2 ^ 64 - 1, pending := 0, messages := [], bars := [0, 0, 0] }
/-- An idle DMA channel. -/
def DmaCh.init : DmaCh := { tail := 0, head := 0, halted := false, followed := 0, taskEntry := none, queue := [] }
/-- A port in state 0. -/
def PortSt.init : PortSt :=
  { tx := [], skipUntil := 0, skipBy := 0, arrivals := [], deskew := [], rxSeqs := [], build := none, verdictUntil := 0, agreed := 0, training := 0, capSeen := [], capLast := none, ackSent := false, partnerRest := false, taps := []
    tapReqs := [], tapStatus := [], partnerReady := false, credit4 := 0, credit5 := 0, waiting := [], seqs := [], lastSent := 0
    lastHeard := 0, refreshes := 0, markersSent := 0, elastic := 0, heard := false, frozen := false, partnerIdle := false
    laneNumbers := [], remoteSince := none, bulkAcked := 0, bulkOut := none, bulkSent := 0, bulkResends := 0, stateSince := 0 }
/-- A port's time-protocol state before any message. -/
def PtpPort.init : PtpPort :=
  { t3 := 0, t1 := 0, seqs := [], syncDelta := none, lastSync := 0, lastLog := none }
/-- A commit object at reset: it reads 0 (Table 2-4). -/
def CommitSt.init : CommitSt :=
  { status := 0, reason := 0, boundary := 0, acceptedAt := 0, loading := false, path := 0, carried := none }
/-- A strip or tile with no action due. -/
def UnitSt.init : UnitSt := { entering := 0, since := 0, wakeAt := none, reloading := false, checked := false }

/-- The drill of a lane. -/
def Dev.drill (d : Dev) (l : Nat) : Drill := (SMap.find d.drills l).getD Drill.init
/-- The drill of a lane replaced. -/
def Dev.setDrill (d : Dev) (l : Nat) (x : Drill) : Dev := { d with drills := SMap.set d.drills l x }
/-- The converter chain of a lane. -/
def Dev.chain (d : Dev) (l : Nat) : Chain := (SMap.find d.chains l).getD Chain.init
/-- The converter chain of a lane replaced. -/
def Dev.setChain (d : Dev) (l : Nat) (x : Chain) : Dev := { d with chains := SMap.set d.chains l x }
/-- A shot group. -/
def Dev.group (d : Dev) (g : Nat) : Group := (SMap.find d.groups g).getD Group.init
/-- A shot group replaced. -/
def Dev.setGroup (d : Dev) (g : Nat) (x : Group) : Dev := { d with groups := SMap.set d.groups g x }
/-- A demodulation slot. -/
def Dev.slot (d : Dev) (s : Nat) : SlotSt := (SMap.find d.slots s).getD SlotSt.init
/-- A demodulation slot replaced. -/
def Dev.setSlot (d : Dev) (s : Nat) (x : SlotSt) : Dev := { d with slots := SMap.set d.slots s x }
/-- A combiner cell's input holders. -/
def Dev.cell (d : Dev) (c : Nat) : Holder := (SMap.find d.cells c).getD Holder.init
/-- A correction table's input holders. -/
def Dev.table (d : Dev) (c : Nat) : Holder := (SMap.find d.tables c).getD Holder.init
/-- A bias output; one not listed stands at its power-up value. -/
def Dev.biasOut (d : Dev) (n : Nat) : BiasOut :=
  (SMap.find d.biases n).getD
    { code := bits (d.val (Obj.biasPowerUpValue n)) 17 0, target := bits (d.val (Obj.biasPowerUpValue n)) 17 0
      move := .powerUp, lastStep := none, effect := 0, byRequest := false, heldTill := 0, failed := false }
/-- A bias output replaced. -/
def Dev.setBias (d : Dev) (n : Nat) (x : BiasOut) : Dev := { d with biases := SMap.set d.biases n x }
/-- A TRIG input. -/
def Dev.trig (d : Dev) (n : Nat) : TrigIn := (SMap.find d.trigs n).getD TrigIn.init
/-- A TRIG input replaced. -/
def Dev.setTrig (d : Dev) (n : Nat) (x : TrigIn) : Dev := { d with trigs := SMap.set d.trigs n x }
/-- The gleaner of a tile. -/
def Dev.gleaner (d : Dev) (n : Nat) : Gleaner := (SMap.find d.gleaners n).getD Gleaner.init
/-- The gleaner of a tile replaced. -/
def Dev.setGleaner (d : Dev) (n : Nat) (x : Gleaner) : Dev := { d with gleaners := SMap.set d.gleaners n x }
/-- A capture engine. -/
def Dev.capture (d : Dev) (n : Nat) : Capture := (SMap.find d.captures n).getD Capture.init
/-- The input whose ADC feeds a source of a capture: itself, or the input of a slot (R293). -/
def captureInput (source : Nat) : Nat := if source < 64 then source else (source - 0x400) / 16
/-- A capture engine replaced. -/
def Dev.setCapture (d : Dev) (n : Nat) (x : Capture) : Dev := { d with captures := SMap.set d.captures n x }
/-- A PCI Express function. -/
def Dev.fn (d : Dev) (n : Nat) : FnSt := (SMap.find d.fns n).getD FnSt.init
/-- A PCI Express function replaced. -/
def Dev.setFn (d : Dev) (n : Nat) (x : FnSt) : Dev := { d with fns := SMap.set d.fns n x }
/-- A DMA channel. -/
def Dev.dmaCh (d : Dev) (n : Nat) : DmaCh := (SMap.find d.dma n).getD DmaCh.init
/-- A DMA channel replaced. -/
def Dev.setDma (d : Dev) (n : Nat) (x : DmaCh) : Dev := { d with dma := SMap.set d.dma n x }
/-- A Gargor port. -/
def Dev.port (d : Dev) (n : Nat) : PortSt := (SMap.find d.ports n).getD PortSt.init
/-- A Gargor port replaced. -/
def Dev.setPort (d : Dev) (n : Nat) (x : PortSt) : Dev := { d with ports := SMap.set d.ports n x }
/-- A port's time-protocol state. -/
def Dev.ptp (d : Dev) (n : Nat) : PtpPort := (SMap.find d.clock.ports n).getD PtpPort.init
/-- A port's time-protocol state replaced. -/
def Dev.setPtp (d : Dev) (n : Nat) (x : PtpPort) : Dev := { d with clock := { d.clock with ports := SMap.set d.clock.ports n x } }
/-- The commit state of a commit object, by its key. -/
def Dev.commitOf (d : Dev) (k : Nat) : CommitSt := (SMap.find d.commits k).getD CommitSt.init
/-- The commit state of a commit object replaced. -/
def Dev.setCommit (d : Dev) (k : Nat) (x : CommitSt) : Dev := { d with commits := SMap.set d.commits k x }
/-- A strip (key `k`) or tile (key `64 + k`) leaving or re-entering service. -/
def Dev.unit (d : Dev) (k : Nat) : UnitSt := (SMap.find d.units k).getD UnitSt.init
/-- A strip or tile replaced. -/
def Dev.setUnit (d : Dev) (k : Nat) (x : UnitSt) : Dev := { d with units := SMap.set d.units k x }

/-! ### Staging (R26) -/

/-- The entry of a field in its group's staging buffer (R26, R491): the staged value, else the active one. -/
def Dev.stagedVal (d : Dev) (k : Nat) : Nat := ((SMap.find d.staged k).map Prod.fst).getD (d.val k)
/-- Whether a field has been written since the last commit or cancellation. -/
def Dev.isStaged (d : Dev) (k : Nat) : Bool := (SMap.find d.staged k).isSome

/-! ### Who owns what (chapter 2) -/

/-- The partition a path acts for (Table 2-6). -/
def Path.partition : Path → Nat
  | .pf0 => 0 | .vf n => n.val + 1 | .can => 0 | .gargor _ => 0
/-- The number of a path among the 14 of Table 2-6. -/
def Path.number : Path → Nat
  | .pf0 => 0 | .vf n => n.val + 1 | .can => 9 | .gargor p => 10 + p.val
/-- Owner code `i` of a map of 4-bit codes, 16 per sub-index. -/
def ownerCode (d : Dev) (key : Nat → Nat) (i : Nat) : Nat := bits (d.val (key (i / 16))) (4 * (i % 16) + 3) (4 * (i % 16))
/-- Owner of a lane. -/
def Dev.laneOwner (d : Dev) (l : Nat) : Nat := ownerCode d Obj.partLaneMap l
/-- Owner of a read-out input, and of its slots. -/
def Dev.inputOwner (d : Dev) (i : Nat) : Nat := ownerCode d Obj.partInputMap i
/-- Owner of an event channel. -/
def Dev.chanOwner (d : Dev) (c : Nat) : Nat := ownerCode d Obj.partEventMap c
/-- Owner of a combiner cell. -/
def Dev.cellOwner (d : Dev) (c : Nat) : Nat := ownerCode d Obj.partCellMap c
/-- Owner of a correction table. -/
def Dev.tableOwner (d : Dev) (c : Nat) : Nat := bits (d.val Obj.partTableMap) (4 * c + 3) (4 * c)
/-- The partition that the requests of a unit act for: an unassigned unit's act for partition 0, which alone writes its objects (R46, R47,
R310). -/
def actsFor (owner : Nat) : Nat := if owner = 15 then 0 else owner
/-- The strip of a lane (R7). -/
def stripOf (l : Nat) : Nat := l / 8
/-- The tile of a lane (R7). -/
def tileOf (l : Nat) : Nat := l / 32
/-- The lanes of a strip. -/
def stripLanes (k : Nat) : List Nat := (List.range 8).map (fun j => 8 * k + j)
/-- The lanes of a tile. -/
def tileLanes (k : Nat) : List Nat := (List.range 32).map (fun j => 32 * k + j)
/-- The inputs of a tile. -/
def tileInputs (k : Nat) : List Nat := (List.range 4).map (fun j => 4 * k + j)
/-- All lanes. -/
def allLanes : List Nat := List.range 512

/-- Whether a calibration interrupts a unit now (R414): an item's unit, or for the tile-to-tile item the whole device, its unit 0. -/
def Dev.calInterrupts (d : Dev) (item unit : Nat) : Bool :=
  match d.calib.run with
  | some r => r.phase = 2 && (match r.left with
      | u :: _ => u = (item, unit) || (u.1 = 4 && item ≤ 1)
      | [] => false)
  | none => false

/-! ### Regions (chapter 13) -/

/-- A DDR5 region's descriptor (Table 13-2). -/
def Dev.region (d : Dev) (r : Nat) : Nat := d.val (Obj.memRegion (r / 128) (r % 128))
/-- Bytes of a region. -/
def regionBytes (v : Nat) : Nat := bits v 34 17 * 2 ^ 21
/-- First byte of a region. -/
def regionBase (v : Nat) : Nat := bits v 16 0 * 2 ^ 21
/-- Owner code of a region. -/
def regionOwner (v : Nat) : Nat := bits v 38 35
/-- Region number of a DOMAIN descriptor (Table 2-2). -/
def domRegion (v : Nat) : Nat := bits v 15 0
/-- Length of a DOMAIN descriptor. -/
def domLength (v : Nat) : Nat := bits v 63 32
/-- Offset of a DOMAIN descriptor. -/
def domOffset (v : Nat) : Nat := bits v 127 64
/-- Whether bytes `o` to `o + n − 1` of a region may be reached for a partition; partition 0 reaches every region (R310). -/
def Dev.reach (d : Dev) (p r o n : Nat) : Bool :=
  r < 1024 && o + n ≤ regionBytes (d.region r) && (p = 0 || regionOwner (d.region r) = p)
/-- Whether a host function may reach them: the region's Host read or Host write bit must be set too (R310). -/
def Dev.hostReach (d : Dev) (p r o n : Nat) (write : Bool) : Bool := d.reach p r o n && bit (d.region r) (if write then 40 else 39)
/-- The DDR5 address of a byte of a region. -/
def Dev.regionAddr (d : Dev) (r o : Nat) : Nat := regionBase (d.region r) + o
/-- The DDR5 address of the first byte of a DOMAIN block. -/
def Dev.domAddr (d : Dev) (v : Nat) : Nat := d.regionAddr (domRegion v) (domOffset v)
/-- Whether a DOMAIN block lies wholly inside its region. -/
def Dev.domFits (d : Dev) (v : Nat) : Bool :=
  domLength v = 0 || (domRegion v < 1024 && domOffset v + domLength v ≤ regionBytes (d.region (domRegion v)))
/-- The bytes of a DOMAIN block. -/
def Dev.domBytes (d : Dev) (m : Mem) (v : Nat) : List Byte := m.bytes (d.domAddr v) (domLength v)

/-! ### DDR5 requests (R307, R313, R316) -/

/-- A request counted in its class, device-wide and for the partition that owns the region: 0 served, 1 delayed, 2 refused (R316). -/
def Dev.countClass (d : Dev) (cls owner how : Nat) : Dev :=
  let j := 3 * (cls - 1) + how
  let d := d.bump64 (Obj.memClassCount j)
  if owner ≤ 8 then d.bump64 (Obj.memPartClassCount owner j) else d
/-- The channel of a DDR5 address (R307). -/
def channelOf (a : Nat) : Nat := a / 4096 % 8
/-- How many DDR5 bytes below an address lie on a channel (R307). -/
def onChannel (ch a : Nat) : Nat := a / 32768 * 4096 + min 4096 (a % 32768 - 4096 * ch)
/-- Bytes of a request that lie on a channel. -/
def DdrReq.on (r : DdrReq) (ch : Nat) : Nat := onChannel ch (r.address + r.bytes) - onChannel ch r.address
/-- A request made: it waits at every channel that holds bytes of it (R307), and the arbiter counts it once, when the last has served it
(R314, R316; log entry 24). -/
def Dev.ddrQueue (d : Dev) (r : DdrReq) : Dev :=
  let r := { r with id := d.memctl.made }
  let add := fun (q : SMap (List DdrPart)) (ch : Nat) =>
    if r.on ch = 0 then q else SMap.set q ch (SMap.look q ch [] ++ [{ req := r, bytes := r.on ch, late := false, bad := false }])
  { d with memctl := { d.memctl with made := d.memctl.made + 1, queues := (List.range 8).foldl add d.memctl.queues } }
/-- A request of class 2, 3 or 4 that acts for a partition, on `n` bytes from byte `o` of a region. -/
def Dev.ddrAsk (d : Dev) (cls part r o n : Nat) (use : DdrUse) : Dev :=
  d.ddrQueue
    { id := 0, cls := cls, partition := part, address := d.regionAddr r o, bytes := n, arrived := d.now, deadline := d.now
      use := use, demoted := false, lane := none, line := none, place := 0, owner := regionOwner (d.region r) }
/-- A request refused under R310 (R316). -/
def Dev.ddrRefuse (d : Dev) (cls r : Nat) : Dev := d.countClass cls (if r < 1024 then regionOwner (d.region r) else 15) 2

/-! ### Outputs -/

/-- Something sent to the outside (log entry 4). -/
def Dev.emit (d : Dev) (o : Output) : Dev := { d with out := d.out ++ [o] }
/-- An MSI-X vector of a function: a masked vector sets its pending bit (R364). -/
def Dev.msix (d : Dev) (f v : Nat) : Dev :=
  let x := d.fn f
  if bit x.masked v then d.setFn f { x with pending := putBit x.pending v true } else d.emit (.msix f v)
/-- An MSI-X vector in every function present: PF0 and the enabled virtual functions. -/
def Dev.msixAll (d : Dev) (v : Nat) : Dev := (List.range (d.val Obj.pcieNumVfs + 1)).foldl (fun e f => e.msix f v) d

/-- ErrorRegister (Table 2-9): bit 0 a sticky bit above Notice, bit 3 a thermal state at warn or above, bit 7 a Grave latch. -/
def noticeMask : Nat := (2 ^ 99 - 2 ^ 96) + 2 ^ 114 + 2 ^ 115 + (2 ^ 134 - 2 ^ 118) + (2 ^ 252 - 2 ^ 248)
/-- ErrorRegister as it stands now (Table 2-9). -/
def Dev.errorRegister (d : Dev) : Nat :=
  ofBool ((d.faults.sticky &&& noticeMask) != d.faults.sticky)
    + 8 * ofBool (d.thermal.states.any (fun p => 1 ≤ p.2)) + 128 * ofBool (d.faults.safe = 2)

/-- An EMCY message queued: up to 16 wait (R370). -/
def Dev.emcy (d : Dev) (code source : Nat) : Dev :=
  if d.can.emcy.length < 16 then
    { d with can := { d.can with emcy := d.can.emcy ++ [(code, d.errorRegister, source, d.now)] } }
  else d.bump Obj.canEmcyLost

/-- A producer's firing of a channel: a new wave at the router, which queues up to 64 (R399–R401). 255 fires nothing. -/
def Dev.fireAt (d : Dev) (ch : Nat) (time : EvTime) (fromLink : Bool) : Dev :=
  if 128 ≤ ch then d
  else if 64 ≤ d.router.waves.length then
    let e := d.bump (Obj.evtDropped ch)
    e.put (Obj.evtFlags ch) (e.val (Obj.evtFlags ch) ||| 4)
  else
    let w := d.router.waves ++ [{ channel := ch, time := time, fromLink := fromLink }]
    let e := { d with router := { d.router with waves := w } }
    if d.val Obj.evtQueuePeak < w.length then e.put Obj.evtQueuePeak w.length else e
/-- A local producer's firing at a whole tick. -/
def Dev.fire (d : Dev) (ch tick : Nat) : Dev := d.fireAt ch { tick := tick, ps := 0 } false

/-! ### The gleaner (R289–R292) -/

/-- Whether grid time is unqualified: TimeGridState is 3. -/
def Dev.unqualified (d : Dev) : Bool := d.val Obj.timeGridState = 3

/-- A loss at a time added to those not yet reported: a gap holds at most 65,535 losses and 2^32 − 1 ticks (R287). -/
def addLoss (lost : List (Nat × Nat × Nat)) (fresh : Bool) (time : Nat) : List (Nat × Nat × Nat) :=
  match lost.getLast? with
  | some (f, _, n) => if fresh || 65535 ≤ n || f + 2 ^ 32 - 2 < time then lost ++ [(time, time, 1)] else lost.dropLast ++ [(f, time, n + 1)]
  | none => [(time, time, 1)]

/-- Records taken into a gleaner's buffer in the present 64 ticks (R291). -/
def Gleaner.taken (g : Gleaner) (now : Nat) : Nat := if g.slotStart = now / 64 then g.slotCount else 0
/-- What a source has recorded last, for the kinds that record a difference (Table 12-2). -/
def Gleaner.recorded (g : Gleaner) (kind source : Nat) : Option Nat :=
  if kind = 3 then SMap.find g.verdicts source else if kind = 7 then SMap.find g.canaries source else none
/-- What a source has recorded last, set or taken back. -/
def Gleaner.record (g : Gleaner) (kind source : Nat) (v : Option Nat) : Gleaner :=
  let on := fun (m : SMap Nat) => match v with
    | some x => SMap.set m source x
    | none => SMap.del m source
  if kind = 3 then { g with verdicts := on g.verdicts } else if kind = 7 then { g with canaries := on g.canaries } else g
/-- Whether a buffered record comes after one made at the same tick: in kind, then in source (R291). -/
def GlnRec.after (x r : GlnRec) : Bool := x.kind != 0xFF && x.made = r.made && (r.kind < x.kind || (r.kind = x.kind && r.source < x.source))
/-- A record put into a buffer, behind those that come before it, and remembered by its source. -/
def Gleaner.enter (g : Gleaner) (r : GlnRec) : Gleaner :=
  let last := (g.buffer.reverse.takeWhile (fun x => x.after r)).reverse
  let r := { r with prior := g.recorded r.kind r.source }
  ({ g with buffer := g.buffer.take (g.buffer.length - last.length) ++ [r] ++ last } : Gleaner).record r.kind r.source
    (some (if r.kind = 3 then r.value % 8 else r.value))
/-- GlnBufferPeak follows the buffer. -/
def Dev.gleanPeak (d : Dev) (tile : Nat) : Dev :=
  let n := (d.gleaner tile).buffer.length
  if d.val (Obj.glnBufferPeak tile) < n then d.put (Obj.glnBufferPeak tile) n else d
/-- A gleaner's losses reported once space has returned: beside the space kept for it a gap record finds room, and the 64 ticks take it
(R292). -/
def Dev.reportGaps (d : Dev) (tile : Nat) : Dev :=
  let g := d.gleaner tile
  let n := if g.buffer.length < 4095 then min (8 - g.taken d.now) (4096 - g.buffer.length) else 0
  let gaps : List GlnRec := (g.lost.take n).map (fun p =>
    { time := p.1, value := wrap 32 (p.2.1 - p.1 + 1), source := p.2.2, flags := ofBool d.unqualified, kind := 0xFF, made := d.now, prior := none })
  if gaps.isEmpty then d
  else
    let e := d.setGleaner tile
      { g with buffer := g.buffer ++ gaps, lost := g.lost.drop n, slotStart := d.now / 64, slotCount := g.taken d.now + gaps.length }
    gaps.foldl (fun e _ => (e.bump (Obj.glnGaps tile)).fire (d.val Obj.glnGapEvent) d.now) (e.gleanPeak tile)
/-- A record lost at a gleaner (R292). -/
def Dev.gleanLoss (d : Dev) (tile : Nat) (r : GlnRec) : Dev :=
  let g := d.gleaner tile
  (d.setGleaner tile { g with lost := addLoss g.lost false r.time }).bump64 (Obj.glnLost tile)

/-- A record into a tile's buffer, behind a gap record for earlier losses: at most 8 per 64 ticks, one space kept for a gap record. Of the
records made at one tick, the last by kind and source are lost (R291, R292). -/
def Dev.gleanInto (d : Dev) (tile : Nat) (r : GlnRec) : Dev :=
  let d := d.reportGaps tile
  let g := d.gleaner tile
  if g.lost.isEmpty && g.taken d.now < 8 && g.buffer.length < 4095 then
    (d.setGleaner tile { g.enter r with slotStart := d.now / 64, slotCount := g.taken d.now + 1 }).gleanPeak tile
  else match g.buffer.getLast? with
    | some x =>
      if x.after r then
        let g := ({ g with buffer := g.buffer.dropLast } : Gleaner).record x.kind x.source x.prior
        (d.setGleaner tile (g.enter r)).gleanLoss tile x
      else d.gleanLoss tile r
    | none => d.gleanLoss tile r

/-- A gleaner record of an enabled kind (R289); an empty ring writes nothing (R281). -/
def Dev.glean (d : Dev) (tile kind source time value : Nat) : Dev :=
  if bit (d.val Obj.glnSourceEnable) (kind - 1) && domLength (d.val (Obj.glnRing tile)) != 0 then
    d.gleanInto tile
      { time := time, value := wrap 32 value, source := source, flags := ofBool d.unqualified, kind := kind, made := d.now, prior := none }
  else d

/-- The monitor's spare slice lent to calibration, or given back (R279). -/
def Dev.lend (d : Dev) (on : Bool) : Dev :=
  let m := d.monitor
  { d with monitor := { m with lent := on, spareBusy := if m.lent && !on then d.now else m.spareBusy } }

/-- A running capture's instants moved (R68). -/
def CapRun.shift (m : Nat → Nat) (r : CapRun) : CapRun :=
  { r with start := m r.start, voided := r.voided.map m, tunings := r.tunings.map (fun x => { x with since := if x.since = 0 then 0 else m x.since }) }

/-! ### MARK pins -/

/-- The level of a MARK ball. -/
def Dev.pin (d : Dev) (p : Nat) : Bool := (SMap.find d.pins p).getD false
/-- A MARK ball driven; a change is sent and gleaned (Table 12-2). -/
def Dev.setPin (d : Dev) (p : Nat) (level : Bool) (time : Nat) : Dev :=
  if d.pin p = level then d
  else
    let e := { d with pins := SMap.set d.pins p level }
    (e.emit (.markPin p level time)).glean (p / 2) 2 p time (ofBool level)

/-! ### Gargor frames (R378–R381) -/

/-- Port state 4 is active (Table 16-7). -/
def Dev.portActive (d : Dev) (p : Nat) : Bool := d.val (Obj.ggPortState p) = 4
/-- A frame sent now, with its count of Table 16-12. -/
def Dev.sendNow (d : Dev) (p cls : Nat) (payload : List Byte) : Dev :=
  let x := d.port p
  let e := d.setPort p
    { x with lastSent := d.now, refreshes := 0, seqs := SMap.set x.seqs cls (wrap 16 (SMap.look x.seqs cls 0 + 1))
             credit4 := if cls = 4 then x.credit4 - 1 else x.credit4
             credit5 := if cls = 5 then x.credit5 - 1 else x.credit5 }
  (e.bump64 (Obj.ggFramesSent p (cls - 1))).emit (.frame p cls (SMap.look x.seqs cls 0) payload)
/-- Whether a frame of a class may be sent: classes 4 and 5 need credit (R381). -/
def PortSt.mayCredit (x : PortSt) (cls : Nat) : Bool :=
  if cls = 4 then 0 < x.credit4 else if cls = 5 then 0 < x.credit5 else true
/-- Stripes of a frame with a payload of `n` bytes (R378). -/
def frameStripes (n : Nat) : Nat := ceilDiv (1 + ceilDiv (n + 4) 8) 4
/-- Time of one stripe at a rate code, in tenths of a tick (Table 16-2). -/
def stripeTime (rate : Nat) : Nat := if rate = 4 then 132 else if rate = 3 then 264 else if rate = 2 then 660 else 2640
/-- Whether a frame of a class pre-empts one in progress (Table 16-4). -/
def preempts (cls other : Nat) : Bool := if cls = 1 then other != 1 else (cls = 2 || cls = 3) && 4 ≤ other
/-- Whether the first stripe of a frame of a class may be sent at a time (R379–R381): no frame in progress stands before it, no skip group is
owed before it, and it has credit. -/
def PortSt.maySend (x : PortSt) (cls time : Nat) : Bool :=
  x.tx.all (fun f => f.until' ≤ time || preempts cls f.cls) && (x.skipUntil ≤ time || (cls = 1 && time < x.skipBy)) && x.mayCredit cls
/-- A frame of `n` stripes begun at a time: what it pre-empts leaves later by as much, and so does an owed skip group that stands behind it. -/
def PortSt.begin' (x : PortSt) (cls n per time : Nat) : PortSt :=
  let more := n * per
  let behind := (x.tx.filter (fun f => time < f.until')).map (fun f => { f with until' := f.until' + more })
  { x with tx := { cls := cls, until' := time + more } :: behind
           skipUntil := if time < x.skipUntil then max x.skipUntil (min (x.skipUntil + more) (x.skipBy + 8 * per)) else x.skipUntil }
/-- The waiting frame that is sent next at a time, by its place (R379): the oldest of the first class that may send. -/
def PortSt.nextFrame (x : PortSt) (time : Nat) : Option Nat :=
  match [1, 2, 3, 4, 5].find? (fun c => x.waiting.any (fun w => w.1 = c) && x.maySend c time) with
  | some c => x.waiting.findIdx? (fun w => w.1 = c)
  | none => none
/-- Waiting frames of a port begun now, one after another, while their turn has come. -/
def Dev.beginFrames : Nat → Dev → Nat → Dev
  | 0, d, _ => d
  | n + 1, d, p =>
    let x := d.port p
    match x.nextFrame (10 * d.now) with
    | none => d
    | some i =>
      match x.waiting[i]? with
      | none => d
      | some (cls, payload) =>
        let y := { x with waiting := x.waiting.eraseIdx i }.begin' cls (frameStripes payload.length) (stripeTime (d.val (Obj.ggRate p))) (10 * d.now)
        Dev.beginFrames n ((d.setPort p y).sendNow p cls payload) p
/-- Frames that wait on an active port, in the order of R379. -/
def Dev.drainPort (d : Dev) (p : Nat) : Dev := if d.portActive p then Dev.beginFrames (d.port p).waiting.length d p else d
/-- A frame to send: on an active port at its turn. A port at rest or waking keeps every frame, any other port that is not active only those of
classes 4 and 5 (R393, R397). -/
def Dev.sendFrame (d : Dev) (p cls : Nat) (payload : List Byte) : Dev :=
  let x := d.port p
  if d.portActive p then (d.setPort p { x with waiting := x.waiting ++ [(cls, payload)] }).drainPort p
  else if d.val (Obj.ggPortState p) = 5 || d.val (Obj.ggPortState p) = 6 || 4 ≤ cls then d.setPort p { x with waiting := x.waiting ++ [(cls, payload)] }
  else d
/-- A frame of a class accepted by a port (Table 16-12). -/
def Dev.received (d : Dev) (p cls : Nat) : Dev :=
  let x := d.port p
  (d.setPort p { x with lastHeard := d.now, heard := true, frozen := false
                        rxSeqs := SMap.set x.rxSeqs cls (wrap 16 (SMap.look x.rxSeqs cls 0 + 1)) }).bump64 (Obj.ggFramesReceived p (cls - 1))
/-- The payload of an event or notice frame (Table 16-6). -/
def eventPayload (kind code : Nat) (void aligned : Bool) (time : EvTime) : List Byte :=
  leBytes 1 kind ++ leBytes 1 code ++ leBytes 1 (ofBool void + 2 * ofBool aligned) ++ leBytes 1 time.ps ++ zeros 4 ++ leBytes 8 time.tick
/-- Whether grid time is aligned or standalone master: TimeGridState 1 or 2 (Table 16-6). -/
def Dev.aligned (d : Dev) : Bool := d.val Obj.timeGridState = 1 || d.val Obj.timeGridState = 2
/-- A notice on every active port (R386). -/
def Dev.noticeAll (d : Dev) (kind code : Nat) : Dev :=
  (List.range 4).foldl
    (fun e p => if e.portActive p then e.sendFrame p 3 (eventPayload kind code false e.aligned { tick := e.now, ps := 0 }) else e) d

end Sys2Proof.Machine
end

