-- ==== Sys2Proof/Machine/Flags.lean ====
section
/-! DEFINITION. Shots and their spoiled reasons, stopping a lane, Verdict Pending Table entries that end, fault bits, the
safe state and DevState: the status every unit reports. -/

namespace Sys2Proof.Machine

/-! ### Spoiled reasons (Table 12-7) -/

/-- Codes of Table 12-7, in rank order. -/
inductive Reason where
  | referenceLost | safeState | unitVoid | stopped | energyRefused | lateGranule | misprediction | speculationMissed
  | speculationRefused | verdictMissing | slotDisabled | windowConflict
deriving DecidableEq, Repr

/-- The code of a reason. -/
def Reason.code : Reason → Nat
  | .referenceLost => 1 | .safeState => 2 | .unitVoid => 3 | .stopped => 4 | .energyRefused => 5 | .lateGranule => 6
  | .misprediction => 7 | .speculationMissed => 8 | .speculationRefused => 9 | .verdictMissing => 10
  | .slotDisabled => 11 | .windowConflict => 12

/-- The cause that stands when a second strikes: earliest grid time, then rank (R6). -/
def Spoil.merge (old new : Spoil) : Spoil :=
  if new.time < old.time || (new.time = old.time && new.reason < old.reason) then new else old

/-- The group of a lane: its shot group, or a group of its own (R115). -/
def Dev.groupOf (d : Dev) (l : Nat) : Nat :=
  if d.val (Obj.laneShotGroup l) ≤ 63 then d.val (Obj.laneShotGroup l) else 64 + l

/-- Every lane that took part counts a spoiled shot once; LaneLastSpoil holds the reported reason of the latest spoiled shot (R115, R302). -/
def Dev.countSpoil (d : Dev) (lanes : List Nat) (shot : Nat) (old : Option Spoil) (new : Spoil) : Dev :=
  let decided := fun (s : Spoil) => 7 ≤ s.reason && s.reason ≤ 9
  lanes.foldl
    (fun e l =>
      let e := if old.isNone then e.bump64 (Obj.laneSpoiled l) else e
      let e := if bits (e.val (Obj.laneLastSpoil l)) 47 0 ≤ wrap 48 shot then e.put (Obj.laneLastSpoil l) (wrap 48 shot + new.reason * 2 ^ 48) else e
      if decided new && !(old.any decided) then e.bump (Obj.laneMispredictSpoils l) else e) d

/-- A cause that spoils a shot of a group (R6, R300): `cause` is the lane, or `2^15 +` the fabric ID. -/
def Dev.spoilShot (d : Dev) (g shot : Nat) (r : Reason) (time cause : Nat) : Dev :=
  let new : Spoil := { time := time, reason := r.code, cause := cause }
  let x := d.group g
  if x.inShot && x.shot = shot then
    let kept := (x.spoil.map (fun o => o.merge new)).getD new
    (d.setGroup g { x with spoil := some kept }).countSpoil x.took shot x.spoil kept
  else
    match d.shots.find? (fun s => s.group = g && s.shot = shot) with
    | some s =>
      let kept := (s.spoil.map (fun o => o.merge new)).getD new
      let shots := d.shots.map (fun y => if y.group = g && y.shot = shot then { y with spoil := some kept } else y)
      ({ d with shots := shots } : Dev).countSpoil s.members shot s.spoil kept
    | none => d

/-- The shots of a lane that have begun and not reached their end `E`: (group, shot). -/
def Dev.shotsOfLane (d : Dev) (l : Nat) : List (Nat × Nat) :=
  let g := d.groupOf l
  let x := d.group g
  (if x.inShot && x.took.contains l then [(g, x.shot)] else [])
    ++ (d.shots.filter (fun s => s.members.contains l && d.now < s.stop)).map (fun s => (s.group, s.shot))

/-- The shot of a lane that a stamp falls in: of those begun, the latest whose origin is not after it. -/
def Dev.shotAt (d : Dev) (l stamp : Nat) : Nat :=
  let g := d.groupOf l
  let x := d.group g
  if x.inShot && x.took.contains l && x.origin ≤ stamp then x.shot
  else ((d.shots.filter (fun s => s.group = g && s.origin ≤ stamp)).getLast?.map ShotRec.shot).getD x.shot

/-- Whether a lane is inside a shot: from its group's `shot.begin` to the shot's end `E` (R490). -/
def Dev.laneInShot (d : Dev) (l : Nat) : Bool := !(d.shotsOfLane l).isEmpty

/-- Every shot in progress of a lane spoiled. -/
def Dev.spoilLane (d : Dev) (l : Nat) (r : Reason) (time : Nat) : Dev :=
  (d.shotsOfLane l).foldl (fun e p => e.spoilShot p.1 p.2 r time l) d

/-- Every shot in progress (group, shot). -/
def Dev.shotsNow (d : Dev) : List (Nat × Nat) :=
  (d.groups.filter (fun p => p.2.inShot)).map (fun p => (p.1, p.2.shot))
    ++ (d.shots.filter (fun s => d.now < s.stop)).map (fun s => (s.group, s.shot))
/-- Every shot in progress spoiled, the cause named by its group's lowest lane. -/
def Dev.spoilAll (d : Dev) (r : Reason) : Dev :=
  (d.shotsNow).foldl (fun e p =>
    let x := e.group p.1
    let lane := (x.took.head?).getD (((e.shots.find? (fun s => s.group = p.1 && s.shot = p.2)).bind (fun s => s.members.head?)).getD 0)
    e.spoilShot p.1 p.2 r e.now lane) d

/-! ### The end of a shot (R115) -/

/-- Lanes whose drill runs. -/
def Dev.runningLanes (d : Dev) : List Nat :=
  (d.drills.filter (fun p => p.2.run != .stopped && p.2.run != .halted)).map (fun p => p.1)
/-- Running members of a group: lanes of the group whose drill runs and whose strip is in service (R116). -/
def Dev.runningMembers (d : Dev) (g : Nat) : List Nat :=
  d.runningLanes.filter (fun l => d.groupOf l = g && d.val (Obj.stripState (stripOf l)) = 0)

/-- What StripLeadMin reads (R99): the smallest lead released in the latest shot of the lane that has reached its end. -/
def Dev.leadMinOf (d : Dev) (l : Nat) : Nat :=
  let c := d.chain l
  match (c.leadEnds.filter (fun p => p.2 ≤ d.now)).getLast? with
  | some p => SMap.look c.leadMin p.1 255
  | none => d.val (Obj.stripLeadMin (l / 8) (l % 8))
/-- A shot's end becomes known for a lane's lead report; the reports of shots already past are settled (R99). -/
def Dev.noteLeads (d : Dev) (l shot stop : Nat) : Dev :=
  let c := d.chain l
  let past := c.leadEnds.filter (fun p => p.2 ≤ d.now)
  (d.put (Obj.stripLeadMin (l / 8) (l % 8)) (d.leadMinOf l)).setChain l
    { c with leadEnds := c.leadEnds.filter (fun p => d.now < p.2) ++ [(shot, stop)]
             leadMin := c.leadMin.filter (fun p => !(past.any (fun q => q.1 = p.1))) }

/-- The end `E` of a shot: the latest of the members' ends, their windows and the alternate spans they staged. -/
def Group.endTick (x : Group) (now : Nat) : Nat :=
  let ends := x.ended.map (fun p => p.2) ++ (x.windows.filter (fun w => !w.late)).map (fun w => w.stop) ++ x.spans
  if ends.isEmpty then max now x.origin else ends.foldl max x.origin

/-! ### Entries of the Verdict Pending Table that end (R227, R228) -/

/-- How an entry ends (R227). -/
inductive EntryEnd where
  | confirmed | squashed | unconfirmable
deriving DecidableEq, Repr

/-- Entries in use. -/
def Dev.vptInUse (d : Dev) : Nat := d.vpt.length

/-- What is left of the reservation of a lane's span, at the positions that no sample has left from (R243). -/
def Dev.freeSpan (d : Dev) (l start : Nat) : Dev :=
  let sums := (d.chain l).sums
  { d with energy := { d.energy with resv := d.energy.resv.filter (fun r =>
      !(r.lane = l && r.span = some start && !(sums.any (fun p => p.1 = r.stamp)))) } }

/-- Reservations of a lane in a stamp range released (R243). -/
def Dev.freeResv (d : Dev) (l lo hi : Nat) : Dev :=
  { d with energy := { d.energy with resv := d.energy.resv.filter (fun r => !(r.lane = l && lo ≤ r.stamp && r.stamp < hi)) } }

/-- An alternate slot of a lane. -/
def Chain.alt (c : Chain) (i : Nat) : Option AltSlot := if i = 0 then c.alt0 else c.alt1
/-- An alternate slot of a lane replaced. -/
def Chain.setAlt (c : Chain) (i : Nat) (x : Option AltSlot) : Chain := if i = 0 then { c with alt0 := x } else { c with alt1 := x }

/-- The other entry of a group no longer names this one (Table 9-6). -/
def Dev.unpair (d : Dev) (v : VptEntry) : Dev :=
  match v.group.bind (fun j => (SMap.find d.vpt j).map (fun m => (j, m))) with
  | some (j, m) => { d with vpt := SMap.set d.vpt j { m with group := none } }
  | none => d
/-- Whether a span of a lane still has a live entry, or a slot of the group the drill is building or waits for (R242, R243). -/
def Dev.spanLives (d : Dev) (l stamp : Nat) : Bool :=
  d.vpt.any (fun p => p.2.lane = l && p.2.release + 40 = stamp)
    || (d.drill l).alt.any (fun g => (d.group (d.groupOf l)).origin + 64 * g.release = stamp)

/-- A drill with nothing at the issue port waits for no grant (R98). -/
def Drill.settled (r : Drill) : Drill := if r.ready.isEmpty then { r with passed := 0 } else r

/-- An entry struck off: its slot and content go, its reservation is released unless the other slot of its group still lives,
and for a branch the lane's shadow state and staged items are discarded (R228). Counted once (R227). -/
def Dev.endEntry (d : Dev) (i : Nat) (how : EntryEnd) : Dev :=
  match SMap.find d.vpt i with
  | none => d
  | some v =>
    let d := ({ d with vpt := SMap.del d.vpt i } : Dev).unpair v
    let d := d.setChain v.lane ((d.chain v.lane).setAlt v.slot none)
    let c := d.chain v.lane
    let d := d.setChain v.lane
      { c with flight := c.flight.filter (fun g => !(g.altSlot = some v.slot && g.shot = v.shot)) }
    let r := d.drill v.lane
    let d := d.setDrill v.lane { r with ready := r.ready.filter (fun j => !(j.altSlot = some v.slot && j.shot = v.shot)) }.settled
    let stamp := v.release + 40
    let d := if d.spanLives v.lane stamp then d else d.freeSpan v.lane stamp
    let d :=
      match how with
      | .confirmed => d.bump64 Obj.fbSpecConfirmed
      | .squashed => (d.bump64 Obj.fbSpecSquashed).bump (Obj.laneSpecSquashed v.lane)
      | .unconfirmable => d.bump Obj.fbSpecUnconfirmable
    if v.isBranch then
      let r := d.drill v.lane
      match r.shadow with
      | some s =>
        d.setDrill v.lane
          { r with pc := s.pc, cursor := s.cursor, busy := s.busy, loops := s.loops, calls := s.calls, shadow := none
                   watch := s.watch, segStart := s.segStart, segDue := s.segDue, firstDue := s.firstDue, streamCur := s.streamCur
                   urgentDue := false, run := .waitBranch, waitGrain := s.grain, why := if how = .squashed then 7 else r.why }
      | none => d
    else d

/-- An entry struck by an event of R229: a confirmed one was counted when it was confirmed and is only freed, any other is squashed
(R227, R228). -/
def Dev.strikeEntry (d : Dev) (i : Nat) : Dev :=
  match SMap.find d.vpt i with
  | some v =>
    if v.state = .confirmed then
      let d := ({ d with vpt := SMap.del d.vpt i } : Dev).unpair v
      let d := d.setChain v.lane ((d.chain v.lane).setAlt v.slot none)
      if d.spanLives v.lane (v.release + 40) then d else d.freeSpan v.lane (v.release + 40)
    else d.endEntry i .squashed
  | none => d
/-- Entries of a lane: their numbers. -/
def Dev.entriesOf (d : Dev) (l : Nat) : List Nat := (d.vpt.filter (fun p => p.2.lane = l)).map (fun p => p.1)
/-- Every live entry of a lane squashed (R229). -/
def Dev.squashLane (d : Dev) (l : Nat) : Dev := (d.entriesOf l).foldl Dev.strikeEntry d

/-! ### Mute and stop -/

/-- What is left of a job of a lane muted from a stamp. -/
def PlayJob.cut (from_ : Nat) (j : PlayJob) : PlayJob :=
  let keep := ceilDiv (from_ - (j.tsOrigin + 64 * j.start)) 64
  if j.length ≤ keep then j else { j with length := keep, last := false }
/-- Jobs without the granules of a shot from a stamp on. -/
def cutJobs (shot from_ : Nat) (js : List PlayJob) : List PlayJob :=
  (js.map (fun j => if j.shot = shot then j.cut from_ else j)).filter (fun j => j.next < j.length)
/-- Whether a granule belongs to a shot and is stamped at or after a time. -/
def Granule.from (shot from_ : Nat) (g : Granule) : Bool := g.shot = shot && from_ ≤ g.stamp
/-- An alternate slot without the granules of a shot from a stamp on. -/
def AltSlot.cut (shot from_ : Nat) (a : AltSlot) : AltSlot := { a with granules := a.granules.filter (fun g => !(g.from shot from_)) }
/-- A drill inside a shot, whatever it waits for there. -/
def Drill.inside (r : Drill) : Bool :=
  r.run = .inShot || r.run = .waitSync || r.run = .waitBranch || r.run = .waitConfirm || r.run = .waitAlt
/-- Whether a lane's drill is in a shot now: a drill that runs ahead may be past it. -/
def Dev.drillIn (d : Dev) (l shot : Nat) : Bool := (d.drill l).inside && (d.group (d.groupOf l)).shot = shot
/-- Stamps of a shot end where the next begun shot of its group starts. -/
def Dev.shotLimit (d : Dev) (l shot : Nat) : Nat :=
  let x := d.group (d.groupOf l)
  if shot < x.shot then x.origin else 2 ^ 65

/-- The lane's chain muted for a shot from a stamp: an earlier mute of a later shot stands, one of an earlier shot is replaced (R92). -/
def Chain.mute (c : Chain) (shot from_ : Nat) : Chain :=
  let c := { c with flight := c.flight.filter (fun g => !(g.from shot from_)), furrow := c.furrow.filter (fun g => !(g.from shot from_))
                    alt0 := c.alt0.map (AltSlot.cut shot from_), alt1 := c.alt1.map (AltSlot.cut shot from_) }
  match c.muteFrom with
  | some f =>
    if shot < c.muteShot then c
    else { c with muteFrom := some (if shot = c.muteShot then min from_ f else from_), muteShot := shot }
  | none => { c with muteFrom := some from_, muteShot := shot }
/-- A lane's chain with nothing of its owner's left but what has been sent to the DAC: its mute, its tail and the sums measured and not yet
delivered (R92, R162). -/
def Chain.cleared (c : Chain) : Chain :=
  { Chain.init with
    lastStamp := c.lastStamp, muteFrom := c.muteFrom, muteShot := c.muteShot, history := c.history, last := c.last, lastFrame := c.lastFrame
    lastGain := c.lastGain, used := c.used, breach := c.breach, satDone := c.satDone, sums := c.sums, nextInterval := c.nextInterval }
/-- The drill's side of a mute: what it has queued of the shot, and what it still issues in it (R92). -/
def Drill.mute (r : Drill) (shot from_ : Nat) (here : Bool) : Drill :=
  Drill.settled
    { r with ready := cutJobs shot from_ r.ready
             shadow := r.shadow.map (fun s => { s with jobs := cutJobs shot from_ s.jobs })
             muteFrom := if here then some (min from_ (r.muteFrom.getD from_)) else r.muteFrom }

/-- A lane muted from a stamp to the end of a shot: its granules stamped from there on are discarded wherever they wait, and their
reservations are released (R92, R105, R243). The drill runs on. A granule already released from the furrow or a slot is in the output pipeline
and still plays (log entry 13). -/
def Dev.mute (d : Dev) (l shot from_ : Nat) : Dev :=
  let hi := d.shotLimit l shot
  let here := d.drillIn l shot
  let sums := (d.chain l).sums
  let d := (d.setChain l ((d.chain l).mute shot from_)).setDrill l ((d.drill l).mute shot from_ here)
  { d with energy := { d.energy with resv := d.energy.resv.filter (fun r =>
      !(r.lane = l && from_ ≤ r.stamp && r.stamp < hi && !(sums.any (fun p => p.1 = r.stamp)))) } }

/-- The drill of a lane at rest, its program kept; granules of a shot that has ended still wait at the issue port. -/
def Drill.rest (r : Drill) (run : DrillRun) : Drill :=
  { r with run := run, loops := [], calls := [], latches := [], timeoutFlag := false, watch := none, stopAtBoundary := false
           seg := none, segDue := false, alt := none, shadow := none, firstDue := false, segEnds := [], segTails := [] }

/-- A lane out of its group (R116). -/
def Dev.outOfGroup (d : Dev) (l : Nat) : Dev :=
  let g := d.groupOf l
  let x := d.group g
  let y := { x with members := x.members.filter (fun m => m != l) }
  d.setGroup g { y with started := y.started && (y.inShot || (d.runningMembers g).any (fun m => m != l)) }

/-! ### Requests, and what a shot's end does (R29, R115, R229) -/

/-- A request that travels with its stamp (R126); while the drill follows a prediction it waits in the staging buffers (R217). -/
def Dev.request (d : Dev) (l : Nat) (x : Timed) : Dev :=
  let r := d.drill l
  let x : Sent := { req := x, why := r.why }
  match r.shadow with
  | some s => d.setDrill l { r with shadow := some { s with timed := s.timed ++ [x] } }
  | none => let c := d.chain l; d.setChain l { c with timed := c.timed ++ [x] }

/-- Fields of the lane group that an entry reads (R32) and that travel as frame records (R157): key, kind of record, frame. -/
def laneRecordKeys (l : Nat) : List (Nat × Nat × Nat) :=
  (List.range 8).map (fun f => (Obj.laneFrameFreq l f, 0, f)) ++ (List.range 8).map (fun f => (Obj.laneFramePhase l f, 1, f))
    ++ (List.range 8).map (fun f => (Obj.laneFrameOrigin l f, 3, f)) ++ [(Obj.laneDigitalGain l, 4, 0)]
/-- Whether a live entry of a lane reads a value the lane group's commit would change (R32). -/
def Dev.laneReadLive (d : Dev) (l : Nat) : Bool :=
  d.vpt.any (fun p => p.2.lane = l && p.2.state != .confirmed) && (laneRecordKeys l).any (fun r => d.stagedVal r.1 != d.val r.1)
/-- Whether a commit waits for a boundary of a kind that the drill has not passed. -/
def CommitSt.waits (c : CommitSt) (boundary : Nat) : Bool := c.status = 2 && c.boundary = boundary && c.carried.isNone
/-- A pending commit's boundary passed in the drill's issue order. -/
def Dev.carry (d : Dev) (key e : Nat) : Dev := d.setCommit key { d.commitOf key with carried := some e }
/-- A lane-group commit at its boundary: the drill carries its frame records ahead of the first granule stamped there (R157, R158), or the
commit is deferred (R32). -/
def Dev.carryLane (d : Dev) (l e : Nat) : Dev :=
  if d.laneReadLive l then d.bump Obj.devCommitsDeferred
  else
    ((laneRecordKeys l).filter (fun r => d.isStaged r.1)).foldl (fun b r => b.request l (.frame r.2.1 r.2.2 (d.stagedVal r.1) e true))
      (d.carry (Obj.laneCommit l) e)

/-- Commits at next shot boundary of one lane meet the end `e` of its shot (R29); a program not yet loaded is carried to the next
(R147), and a loaded one holds the drill until it takes effect. -/
def Dev.shotCommits (d : Dev) (l e : Nat) : Dev :=
  let d := if (d.commitOf (Obj.laneCommit l)).waits 3 then d.carryLane l e else d
  let d := if (d.commitOf (Obj.biasCommit l)).waits 3 then d.carry (Obj.biasCommit l) e else d
  let d := if (d.commitOf (Obj.laneFetchCommit l)).waits 3 then d.carry (Obj.laneFetchCommit l) e else d
  let c := d.commitOf (Obj.laneProgCommit l)
  if !(c.waits 3) then d
  else if c.loading then d.bump Obj.devCommitsDeferred
  else
    let r := d.drill l
    (d.carry (Obj.laneProgCommit l) e).setDrill l (if r.run = .stopped || r.run = .halted then r else { r with held := true })

/-- Entries whose window ends after the shot's end are unconfirmable, reason "verdict missing" (R229). DESIGN CHOICE: the spoil ranks at the
alternate's stamp, its first dependent granule (R6; log entry 13). -/
def Dev.strikeOpenEntries (d : Dev) (shot stop : Nat) : Dev :=
  (d.vpt.filter (fun p => p.2.shot = shot && stop < p.2.windowEnd && p.2.state != .confirmed)).foldl
    (fun e p =>
      let e := e.endEntry p.1 .unconfirmable
      (e.mute p.2.lane shot (p.2.release + 40)).spoilShot (e.groupOf p.2.lane) shot .verdictMissing (p.2.release + 40) p.2.lane) d

/-- A lane told to stop at its shot boundary stops once its shot has ended (Table 5-15); no shot is spoiled. -/
def Dev.boundaryStops (d : Dev) (lanes : List Nat) : Dev :=
  lanes.foldl (fun e l =>
    let r := e.drill l
    if r.stopAtBoundary && r.run = .between then ((e.setDrill l (r.rest .stopped)).put (Obj.laneRun l) 0).outOfGroup l else e) d

/-- A shot ends for its group: each lane that took part counts it, and its record waits for the sheaf (R115, R298). -/
def Dev.closeShot (d : Dev) (g : Nat) : Dev :=
  let x := d.group g
  let stop := x.endTick d.now
  let rec' : ShotRec :=
    { shot := x.shot, group := g, origin := x.origin, stop := stop, spoil := x.spoil, members := x.took, windows := x.windows, scope := x.scope }
  let kept := d.shots.filter (fun s => s.group < 64 || d.now < s.stop + 10000)
  let d := { d with shots := kept ++ [rec'] }
  let d := d.setGroup g
    { x with inShot := false, prevEnd := stop, prevOrigin := x.origin, hasPrev := true, spoil := none, ended := []
             windows := [], spans := [], took := [], started := !(d.runningMembers g).isEmpty }
  let d := x.took.foldl (fun e l => e.bump64 (Obj.laneShots l)) d
  let d := x.took.foldl (fun e l => e.noteLeads l x.shot stop) d
  x.took.foldl (fun e l =>
    let k := l / 8
    if e.val (Obj.csUserShotLane k) = l % 8 && !(SMap.look e.store.userWords k []).isEmpty then
      { e with store := { e.store with userDue := SMap.set e.store.userDue k (x.shot, (x.spoil.map Spoil.reason).getD 0) } }
    else e) d

/-- What the end of a shot does to entries still open, to lanes told to stop at it, and to commits at next shot boundary (R29, R229,
Table 5-15). -/
def Dev.afterShot (d : Dev) (shot stop : Nat) (lanes : List Nat) : Dev :=
  lanes.foldl (fun e m => e.shotCommits m stop) ((d.strikeOpenEntries shot stop).boundaryStops lanes)
/-- Whether every running member of a group's shot has passed `shot.end` (R115). -/
def Group.allEnded (x : Group) : Bool := x.inShot && x.members.all (fun l => x.ended.any (fun p => p.1 = l))
/-- A shot that every running member has left ends for the group, whether by `shot.end` or because its last open member halted, stopped or
went void (R115, R116). -/
def Dev.endShotIfDone (d : Dev) (g : Nat) : Dev :=
  let x := d.group g
  if x.allEnded then
    let e := d.closeShot g
    e.afterShot x.shot (e.group g).prevEnd x.took
  else d
/-- A lane leaves its group (R116); its group's shot may end by that. -/
def Dev.leaveGroup (d : Dev) (l : Nat) : Dev := (d.outOfGroup l).endShotIfDone (d.groupOf l)

/-- A lane's drill stopped now, as for LaneRun = 0 (Table 5-15): entries squashed, the shot in progress spoiled, the lane muted
from the next granule, LaneRun 0, and the lane out of its group. DESIGN CHOICE: a cause with neither granule nor verdict (LaneRun written 0,
RF cleared, the safe state, the reference lost, a void unit) ranks in R6 at the grid time of its event, now (log entry 13). -/
def Dev.stopLane (d : Dev) (l : Nat) (r : Reason) : Dev :=
  let shots := d.shotsOfLane l
  let d := d.squashLane l
  let d := shots.foldl (fun e p => (e.spoilShot p.1 p.2 r e.now l).mute l p.2 e.now) d
  let d := d.setDrill l { (d.drill l).rest .stopped with ready := [], tail := none, passed := 0 }
  (d.put (Obj.laneRun l) 0).leaveGroup l

/-- Every drill stopped as for LaneRun = 0 (R60, R446). -/
def Dev.stopAll (d : Dev) (r : Reason) : Dev :=
  let d := d.spoilAll r
  let lanes := d.drills.map (fun p => p.1)
  lanes.foldl (fun e l => e.stopLane l r) d

/-- DevRfEnable from 1 to 0, for any cause (R60). -/
def Dev.rfOff (d : Dev) (r : Reason) : Dev :=
  if d.flag Obj.devRfEnable then (d.put Obj.devRfEnable 0).stopAll r else d

/-! ### Faults (chapter 19) -/

/-- The class of a sticky bit (Table 19-3): 0 Notice, 1 Recoverable, 2 Severe, 3 Grave; none when reserved. -/
def faultClass (b : Nat) : Option Nat :=
  if b ≤ 3 then some 3
  else if 8 ≤ b && b ≤ 16 then some 2
  else if 32 ≤ b && b ≤ 95 then some 2
  else if 96 ≤ b && b ≤ 98 then some 0
  else if b = 112 || b = 113 then some 1
  else if b = 114 || b = 115 then some 0
  else if b = 116 || b = 117 then some 1
  else if 118 ≤ b && b ≤ 133 then some 0
  else if 134 ≤ b && b ≤ 149 then some 2
  else if 248 ≤ b && b ≤ 251 then some 0
  else if b = 252 || b = 253 then some 1
  else if b = 254 then some 2
  else if b = 255 then some 3
  else none

/-- The Severe bits of Table 19-3. -/
def severeMask : Nat := (2 ^ 17 - 2 ^ 8) + (2 ^ 96 - 2 ^ 32) + (2 ^ 150 - 2 ^ 134) + 2 ^ 254
/-- A Severe bit is set. -/
def Dev.severeSet (d : Dev) : Bool := (d.faults.sticky &&& severeMask) != 0
/-- A Grave bit is set. -/
def Dev.graveSet (d : Dev) : Bool := (d.faults.sticky &&& graveMask) != 0

/-! ### A calibration run that ends (R415) -/

/-- The highest unit code of an item (Table 18-3). -/
def Dev.calResult (d : Dev) (item code : Nat) : Dev :=
  d.put (Obj.calItemResult item) (max code (d.val (Obj.calItemResult item)))
/-- A run in progress ends at once: the unit in progress keeps its old values and reports 4 (R415). -/
def Dev.abortCal (d : Dev) : Dev :=
  match d.calib.run with
  | none => d
  | some r =>
    let d := match r.phase, r.left with
      | 2, u :: _ =>
        let d := d.calResult u.1 4
        if u.1 = 2 then d.setTrig u.2 { d.trig u.2 with interrupted := false, fresh := true }
        else if u.1 = 3 then d.setBias u.2 { d.biasOut u.2 with heldTill := d.now }
        else d
      | _, _ => d
    let d := ({ d with calib := { d.calib with run := none } } : Dev).lend false
    (((d.put Obj.calRunNote 4).put Obj.calRunSet 0).put Obj.calState 0).put Obj.calUnitsLeft 0

/-- Every bias output's target has taken effect now (BiasTargetTime, R258). -/
def Dev.stampTargets (d : Dev) : Dev := allLanes.foldl (fun e l => e.put (Obj.biasTargetTime l) e.now) d
/-- Every bias output slewing to its fault value from now (R259, R261); one that holds 0 V before start-up step 2 stays there (R265). -/
def Dev.biasesToFault (d : Dev) : Dev :=
  let moved := allLanes.map (fun n =>
    let b := d.biasOut n
    (n, if b.move = .held then b else { b with move := .fault, target := bits (d.val (Obj.biasFaultValue n)) 17 0, effect := d.now, byRequest := false }))
  ({ d with biases := moved } : Dev).stampTargets

/-- Every MARK ball low (Table 19-4). -/
def Dev.pinsLow (d : Dev) (time : Nat) : Dev :=
  let e := (List.range 32).foldl (fun e p => e.setPin p false time) d
  { e with pulses := [], pinSets := [] }

/-- Entering the safe state (R446): 1 Severe, 2 Grave. Table 19-4. A Grave fault in the Severe safe state finds it entered already, and
sends no second EMCY of that (log entry 40). -/
def Dev.enterSafe (d : Dev) (code : Nat) (within : Bool) : Dev :=
  let d := ({ d with faults := { d.faults with safe := code, handler := none } } : Dev).abortCal
  let d := (d.put Obj.devRfEnable 0).stopAll .safeState
  let d := d.pinsLow (d.now + 1)
  let d := d.biasesToFault
  let d := d.noticeAll 1 (code + 1)
  if within then d else d.emcy 0xFF10 0xFF

/-- The gleaner record of a fault bit (Table 12-2). -/
def Dev.gleanFault (d : Dev) (b : Nat) (set : Bool) : Dev :=
  d.glean 0 6 b d.now (ofBool set + 2 * (faultClass b).getD 0)

/-- A bit's cause occurs (R441, R442): `present` says whether its condition now persists. A bit newly set makes its record,
its EMCY, its vector and, unless a wave delivers that firing itself (R400), its event; it starts the Severe handler timer (R444) or enters the Grave safe state (R445). -/
def Dev.raiseIn (d : Dev) (b : Nat) (present fires : Bool) : Dev :=
  match faultClass b with
  | none => d
  | some c =>
    let was := bit d.faults.sticky b
    let d := d.bump (Obj.faultClassCount c)
    let d := { d with faults := { d.faults with
      sticky := putBit d.faults.sticky b true
      active := if present then putBit d.faults.active b true else d.faults.active } }
    if was then d
    else
      let within := d.faults.safe != 0
      let d := d.gleanFault b true
      let d := if c = 3 then { d with faults := { d.faults with safe := 2 } } else d
      let d := if c = 0 then d else d.emcy (0xFF00 + c) b
      let d := d.msix 0 18
      let d := if fires then d.fire (d.val (Obj.evtFaultChannel c)) d.now else d
      if c = 3 then d.enterSafe 2 within
      else if c = 2 && d.faults.handler.isNone && d.faults.safe = 0 then
        { d with faults := { d.faults with handler := some (d.now + d.val Obj.faultHandlerTime * ticksUs) } }
      else d

/-- A bit's cause occurs, and its class's channel fires (R406, R441). -/
def Dev.raise (d : Dev) (b : Nat) (present : Bool) : Dev := d.raiseIn b present true

/-- A bit's condition ends; the sticky bit stays (R441). -/
def Dev.unraise (d : Dev) (b : Nat) : Dev :=
  { d with faults := { d.faults with active := putBit d.faults.active b false } }

/-- A condition that persists or not: its bit is set when it begins, and the condition ends with it (R441). -/
def Dev.holdFault (d : Dev) (b : Nat) (present : Bool) : Dev :=
  if present then (if bit d.faults.active b then d else d.raise b true) else d.unraise b

/-- DevState (R448): start-up reads 0 until step 5 has set it. -/
def Dev.devState (d : Dev) : Nat :=
  if d.faults.safe = 2 then 5
  else if d.val Obj.devState = 0 then 0
  else if d.faults.handler.isSome then 4
  else if d.faults.safe = 1 then 1
  else if d.val Obj.thermThrottle != 0 then 3
  else if d.flag Obj.devRfEnable then 2
  else 1

end Sys2Proof.Machine
end

