-- ==== Sys2Proof/Machine/Operands.lean ====
section
/-! DEFINITION. The operand forms a drill reads: program images (R109), instruction grains (Tables 5-4 to 5-13), segment tables
(R165, R166), library descriptors (R141), and the conditions of branches (R128). -/

namespace Sys2Proof.Machine

/-! ### Grains -/

/-- Grain `a` of a block of 9-byte grains (R19, R109). -/
def grainOf (bs : List Byte) (a : Nat) : Nat := field bs (9 * a) 9
/-- All grains of a block. -/
def grainsOf (bs : List Byte) (n : Nat) : List Nat := (List.range n).map (grainOf bs)

/-- An instruction of a drill program, with its operands (Table 5-4). -/
inductive Op where
  | nop | halt | shotEnd | ret
  | shotBegin (mode chan gap : Nat)
  /-- A `play`: segment, marker and hold flags, waveform, amplitude, frame, phase (Table 5-5). -/
  | play (s m h : Bool) (wave : Nat) (amp : Int) (frame phase : Nat)
  | altOpen (slot kind source value mask : Nat)
  | altClose
  | wait (s m : Bool) (count : Nat)
  | atC (cursor : Nat)
  | loop (forever : Bool) (endAddr count : Nat)
  | endloop (start : Nat)
  | call (target : Nat)
  | jump (pop target : Nat)
  /-- `branch` and `branch.watch` (Table 5-9). -/
  | branch (kind source value mask : Nat) (negate spec : Bool) (pop target : Nat)
  | watch (kind source value mask : Nat) (negate spec : Bool) (pop target : Nat)
  | frameFreq (frame word : Nat)
  | framePhase (frame : Nat) (add : Bool) (phase : Nat)
  | frameOrigin (frame : Nat) (offset : Int)
  | mark (kind target action width offset : Nat)
  | acquire (input slots offset : Nat)
  | bias (code : Nat)
  | sync (chan : Nat) (forever : Bool) (timeout gap : Nat)
  | seg (entry : Nat)
  /-- An opcode that Table 5-4 does not give. -/
  | bad
deriving DecidableEq, Repr

/-- The instruction a grain holds (Tables 5-4 to 5-13). -/
def decodeGrain (g : Nat) : Op :=
  match bits g 71 66 with
  | 0x00 => .nop
  | 0x01 => .halt
  | 0x02 => .shotBegin (bits g 65 64) (bits g 63 57) (bits g 39 0)
  | 0x03 => .shotEnd
  | 0x05 => if bit g 65 then .altClose else .altOpen (bits g 64 64) (bits g 63 61) (bits g 60 50) (bits g 49 42) (bits g 41 34)
  | 0x06 => .wait (bit g 65) (bit g 64) (bits g 39 0)
  | 0x07 => .atC (bits g 39 0)
  | 0x08 => .loop (bit g 65) (bits g 51 32) (bits g 31 0)
  | 0x09 => .endloop (bits g 19 0)
  | 0x0A => .call (bits g 19 0)
  | 0x0B => .ret
  | 0x0C => .branch (bits g 65 63) (bits g 62 52) (bits g 51 44) (bits g 43 36) (bit g 35) (bit g 34) (bits g 27 24) (bits g 19 0)
  | 0x0D => .watch (bits g 65 63) (bits g 62 52) (bits g 51 44) (bits g 43 36) (bit g 35) (bit g 34) (bits g 27 24) (bits g 19 0)
  | 0x0E => .jump (bits g 27 24) (bits g 19 0)
  | 0x0F => .frameFreq (bits g 65 63) (bits g 47 0)
  | 0x10 => .framePhase (bits g 65 63) (bit g 62) (bits g 23 0)
  | 0x11 => .frameOrigin (bits g 65 63) (toInt 32 (bits g 31 0))
  | 0x12 => .mark (bits g 65 65) (bits g 64 58) (bits g 57 56) (bits g 55 40) (bits g 15 0)
  | 0x13 => .acquire (bits g 65 60) (bits g 59 44) (bits g 15 0)
  | 0x14 => .bias (bits g 17 0)
  | 0x15 => .sync (bits g 65 59) (bit g 58) (bits g 57 34) (bits g 23 0)
  | 0x16 => .seg (bits g 11 0)
  | o =>
    if 0x20 ≤ o && o ≤ 0x27 then
      .play (bit g 68) (bit g 67) (bit g 66) (bits g 64 45) (toInt 18 (bits g 44 27)) (bits g 26 24) (bits g 23 0)
    else .bad

/-- The reserved bits of an instruction (Tables 5-5 to 5-9, 5-13). -/
def reservedBits (g : Nat) : Nat :=
  match bits g 71 66 with
  | 0x00 => bits g 65 0
  | 0x01 => bits g 65 0
  | 0x02 => bits g 56 40
  | 0x03 => bits g 65 0
  | 0x05 => if bit g 65 then bits g 64 0 else bits g 33 0
  | 0x06 => bits g 63 40
  | 0x07 => bits g 65 40
  | 0x08 => bits g 64 52
  | 0x09 => bits g 65 20
  | 0x0A => bits g 65 20
  | 0x0B => bits g 65 0
  | 0x0C => bits g 33 28 + bits g 23 20
  | 0x0D => bits g 33 28 + bits g 23 20
  | 0x0E => bits g 65 28 + bits g 23 20
  | 0x0F => bits g 62 48
  | 0x10 => bits g 61 24
  | 0x11 => bits g 62 32
  | 0x12 => bits g 39 16
  | 0x13 => bits g 43 16
  | 0x14 => bits g 65 18
  | 0x15 => bits g 33 24
  | 0x16 => bits g 65 12
  | _ => bits g 65 65

/-! ### The program header (Table 5-1) -/

/-- Deadline modes of a program (Table 5-1). -/
def modeStrict : Nat := 0
/-- Staged deadline mode. -/
def modeStaged : Nat := 1
/-- Provisional deadline mode. -/
def modeProvisional : Nat := 2

/-- Length field of grain 0. -/
def headLength (g0 : Nat) : Nat := bits g0 39 20
/-- Entry field of grain 0. -/
def headEntry (g0 : Nat) : Nat := bits g0 19 0
/-- Deadline mode field of grain 0. -/
def headMode (g0 : Nat) : Nat := bits g0 47 46

/-! ### Segment tables (R165, R166) -/

/-- Entries of a table. -/
def tableCount (g0 : Nat) : Nat := bits g0 47 35
/-- Frame used by every entry. -/
def tableFrame (g0 : Nat) : Nat := bits g0 34 32
/-- Amplitude applied to every entry. -/
def tableAmp (g1 : Nat) : Int := toInt 18 (bits g1 71 54)
/-- Phase added to the frame's phase. -/
def tablePhase (g1 : Nat) : Nat := bits g1 53 30
/-- Event channel of channel slot `k`, 1–4. -/
def tableChan (g1 k : Nat) : Nat := bits g1 (7 * k + 1) (7 * k - 5)

/-- An entry of a segment table (Table 7-2). -/
structure SegEntry where
  wave : Nat
  rep : Nat
  next : Nat
  cond : Nat
  forever : Bool
  marker : Bool
  last : Bool
deriving DecidableEq, Repr

/-- The entry a grain holds. -/
def decodeSeg (g : Nat) : SegEntry :=
  { wave := bits g 71 52, rep := bits g 51 36, next := bits g 35 24, cond := bits g 23 21, forever := bit g 20
    marker := bit g 19, last := bit g 18 }

/-! ### The library (R141–R144) -/

/-- The 32 bytes of a waveform's descriptor, where a directory has one that the lane's partition reaches (R141, R310). -/
def Dev.libDescriptor (d : Dev) (m : Mem) (part dir w : Nat) : Option (List Byte) :=
  if 32 * w + 32 ≤ domLength dir && d.reach part (domRegion dir) (domOffset dir) (domLength dir) then some (m.bytes (d.domAddr dir + 32 * w) 32)
  else none

/-- One 36-bit envelope sample of plain data (R142): I in the upper 18 bits, Q in the lower. -/
def sampleAt (bs : List Byte) (i : Nat) : Int × Int :=
  let g := grainOf bs (i / 2)
  let w := bits g (36 * (i % 2) + 35) (36 * (i % 2))
  (toInt 18 (bits w 35 18), toInt 18 (bits w 17 0))

/-- I² + Q² of a sample. -/
def sampleEnergy (s : Int × Int) : Nat := (s.1 * s.1 + s.2 * s.2).toNat
/-- The four samples of granule `i` of plain data. -/
def granuleSamples (bs : List Byte) (i : Nat) : List (Int × Int) := (List.range 4).map (fun k => sampleAt bs (4 * i + k))
/-- Sum of I² + Q² over the samples of granule `i`. -/
def granuleSum (bs : List Byte) (i : Nat) : Nat := ((granuleSamples bs i).map sampleEnergy).sum

/-- rnd(x / 2^k): round half toward plus infinity (chapter 6). -/
def rnd (x : Int) (k : Nat) : Int := if k = 0 then x else (x + 2 ^ (k - 1)) / 2 ^ k
/-- A sample scaled by an amplitude (R149). DESIGN CHOICE: the formula holds for amplitude 131,071 as well, where it takes one LSB off codes above
65,536 (log entry 14). -/
def scaleSample (a : Int) (s : Int × Int) : Int × Int := (satI 18 (rnd (s.1 * a) 17), satI 18 (rnd (s.2 * a) 17))

/-! ### Conditions (R128) -/

/-- Whether a source value meets a condition (R128). -/
def condHolds (v value mask : Nat) (negate : Bool) : Bool := ((v &&& mask) == (value &&& mask)) != negate

end Sys2Proof.Machine
end

