-- ==== Sys2Proof/Machine/Filters.lean ====
section
/-! DEFINITION. Cosine and sine of a phase word, the decimation filter's coefficients and the interpolation filter: what Table 6-3 and R179–R181 fix of
them, round the rounding and the coefficients that the spec leaves open. -/

namespace Sys2Proof.Machine

/-! ### Cosine and sine (Table 6-3, R179) -/

/-- 2π in units of 2^-96. -/
def twoPi96 : Nat := 497805226624462170461043889244

/-- The cosine series from its term of order `2k` on, in units of 2^-96, at a square of the angle in the same units. -/
def cosSeries : Nat → Nat → Int → Int → Int
  | 0, _, _, _ => 0
  | n + 1, k, x2, term => term + cosSeries n (k + 1) x2 (-(term * x2) / ((2 ^ 96 * ((2 * k + 1) * (2 * k + 2)) : Nat) : Int))

/-- The cosine of `num / den` turn, at most a quarter turn, in units of 2^-96, to within a few units. -/
def cosTurn (num den : Nat) : Int :=
  let x : Int := (twoPi96 * num / den : Nat)
  cosSeries 24 0 (x * x / (2 ^ 96 : Nat)) (2 ^ 96 : Nat)

/-- The cosine of any number of turns `num / den`, `den` a multiple of 4, in units of 2^-96. -/
def cosTurns (num den : Nat) : Int :=
  let q := den / 4
  let n := num % den
  if n ≤ q then cosTurn n den
  else if n ≤ 2 * q then -(cosTurn (2 * q - n) den)
  else if n ≤ 3 * q then -(cosTurn (n - 2 * q) den)
  else cosTurn (4 * q - n) den

/-- `amp` times the cosine of `f` steps of 2^-20 turn inside the first quarter: exact at its ends; between them one of the two neighbouring
integers, since the rounding is not stated (log entry 3). `key` is the phase it is formed for. -/
def quarterWave (amp key f : Nat) : Int :=
  if f = 0 then amp
  else if f = 2 ^ 18 then 0
  else (amp : Int) * cosTurn f (2 ^ 20) / (2 ^ 96 : Nat) + ofBool (Config.trigUp amp key)

/-- The cosine of a phase of 20 bits with an amplitude (Table 6-3, R179). -/
def cosWave (amp key th : Nat) : Int :=
  let f := th % 2 ^ 18
  let quarter := th / 2 ^ 18 % 4
  if quarter = 0 then quarterWave amp key f
  else if quarter = 1 then -(quarterWave amp key (2 ^ 18 - f))
  else if quarter = 2 then -(quarterWave amp key f)
  else quarterWave amp key (2 ^ 18 - f)

/-- Cosine of a phase of 20 bits, amplitude 2^17 − 1 (Table 6-3). -/
def cos18 (th : Nat) : Int := cosWave (2 ^ 17 - 1) (2 * th) th
/-- Sine of a phase of 20 bits, amplitude 2^17 − 1 (Table 6-3). -/
def sin18 (th : Nat) : Int := cosWave (2 ^ 17 - 1) (2 * th + 1) (th + 3 * 2 ^ 18)
/-- Cosine of a phase of 20 bits, amplitude 2^15 − 1 (R179). -/
def cos16 (th : Nat) : Int := cosWave (2 ^ 15 - 1) (2 * th) th
/-- Sine of a phase of 20 bits, amplitude 2^15 − 1 (R179). -/
def sin16 (th : Nat) : Int := cosWave (2 ^ 15 - 1) (2 * th + 1) (th + 3 * 2 ^ 18)

/-- A phase word rounded to 20 bits (Table 6-3, R179). -/
def phase20 (theta : Nat) : Nat := ((theta + 2 ^ 27) / 2 ^ 28) % 2 ^ 20

/-! ### Coefficients -/

/-- Open coefficients held to what the spec says of them: those of the module where they meet it, else ones that do (log entry 3). -/
def heldTo {α : Type} (ok : α → Bool) (free dflt : α) : α := if ok free then free else dflt

/-- A coefficient of so many bits. -/
def fits (w : Nat) (x : Int) : Bool := satI w x = x

/-- The response of the symmetric 96-tap filter at an offset in units of 0.5 MHz, in units of 2^-96 of a coefficient: `half` holds the taps
from the middle outward. -/
def firResponse (half : List Int) (f : Nat) : Int :=
  ((half.zip (List.range 48)).map (fun p => 2 * p.1 * cosTurns (f * (2 * p.2 + 1)) 20000)).sum

/-- Whether an offset, in units of 0.5 MHz, folds into the passband of ±80 MHz at 312.5 MS/s, from 232.5 MHz on (R181). -/
def foldsInto (f : Nat) : Bool :=
  let r := f % 625
  465 ≤ f && (r ≤ 160 || 465 ≤ r)

/-- Half of the decimation filter's coefficients as R180 and R181 have them: 18-bit, the whole sum exactly 2^17, flat within ±0.05 dB to
80 MHz, 55 dB down where an offset folds into that band, and nowhere above +0.05 dB; the bounds are in units of 2^-30, at every half MHz, on which all edges of these bands lie. -/
def firOk (half : List Int) : Bool :=
  half.length = 48 && half.all (fits 18) && half.sum = 2 ^ 16
    && (List.range 5001).all (fun f =>
      let r := (firResponse half f).natAbs * 2 ^ 30
      let full := 2 ^ (96 + 17)
      r ≤ 1079940603 * full
        && (160 < f || (0 ≤ firResponse half f && 1067578626 * full ≤ r))
        && (!(foldsInto f) || r ≤ 1909412 * full))

/-- Coefficients that meet R180 and R181. -/
def firPlain : List Int :=
  [8473, 7616, 7352, 7222, 6936, 6403, 5770, 5198, 4667, 4039, 3291, 2592, 2098, 1717, 1138, -140]
    ++ [-380, -254, -489, -804, -1018, -1069, -1043, -1045, -1058, -988, -816, -657, -619, -637, -484, 218]
    ++ [104, 17, 63, 148, 207, 216, 206, 211, 227, 217, 171, 134, 151, 197, 169, -131]

/-- Half of the decimation filter's coefficients, from the middle outward. -/
def firHalf : List Int := heldTo firOk Config.firTaps firPlain
/-- Tap `k` of the decimation filter, 0–95: linear phase (R180). -/
def firTap (k : Nat) : Int := (firHalf[if k < 48 then 47 - k else k - 48]?).getD 0

/-! ### Interpolation (Table 6-3) -/

/-- Envelope samples the interpolation filter may reach over: its length is not stated (log entry 14). -/
def envelopeSpan : Nat := 64

/-- The response of half-band stage `i` (0 for the first) at an offset in MHz, in units of 2^-115: its input samples pass, and those between
them are the symmetric sums over 2^18. -/
def stageResponse (i : Nat) (h : List Int) (mhz : Nat) : Int :=
  2 ^ 114 + ((h.zip (List.range h.length)).map (fun p => 2 * p.1 * cosTurns (mhz * (2 * p.2 + 1) * 2 ^ (3 - i)) 10000)).sum
/-- The response of the four stages together, in units of 2^-460. -/
def bandResponse (hs : List (List Int)) (mhz : Nat) : Int :=
  (List.range 4).foldl (fun r i => r * stageResponse i ((hs[i]?).getD []) mhz) 1
/-- Whether an offset of so many MHz holds an image of the envelope's ±250 MHz, about a multiple of 625 MHz (R151). -/
def holdsImage (mhz : Nat) : Bool := 375 ≤ mhz && (mhz % 625 ≤ 250 || 375 ≤ mhz % 625)

/-- The odd-phase coefficients of the four half-band stages, middle outward, as Table 6-3 and R151 have them: 20-bit over 2^18, DC gain exactly
1, flat within ±0.01 dB to 250 MHz, 85 dB down at the envelope's images; the bounds are in units of 2^-30, at every whole MHz. Together the
stages reach over no more envelope samples than the filter holds (log entry 14). -/
def halfBandsOk (hs : List (List Int)) : Bool :=
  hs.length = 4 && hs.all (fun h => h.all (fits 20) && h.sum = 2 ^ 17)
    && 8 * (hs[0]?.getD []).length + 4 * (hs[1]?.getD []).length + 2 * (hs[2]?.getD []).length + (hs[3]?.getD []).length ≤ 4 * envelopeSpan - 4
    && (List.range 5001).all (fun f =>
      let r := (bandResponse hs f).natAbs * 2 ^ 30
      let full := 2 ^ 460
      (250 < f || (0 ≤ bandResponse hs f && 1072506345 * full ≤ r && r ≤ 1074978726 * full))
        && (!(holdsImage f) || r ≤ 60380 * full))
/-- Stages that meet Table 6-3 and R151. -/
def halfBandsPlain : List (List Int) :=
  [ [166321, -53955, 30654, -20163, 14033, -9973, 7105, -5016, 3480, -2355, 1544, -972, 583, -329, 171, -79, 31, -8],
    [163977, -47438, 21297, -9667, 3947, -1328, 324, -40],
    [159546, -36799, 10068, -1878, 135],
    [159546, -36799, 10068, -1878, 135] ]
/-- The stages of the interpolation filter. -/
def halfBands : List (List Int) := heldTo halfBandsOk Config.halfBands halfBandsPlain

/-- Sample `i` of a list, 0 past its end. -/
def tapAt (xs : List Int) (i : Nat) : Int := (xs[i]?).getD 0

/-- The newest `2 n` output samples of a 2× half-band stage from its input, both newest first: an input sample, and between two of them the
symmetric sum; each *sat*₁₈(*rnd*) (Table 6-3). -/
def halfBand (h : List Int) (xs : List Int) (n : Nat) : List Int :=
  let k := h.length
  ((List.range n).map (fun i =>
    let odd := ((h.zip (List.range k)).map (fun p => p.1 * (tapAt xs (i + k - 1 - p.2) + tapAt xs (i + k + p.2)))).sum
    [satI 18 (tapAt xs (i + k - 1)), satI 18 (rnd odd 18)])).flatten

/-- The 16 samples at 10 GS/s that one envelope sample adds, oldest first, from the latest envelope samples, newest first. -/
def interpolate (hist : List Int) : List Int :=
  let h := fun i => (halfBands[i]?).getD []
  let a := halfBand (h 0) hist envelopeSpan
  let b := halfBand (h 1) a (2 * envelopeSpan)
  let c := halfBand (h 2) b (4 * envelopeSpan)
  (halfBand (h 3) c 8).reverse

end Sys2Proof.Machine
end

