-- ==== Sys2Proof/Machine/Energy.lean ====
section
/-! DEFINITION. The line energy governor (chapter 10): conversions, windows and ceilings, the staging check, reservations, the
release check and refusals. -/

namespace Sys2Proof.Machine

/-! ### Conversions (R236, R237) -/

/-- Per-lane energy objects: lane `l` at index base + l / 128, sub-index l mod 128 + 1 (R254). -/
def perLane (key : Nat → Nat → Nat) (l : Nat) : Nat := key (l / 128) (l % 128)
/-- EnergyLaneCeiling of window `w` (R254). -/
def laneCeilingKey (w l : Nat) : Nat := Obj.energyLaneCeiling (4 * w + l / 128) (l % 128)
/-- EnergyLaneSum of window `w` (R254). -/
def laneSumKey (w l : Nat) : Nat := Obj.energyLaneSum (4 * w + l / 128) (l % 128)
/-- EnergyStageCeiling of stage `k` and window `w` (Table 10-2). -/
def stageCeilingKey (k w : Nat) : Nat := Obj.energyStageCeiling (3 * k + w)

/-- Energy at the AOUT balls of a code energy, in aJ (R236): `k` is LaneFullScale. -/
def ballEnergy (code k : Nat) : Nat := ceilDiv (code * k ^ 2 * 25) (2 ^ 26)
/-- Line energy of a lane under a valuation of the energy objects (R237). -/
def lineEnergy (val : Nat → Nat) (fullScale l code : Nat) : Nat :=
  ceilDiv (ballEnergy code fullScale * val (perLane Obj.energyPinFactor l)) (2 ^ 15)
/-- Energy at stage `k` of a line energy (R237). -/
def stageEnergy (val : Nat → Nat) (l k line : Nat) : Nat :=
  ceilDiv (line * bits (val (perLane Obj.energyStageFractions l)) (16 * k + 15) (16 * k)) (2 ^ 15)

/-! ### Windows (Table 10-1) -/

/-- Bucket length of a window, in ticks. -/
def bucketTicks (w : Nat) : Nat := if w = 0 then 64 else if w = 1 then 10000 else 10000000
/-- Buckets of a window. -/
def windowBuckets (w : Nat) : Nat := if w = 0 then 157 else 1000
/-- The ceiling that sets no limit (R239). -/
def noLimit : Nat := 2 ^ 64 - 1

/-- Energy in the run of `n` buckets from `s`. -/
def runSum (items : List (Nat × Nat)) (s n : Nat) : Nat :=
  (items.filter (fun p => s ≤ p.1 && p.1 < s + n)).foldl (fun a p => a + p.2) 0
/-- Every run of a window that contains a bucket stays within a ceiling (R241): the fullest run starts at a listed bucket. -/
def runsFit (items : List (Nat × Nat)) (n b ceiling : Nat) : Bool :=
  ceiling = noLimit
    || (items.filter (fun p => p.1 ≤ b && b < p.1 + n)).all (fun p => runSum items p.1 n ≤ ceiling)

/-! ### The staging check (R240–R243) -/

/-- The staging estimate of a granule (R240), in code energy. -/
def estimate (peak : Nat) (amp : Int) (gain : Nat) : Nat :=
  min (ceilDiv (17 * peak * (amp * amp).toNat * gain ^ 2) (2 ^ 72)) (17 * 2 ^ 28)

/-- EnergyStageCeiling and EnergyLaneCeiling: held at 0 while a set is invalid or was never committed (R250). -/
def isCeiling (k : Nat) : Bool := k / 256 = 0x2202 || (0x2220 ≤ k / 256 && k / 256 ≤ 0x222B)
/-- An object of the line-profile set (R248). -/
def isProfile (k : Nat) : Bool := 0x2210 ≤ k / 256 && k / 256 ≤ 0x221B
/-- Whether an energy object belongs to a group whose commit is accepted and waits (R249). -/
def Dev.energyWaits (d : Dev) (k : Nat) : Bool :=
  (isCeiling k && (d.commitOf Obj.energyCeilingCommit).status = 2) || (isProfile k && (d.commitOf Obj.energyProfileCommit).status = 2)
/-- The valuations a check runs under: the active set, and while an energy commit is accepted and waits the set it will make active (R249). -/
def Dev.energySets (d : Dev) : List (Nat → Nat) :=
  let active := fun k => if (d.energy.ceilingValid && d.energy.profileValid) || !isCeiling k then d.val k else 0
  if [Obj.energyProfileCommit, Obj.energyCeilingCommit].any (fun c => (d.commitOf c).status = 2) then
    [active, fun k => if d.energyWaits k then d.stagedVal k else active k]
  else [active]
/-- The profile in force at a time: what a later commit has replaced since counts as it was (R31, R249). -/
def Dev.profileAt (d : Dev) (time k : Nat) : Nat :=
  ((d.energy.past.filter (fun p => time < p.1)).findSome? (fun p => SMap.find p.2 k)).getD (d.val k)
/-- The end of a lane's span: one granule past its last reserved position. -/
def Dev.spanEnd (d : Dev) (l start : Nat) : Nat :=
  ((d.energy.resv.filter (fun r => r.lane = l && r.span = some start)).map Resv.stamp).foldl max 0 + 64
/-- Reservations that stand: those of a span end with it at the positions at which nothing played (R243). -/
def Dev.standing (d : Dev) : List Resv :=
  d.energy.resv.filter (fun r => r.span.all (fun start => d.now < d.spanEnd r.lane start || (d.chain r.lane).sums.any (fun p => p.1 = r.stamp)))

/-- Charges and standing reservations of a lane in a window's buckets, as line energy. -/
def Dev.laneItems (d : Dev) (val : Nat → Nat) (extra : List Resv) (l w : Nat) : List (Nat × Nat) :=
  SMap.look d.energy.laneCharge (3 * l + w) []
    ++ ((d.standing ++ extra).filter (fun r => r.lane = l)).map
        (fun r => (r.stamp / bucketTicks w, lineEnergy val (d.val (Obj.laneFullScale l)) l r.code))
/-- Charges and standing reservations at a stage in a window's buckets, all lanes. -/
def Dev.stageItems (d : Dev) (val : Nat → Nat) (extra : List Resv) (k w : Nat) : List (Nat × Nat) :=
  SMap.look d.energy.stageCharge (3 * k + w) []
    ++ (d.standing ++ extra).map
        (fun r => (r.stamp / bucketTicks w, stageEnergy val r.lane k (lineEnergy val (d.val (Obj.laneFullScale r.lane)) r.lane r.code)))

/-- Whether new reservations stay within one ceiling. -/
def fitsOne (items : List (Nat × Nat)) (w ceiling : Nat) (new : List Resv) : Bool :=
  new.all (fun r => r.code = 0 || runsFit items (windowBuckets w) (r.stamp / bucketTicks w) ceiling)

/-- The first ceiling that new reservations of a lane would break, as (window, limit), in the order of R246. -/
def Dev.firstBreach (d : Dev) (l : Nat) (new : List Resv) : Option (Nat × Nat) :=
  let sets := d.energySets
  (List.range 3).findSome? (fun w =>
    if sets.any (fun val => !(fitsOne (d.laneItems val new l w) w (val (laneCeilingKey w l)) new)) then some (w, 0)
    else (List.range 4).findSome? (fun k =>
      if sets.any (fun val => !(fitsOne (d.stageItems val new k w) w (val (stageCeilingKey k w)) new)) then some (w, k + 1) else none))

/-- What every refusal does (R246): spoils the shot, raises bit 112, counts and records the limit. -/
def Dev.energyRefusal (d : Dev) (l shot stamp : Nat) (release : Bool) (w limit : Nat) : Dev :=
  let d := d.spoilShot (d.groupOf l) shot .energyRefused stamp l
  let d := d.raise 112 false
  let d := d.bump (perLane Obj.energyLaneRefusals l)
  let d := d.bump (if release then Obj.energyReleaseRefusals else Obj.energyStagingRefusals)
  let d := d.put Obj.energyLastRefusal (l + 512 * ofBool release + 1024 * w + 4096 * limit)
  d.put Obj.energyLastRefusalTime stamp

/-- A refusal at staging: the lane mutes from the stamp, so that later granules of the shot are discarded and the lane's remaining
reservations of the shot are released (R246). -/
def Dev.refuseStaging (d : Dev) (l shot stamp w limit : Nat) : Dev := (d.mute l shot stamp).energyRefusal l shot stamp false w limit

/-- The check of R241 on a list of positions (stamp, code energy) of a lane: the reservations stand, or the breached limit. -/
def Dev.reserve (d : Dev) (l : Nat) (items : List (Nat × Nat)) (span : Option Nat) : Dev × Option (Nat × Nat) :=
  let new : List Resv := items.map (fun p => { lane := l, stamp := p.1, code := p.2, span := span })
  match d.firstBreach l new with
  | some b => (d, some b)
  | none => ({ d with energy := { d.energy with resv := d.standing ++ new } }, none)

/-! ### The release check (R244, R245, R253) -/

/-- A bucket's charge raised; buckets that no window of the present can hold are dropped. -/
def addCharge (m : SMap Nat) (b n e : Nat) : SMap Nat :=
  SMap.set (List.filter (fun p => b < p.1 + 2 * n) m) b (SMap.look m b 0 + e)

/-- A release sum as the converter die adds it to its total of the interval's W₁ bucket (R253). -/
def Dev.dieSum (d : Dev) (l start code : Nat) : Dev :=
  let en := d.energy
  { d with energy := { en with dieTotal := SMap.set en.dieTotal l (addCharge (SMap.look en.dieTotal l []) (start / bucketTicks 1) 1000 code) } }
/-- A release sum charged to the lane and stage accumulators, its granule's reservation released (R245, R243): `k` is LaneFullScale at
the interval (R236), and the profile is that of the interval's start (R31). -/
def Dev.charge (d : Dev) (l start code k : Nat) : Dev :=
  let val := d.profileAt start
  let line := lineEnergy val k l code
  let en := (List.range 3).foldl (fun (en : Energy) w =>
    let b := start / bucketTicks w
    let n := windowBuckets w
    let lc := SMap.set en.laneCharge (3 * l + w) (addCharge (SMap.look en.laneCharge (3 * l + w) []) b n line)
    let sc := (List.range 4).foldl (fun (m : SMap (SMap Nat)) k =>
      SMap.set m (3 * k + w) (addCharge (SMap.look m (3 * k + w) []) b n (stageEnergy val l k line))) en.stageCharge
    { en with laneCharge := lc, stageCharge := sc }) d.energy
  let b := start / bucketTicks 1
  let en := { en with charged := SMap.set en.charged l (addCharge (SMap.look en.charged l []) b 1000 code) }
  ({ d with energy := en } : Dev).freeResv l start (start + 1)
/-- The governor's comparison of a converter die's total of a lane's W₁ bucket with its own charges (R253). -/
def Dev.totalsAgree (d : Dev) (l b : Nat) : Bool :=
  (SMap.find (SMap.look d.energy.dieTotal l []) b).all (fun x => x = SMap.look (SMap.look d.energy.charged l []) b 0)

/-- The charges of the run of a window that ends with the latest completed bucket (Table 10-2). -/
def windowNow (m : SMap Nat) (w now : Nat) : Nat :=
  let b := now / bucketTicks w
  (List.filter (fun p => p.1 < b && b ≤ p.1 + windowBuckets w) m).foldl (fun a p => a + p.2) 0

end Sys2Proof.Machine
end

