-- ==== Sys2Proof/Machine/Sources.lean ====
section
/-! DEFINITION. What feeds a fabric source, and the windows of a shot that a decision reads (R129, R202, R205, R210, R233). -/

namespace Sys2Proof.Machine

/-- Fabric ID of a condition's source (R202, Table 5-10). -/
def fabricOf (kind source : Nat) : Nat := if kind = 2 then 1280 + source else source

/-- Input code of position `k` of a cell (Table 9-2). -/
def Dev.cellCode (d : Dev) (c k : Nat) : Nat := bits (d.val (Obj.cellInput c k)) 11 0
/-- Used input positions of a cell (R206). -/
def Dev.cellUsed (d : Dev) (c : Nat) : List Nat := (List.range 8).filter (fun k => d.cellCode c k != 0xFFF)
/-- The remote register or slot an input code names: whether it is remote, and its number. -/
def codeSource (code : Nat) : Bool × Nat := if bit code 11 then (true, bits code 8 3) else (false, bits code 10 1)
/-- Bit of its source's value that an input code names. -/
def codeBit (code : Nat) : Nat := if bit code 11 then bits code 2 0 else bits code 0 0
/-- TableBitCount of a table. -/
def Dev.tableBits (d : Dev) (c : Nat) : Nat := d.val (Obj.tableBitCount c)
/-- Cell of address bit `j` of a table (R210). -/
def Dev.tableCell (d : Dev) (c j : Nat) : Nat := bits (d.val (Obj.tableAddressCells c (j / 8))) (8 * (j % 8) + 7) (8 * (j % 8))

/-- What feeds a source: slots and remote registers. -/
def Dev.feeds (d : Dev) (fid : Nat) : List (Bool × Nat) :=
  let ofCell := fun c => (d.cellUsed c).map (fun k => codeSource (d.cellCode c k))
  if fid < 1024 then [(false, fid)]
  else if fid < 1280 then ofCell (fid - 1024)
  else ((List.range (d.tableBits (fid - 1280))).map (fun j => ofCell (d.tableCell (fid - 1280) j))).flatten

/-- Origin and windows of a group's shot. -/
def Dev.shotWindows (d : Dev) (g shot : Nat) : Nat × List WinReq :=
  let x := d.group g
  if x.shot = shot && x.inShot then (x.origin, x.windows)
  else match d.shots.find? (fun s => s.group = g && s.shot = shot) with
    | some s => (s.origin, s.windows)
    | none => (x.origin, [])

/-- Window end one feeding slot or register has at or before a time: a slot's latest window in the shot (R129), a register's
`Tₛ + o` (R233). -/
def Dev.feedEnd (d : Dev) (ws : Nat × List WinReq) (tb : Nat) (src : Bool × Nat) : Option Nat :=
  if src.1 then
    let e := ws.1 + bits (d.val (Obj.fbRemoteIn src.2)) 63 32
    if e ≤ tb then some e else none
  else
    (ws.2.filter (fun w => w.slot = src.2 && w.stop ≤ tb)).foldl
      (fun a w => match a with
        | some e => some (max e w.stop)
        | none => some w.stop) none

/-- The window of a source at or before a time in a group's shot (R129): the latest end, when every feeding source has one. -/
def Dev.sourceWindow (d : Dev) (g shot tb fid : Nat) : Option Nat :=
  let ends := (d.feeds fid).map (d.feedEnd (d.shotWindows g shot) tb)
  if ends.isEmpty then none
  else ends.foldl (fun a e => match a, e with
    | some x, some y => some (max x y)
    | _, _ => none) (some 0)

/-- The instructions of a lane's program in force. -/
def Dev.programOps (d : Dev) (l : Nat) : List Op := ((d.drill l).grains.drop 2).map decodeGrain
/-- Whether a lane's program in force opens windows on a slot. -/
def Dev.opensSlot (d : Dev) (l s : Nat) : Bool :=
  (d.programOps l).any (fun op => match op with
    | .acquire input slots _ => input = s / 16 && bit slots (s % 16)
    | _ => false)
/-- First position a lane's drill may still act at: a prediction's effects wait for its confirmation. -/
def Drill.stands (r : Drill) : Nat := (r.shadow.map Shadow.cursor).getD r.cursor
/-- Whether another running member of a shot may still open a window on a slot that feeds a source, ending at or before a time: then the
latest such window, which R129 names, is not known yet (R129; log entry 16). -/
def Dev.mayOpen (d : Dev) (l g shot tb fid : Nat) : Bool :=
  let x := d.group g
  x.inShot && x.shot = shot && (d.feeds fid).any (fun f => !f.1 && x.members.any (fun m =>
    m != l && !(x.ended.any (fun p => p.1 = m)) && d.opensSlot m f.2
      && max (x.origin + 64 * (d.drill m).stands) (d.now + 2) + 32 * d.val (Obj.slotWindowLength f.2) ≤ tb))
/-- Window ends of the entries of a group's shot as its windows become known (Table 9-6). -/
def Dev.refreshEntries (d : Dev) (g shot : Nat) : Dev :=
  { d with vpt := d.vpt.map (fun p =>
      let v := p.2
      if v.shot = shot && d.groupOf v.lane = g && v.state != .confirmed then
        (p.1, { v with windowEnd := (d.sourceWindow g shot (v.release + 40) (fabricOf v.kind v.source)).getD v.windowEnd })
      else p) }

end Sys2Proof.Machine
end

