-- ==== Sys2Proof/Machine/Drill.lean ====
section
/-! DEFINITION. The drill (chapter 5): how it reads its next instruction, its cursor, segments and watch, and the meanings of the
instructions that act without waiting. -/

namespace Sys2Proof.Machine

/-! ### The instruction at the program counter -/

/-- Grain `a` of the program in force (R110): a short program is held whole, a longer one by fetched lines of 64 grains. -/
def Drill.grain (r : Drill) (a : Nat) : Option Nat :=
  if r.length ≤ a then none
  else if r.length ≤ 3640 then r.grains[a]?
  else (SMap.find r.lines (a / 64)).bind (fun l => l[a % 64]?)

/-- A drill that may execute: between shots or in a shot, waiting for nothing, not held by a load (R147). -/
def Drill.ready? (r : Drill) : Bool := (r.run = .between || r.run = .inShot) && !r.held

/-- A grid time rounded up to a whole tick. -/
def EvTime.ceil (e : EvTime) : Nat := if e.ps = 0 then e.tick else e.tick + 1
/-- Whether an event time is at or before a tick; its picoseconds count (R133). -/
def EvTime.by (e : EvTime) (tick : Nat) : Bool := e.ceil ≤ tick
/-- Whether an event time is after a tick. -/
def EvTime.past (e : EvTime) (tick : Nat) : Bool := tick < e.ceil

/-- *T*ₛ of the lane's shot. -/
def Dev.ts (d : Dev) (l : Nat) : Nat := (d.group (d.groupOf l)).origin
/-- Grid time of a cursor position of a lane (R111). -/
def Dev.cursorTime (d : Dev) (l c : Nat) : Nat := d.ts l + 64 * c
/-- Shot number of the lane's shot. -/
def Dev.shotNo (d : Dev) (l : Nat) : Nat := (d.group (d.groupOf l)).shot
/-- Whether the horizon lets the drill pass a cursor position (R117). -/
def Dev.horizonOk (d : Dev) (l c : Nat) : Bool := d.cursorTime l c ≤ d.now + d.val (Obj.laneHorizon l)

/-- Whether a drill may stand at a cursor position: the horizon has let it pass every position before, played or silent (R117). -/
def Dev.reached (d : Dev) (l c : Nat) : Bool := c = 0 || d.horizonOk l (c - 1)

/-- The instruction a lane's drill executes next, if it may execute one now: its grain is in the program store, and inside a shot the
horizon has let the drill come to its cursor (R117). -/
def Dev.nextOp (d : Dev) (l : Nat) : Option Op :=
  let r := d.drill l
  if r.ready? && d.val (Obj.stripState (stripOf l)) = 0 && (r.run = .between || d.reached l r.cursor) then (r.grain r.pc).map decodeGrain
  else none

/-- The drill past its instruction. -/
def Drill.step (r : Drill) : Drill := { r with pc := r.pc + 1 }

/-! ### Segments and the watch (R132–R134) -/

/-- The value of a lane-group field at a stamp: the staged one from the boundary of a commit the drill carries (R31, R158). -/
def Dev.laneAt (d : Dev) (l key stamp : Nat) : Nat :=
  if (d.commitOf (Obj.laneCommit l)).carried.any (fun e => e ≤ stamp) then d.stagedVal key else d.val key

/-- Whether a lane may drive a MARK pin: one of its own tile, whose lanes all belong to its partition, an unassigned lane being partition 0's
(R46, R125). -/
def Dev.mayDrive (d : Dev) (l pin : Nat) : Bool :=
  let part := fun (x : Nat) => if d.laneOwner x = 15 then 0 else d.laneOwner x
  pin / 2 = tileOf l && (tileLanes (pin / 2)).all (fun o => d.laneOwner o = part l)
/-- The segment marker of LaneSegMarker at a stamp (Table 5-15). A pin or channel that the lane may not drive stays as it is (R46, R125; log
entry 49). -/
def Dev.segMarker (d : Dev) (l stamp : Nat) : Dev :=
  let v := d.laneAt l (Obj.laneSegMarker l) stamp
  let width := bits v 31 16
  if width = 0 then d
  else if bit v 8 then (if d.chanOwner (bits v 6 0) = d.laneOwner l then d.request l (.event (bits v 6 0) stamp) else d)
  else if d.mayDrive l (bits v 6 0) then d.request l (.pin (bits v 6 0) 0 width stamp)
  else d

/-- Commits at next segment end meet a segment end `e` with its cutoff: one latched in time is carried by the drill. One latched after the
cutoff of a segment that has not ended is carried past its end, and each such end counts; LaneLateJumps counts the first (R29, R133,
Table 2-5). -/
def Dev.segmentCommits (d : Dev) (l e cut : Nat) : Dev :=
  let before := (d.drill l).segEnds.head?
  let d := [Obj.laneCommit l, Obj.biasCommit l].foldl
    (fun b k =>
      let c := b.commitOf k
      if !(c.waits 2) then b
      else if cut < c.acceptedAt then
        if e ≤ c.acceptedAt then b
        else if before.any (fun p => c.acceptedAt < p) then b.bump Obj.devCommitsDeferred
        else (b.bump Obj.devCommitsDeferred).bump (Obj.laneLateJumps l)
      else if k = Obj.laneCommit l then b.carryLane l e
      else b.carry k e) d
  let r := d.drill l
  d.setDrill l { r with segEnds := e :: r.segEnds.filter (fun x => d.now < x) }
/-- Whether a watch is at the loop and call depth at which it was armed (R134). -/
def Drill.watchHere (r : Drill) (w : Watch) : Bool := r.loops.length = w.loopDepth && r.calls.length = w.callDepth

/-- The watch that fires at a segment end with this cutoff (R128, R133, R134): with a mask, on a latched event at or after the arming time and
no later than the cutoff; Negate inverts the condition, so that such a watch fires while no such event is latched (log entry 41). -/
def Drill.watchFires (r : Drill) (cut : Nat) : Option Watch :=
  match r.watch with
  | some w =>
    let seen := (SMap.find r.latches w.channel).any (fun e => w.armTime ≤ e.tick && e.by cut)
    if r.watchHere w && (w.mask = 0 || seen) != w.negate then some w else none
  | none => none

/-- Whether the latch that fires a watch came while the drill was issuing the headland of the segment before: after that segment's cutoff
and within its one granule, so that the watch acts one segment late (R133, Table 5-12; log entry 41). -/
def Watch.cameLate (w : Watch) (e : EvTime) : Bool := w.prev.any (fun cut => e.past cut && e.by (cut + 64))

/-- The cutoff of the segment that ends at the cursor (R132). -/
def Dev.cutoff (d : Dev) (l c : Nat) : Nat := d.cursorTime l (c - 1) - d.val (Obj.laneHorizon l)
/-- Whether a segment end waits for grid time to pass its cutoff, so that a commit accepted up to then meets this end however fast the drill
is (R133). -/
def Dev.endWaits (d : Dev) (l c : Nat) : Bool := 0 < c && (d.drill l).shadow.isNone && d.now ≤ d.cutoff l c
/-- Whether the segment that ends at the cursor keeps the drill: until its cutoff has passed, and while a watched event that comes before
it may still be on its way to the latch, so that the drill's speed does not change the outcome (R133, R401; log entry 41). -/
def Dev.watchWaits (d : Dev) (l : Nat) : Bool :=
  let r := d.drill l
  r.segStart < r.cursor && (d.endWaits l r.cursor
    || (r.shadow.isNone && r.watch.any (fun w => r.watchHere w && w.mask != 0 && d.now < d.cutoff l r.cursor + 200)))

/-- A segment ends at the cursor and the next begins there (R132): what a watch, LaneLateJumps and carried commits do. The
answer says whether the watch replaced the instruction. In shadow state nothing is decided here: requests stay for a later,
confirmed segment end (R224). -/
def Dev.segmentEnd (d : Dev) (l : Nat) : Dev × Bool :=
  let r := d.drill l
  if r.cursor ≤ r.segStart then (d, false)
  else if r.shadow.isSome then (d.setDrill l { r with segStart := r.cursor }, false)
  else
    let cut := d.cutoff l r.cursor
    let d := (d.setDrill l { r with segStart := r.cursor }).segmentCommits l (d.cursorTime l r.cursor) cut
    let r1 := d.drill l
    match r1.watchFires cut with
    | some w =>
      let late := w.mask != 0 && !w.negate && (SMap.find r1.latches w.channel).any w.cameLate
      let r2 := { r1 with watch := none, pc := w.target, loops := r1.loops.drop w.pop
                          latches := if w.mask = 0 then r1.latches else SMap.del r1.latches w.channel }
      (if late then (d.setDrill l r2).bump (Obj.laneLateJumps l) else d.setDrill l r2, true)
    | none =>
      let passed := r1.watch.map (fun w => if r1.watchHere w then { w with prev := some cut } else w)
      (d.setDrill l { r1 with watch := passed }, false)

/-! ### Playing (R111, R120) -/

/-- A library entry a program names; its length is 0 when absent. -/
def Drill.entryOf (r : Drill) (w : Nat) : LibEntry :=
  (SMap.find r.library w).getD { length := 0, stream := false, offset := 0, region := 0, energySum := 0, peak := 0, data := [] }

/-- The stream buffer emptied: refill starts with the sequence of the first shot from the program's entry (R153, R154). -/
def Drill.emptyStream (r : Drill) : Drill := { r with streamPos := 0, streamCur := 0, streamNext := 0, streamBad := [], streamEarly := [] }
/-- Refill blocks of a lane still on their way are no longer wanted. -/
def Dev.dropRefill (d : Dev) (l : Nat) : Dev :=
  let drop := fun (p : DdrPart) => if p.req.lane = some l && p.req.line.isNone then { p with req := { p.req with lane := none } } else p
  { d with memctl := { d.memctl with queues := d.memctl.queues.map (fun p => (p.1, p.2.map drop)) } }
/-- No request of a lane's class 1 fetches on its way brings anything to its stores any more (R104). -/
def Dev.dropFetches (d : Dev) (l : Nat) : Dev :=
  let drop := fun (p : DdrPart) => if p.req.lane = some l then { p with req := { p.req with lane := none } } else p
  { d with memctl := { d.memctl with queues := d.memctl.queues.map (fun p => (p.1, p.2.map drop)) } }
/-- The program in force with its table and entries, as the strip holds them. -/
def Drill.image (r : Drill) : Image := { grains := r.grains, table := r.table, library := r.library }
/-- Granules of the resident area that entries and a table take (R146, R167). -/
def residentOf (library : SMap LibEntry) (table : List Nat) : Nat :=
  ((library.filter (fun e => !e.2.stream)).map (fun e => e.2.length)).sum + ceilDiv (9 * table.length) 18
/-- A loaded image that never comes into force given up, and its room in the resident area free (R147). -/
def Dev.dropNext (d : Dev) (l : Nat) : Dev :=
  let r := d.drill l
  if r.next.isNone then d else (d.setDrill l { r with next := none }).put (Obj.laneResidentUsed l) (residentOf r.library r.table)
/-- An alternate slot's content grows by `n` granules. -/
def Dev.growAlt (d : Dev) (l slot n : Nat) : Dev :=
  let c := d.chain l
  d.setChain l (c.setAlt slot ((c.alt slot).map (fun a => { a with length := a.length + n })))

/-- A job without what a mute of the shot discards (R92). -/
def Drill.unmuted (r : Drill) (j : PlayJob) : PlayJob :=
  match r.muteFrom with
  | some f => j.cut f
  | none => j

/-- Granules handed to the strip's issue port in program order; those of a muted lane are discarded (R92, R246). In shadow state those
stamped in the 16 granules from the branch go to its alternate slot, and later ones wait in the staging buffers (R217). -/
def Dev.queueJob (d : Dev) (l : Nat) (j : PlayJob) : Dev :=
  let r := d.drill l
  let j := r.unmuted j
  if j.length ≤ j.next then d
  else
    match r.shadow with
    | some s =>
      let stop := s.cursor + 16
      if j.start + j.next < stop then
        let near := { j with length := min j.length (stop - j.start), altSlot := some ((SMap.find d.vpt s.entry).map VptEntry.slot |>.getD 0), reserved := true }
        let rest := { j with next := stop - j.start }
        let keep := if rest.next < j.length then s.jobs ++ [rest] else s.jobs
        let d := d.growAlt l (near.altSlot.getD 0) (near.length - near.next)
        d.setDrill l { r with ready := r.ready ++ [near], shadow := some { s with jobs := keep } }
      else d.setDrill l { r with shadow := some { s with jobs := s.jobs ++ [j] } }
    | none => d.setDrill l { r with ready := r.ready ++ [j], urgentDue := false }

/-- The job of a `play` of waveform `w` from a position: its place in the streamed sequence is the drill's next (R153). -/
def Dev.jobOf (d : Dev) (l w : Nat) (amp : Int) (frame phase start : Nat) (urgent first : Bool) (slot seg : Option Nat) : PlayJob :=
  let r := d.drill l
  let e := r.entryOf w
  { waveform := w, amplitude := amp, frame := frame, phase := phase, start := start, next := 0, length := e.length
    streamed := e.stream, urgent := urgent, altSlot := slot, reserved := slot.isSome, shot := d.shotNo l
    tsOrigin := d.ts l, first := first, last := false, seg := seg, streamAt := r.streamCur, why := r.why }
/-- The drill's place in the streamed sequence past a play: never past its shot's part, which a late granule has dropped (R153, R154). -/
def Drill.streamPast (r : Drill) (w : Nat) : Nat :=
  if (r.entryOf w).stream then min (r.streamCur + (r.entryOf w).length) r.streamNext else r.streamCur

/-- A waveform played from the cursor: its granules queue, busy-until and the cursor move (R120). -/
def Dev.playAt (d : Dev) (l w : Nat) (amp : Int) (frame phase : Nat) (hold : Bool) (seg : Option Nat) : Dev :=
  let r := d.drill l
  let n := (r.entryOf w).length
  let d := d.queueJob l (d.jobOf l w amp frame phase r.cursor r.urgentDue r.firstDue none seg)
  let r := d.drill l
  d.setDrill l { r with busy := r.cursor + n, cursor := if hold then r.cursor else r.cursor + n, firstDue := false, streamCur := r.streamPast w }

/-- Whether an opened slot of a lane's group at a release stamp still has the entry it was granted (R221, R228). -/
def Dev.entryLives (d : Dev) (l stamp : Nat) (o : AltOpen) : Bool :=
  o.entry.any (fun i => (SMap.find d.vpt i).any (fun v => !v.isBranch && v.lane = l && v.slot = o.slot && v.release + 40 = stamp))
/-- A `play` inside an alternate group: part of the slot opened last, its cursor counted from the release (R121). It is issued at once for a
slot whose entry lives, kept for one that has none, and discarded when the entry has ended (R214, R215, R228). -/
def Dev.playInAlt (d : Dev) (l w : Nat) (amp : Int) (frame phase : Nat) (g : AltGroup) : Dev :=
  let r := d.drill l
  match g.opened.getLast? with
  | none => d.setDrill l r.step
  | some o =>
    let n := (r.entryOf w).length
    let job := d.jobOf l w amp frame phase (g.release + o.length) false (r.firstDue && o.length = 0) (some o.slot) none
    let o' := { o with length := o.length + n, jobs := if o.entry.isSome then o.jobs else o.jobs ++ [job] }
    let lives := d.entryLives l (d.cursorTime l g.release) o
    let d := if lives then d.growAlt l o.slot n else d
    let ready := (r.unmuted job).next < (r.unmuted job).length
    let r' := { r.step with
      alt := some { g with opened := g.opened.dropLast ++ [o'] }, streamCur := r.streamPast w
      ready := if lives && ready then r.ready ++ [r.unmuted job] else r.ready }
    d.setDrill l r'

/-- A read-out window belongs to its lane's shot from its request on (R115, R129). -/
def Dev.addWindow (d : Dev) (l : Nat) : Timed → Dev
  | .window sl stamp shot =>
    let g := d.group (d.groupOf l)
    let w : WinReq := { slot := sl, start := stamp, stop := stamp + 32 * d.val (Obj.slotWindowLength sl), lane := l, shot := shot, late := false }
    (d.setGroup (d.groupOf l) { g with windows := g.windows ++ [w] }).refreshEntries (d.groupOf l) shot
  | _ => d

/-! ### Instructions -/

/-- A meaning that acts when the drill's next instruction is the command's, and is nothing otherwise (log entry 5). -/
def drillStep (t : Nat) (lane : Lane) (f : Dev → Nat → Drill → Op → Dev) (s : State) : Host.Outcome State Fault Refusal :=
  devStep t (fun _ d =>
    match d.nextOp lane.val with
    | some op => f d lane.val (d.drill lane.val) op
    | none => d) s

/-- NOP: nothing but the next address (R118). -/
def execNop (t : Nat) (lane : Lane) (s : State) : Host.Outcome State Fault Refusal :=
  drillStep t lane (fun d l r op => match op with
    | .nop => d.setDrill l r.step
    | _ => d) s

/-- HALT: outside a shot, the drill stops and the lane leaves its group (R116). -/
def execHalt (t : Nat) (lane : Lane) (s : State) : Host.Outcome State Fault Refusal :=
  drillStep t lane (fun d l r op => match op with
    | .halt => if r.run = .between then (d.setDrill l (r.rest .halted)).leaveGroup l else d
    | _ => d) s

/-- WAIT (R118, R132): the cursor advances by the count; the next instruction waits until the horizon allows the positions passed (R117). A count of
0 does nothing, flags included. With S, a segment begins at the wait's cursor, where a watch may replace it. -/
def execWait (t : Nat) (lane : Lane) (s : State) : Host.Outcome State Fault Refusal :=
  drillStep t lane (fun d l r op => match op with
    | .wait sg m count =>
      if r.run != .inShot then d
      else if count = 0 then d.setDrill l r.step
      else if (sg || r.segDue) && d.watchWaits l then d
      else
        let (d1, fired) := if sg || r.segDue then d.segmentEnd l else (d, false)
        if fired then d1
        else
          let d2 := if m then d1.segMarker l (d1.cursorTime l r.cursor) else d1
          let r2 := d2.drill l
          d2.setDrill l { r2.step with cursor := r2.cursor + count, segDue := false }
    | _ => d) s

/-- AT (R123): the cursor becomes the value, never less than it was (R112). -/
def execAtCursor (t : Nat) (lane : Lane) (s : State) : Host.Outcome State Fault Refusal :=
  drillStep t lane (fun d l r op => match op with
    | .atC v => if r.run = .inShot then d.setDrill l { r.step with cursor := max r.cursor v } else d
    | _ => d) s

/-- PLAY (R120, R132, R134). A waveform of length 0 does nothing but move on. -/
def execPlay (t : Nat) (lane : Lane) (s : State) : Host.Outcome State Fault Refusal :=
  drillStep t lane (fun d l r op => match op with
    | .play sg m h w amp frame phase =>
      if r.run != .inShot then d
      else match r.alt with
      | some g => if g.closed then d else d.playInAlt l w amp frame phase g
      | none =>
        if (r.entryOf w).length = 0 then d.setDrill l r.step
        else if (sg || r.segDue) && d.watchWaits l then d
        else
          let (d1, fired) := if sg || r.segDue then d.segmentEnd l else (d, false)
          if fired then d1
          else
            let d2 := if m then d1.segMarker l (d1.cursorTime l r.cursor) else d1
            let d3 := d2.playAt l w amp frame phase h none
            d3.setDrill l { (d3.drill l).step with segDue := false }
    | _ => d) s

/-- LOOP (R127): pushes a level, or skips the body for a count of 0. -/
def execLoop (t : Nat) (lane : Lane) (s : State) : Host.Outcome State Fault Refusal :=
  drillStep t lane (fun d l r op => match op with
    | .loop forever e count =>
      if forever then
        d.setDrill l { r.step with loops := { remaining := 0, forever := true, body := r.pc + 1, endAddr := e } :: r.loops }
      else if count = 0 then d.setDrill l { r with pc := e + 1 }
      else d.setDrill l { r.step with loops := { remaining := count, forever := false, body := r.pc + 1, endAddr := e } :: r.loops }
    | _ => d) s

/-- ENDLOOP (R127): repeats the body or pops the level. -/
def execEndloop (t : Nat) (lane : Lane) (s : State) : Host.Outcome State Fault Refusal :=
  drillStep t lane (fun d l r op => match op, r.loops with
    | .endloop _, top :: rest =>
      let left := if top.forever then top.remaining else top.remaining - 1
      if top.forever || 0 < left then d.setDrill l { r with pc := top.body, loops := { top with remaining := left } :: rest }
      else d.setDrill l { r.step with loops := rest }
    | _, _ => d) s

/-- CALL (R127): pushes the return address with the loop depth and jumps. -/
def execCall (t : Nat) (lane : Lane) (s : State) : Host.Outcome State Fault Refusal :=
  drillStep t lane (fun d l r op => match op with
    | .call target => d.setDrill l { r with pc := target, calls := { ret := r.pc + 1, depth := r.loops.length } :: r.calls }
    | _ => d) s

/-- RET (R127): pops the return address. -/
def execRet (t : Nat) (lane : Lane) (s : State) : Host.Outcome State Fault Refusal :=
  drillStep t lane (fun d l r op => match op, r.calls with
    | .ret, c :: rest => d.setDrill l { r with pc := c.ret, calls := rest }
    | _, _ => d) s

/-- JUMP (R127): pops the named loop levels and continues at the target. -/
def execJump (t : Nat) (lane : Lane) (s : State) : Host.Outcome State Fault Refusal :=
  drillStep t lane (fun d l r op => match op with
    | .jump pop target => d.setDrill l { r with pc := target, loops := r.loops.drop pop }
    | _ => d) s

/-- FRAME_FREQ (R157): a frame record with effect time at the cursor. -/
def execFrameFreq (t : Nat) (lane : Lane) (s : State) : Host.Outcome State Fault Refusal :=
  drillStep t lane (fun d l r op => match op with
    | .frameFreq f w =>
      if r.run = .inShot then
        (d.setDrill l r.step).request l (.frame 0 f w (d.cursorTime l r.cursor) false)
      else d
    | _ => d) s

/-- FRAME_PHASE (R157): a frame record that sets the offset, or adds to it. -/
def execFramePhase (t : Nat) (lane : Lane) (s : State) : Host.Outcome State Fault Refusal :=
  drillStep t lane (fun d l r op => match op with
    | .framePhase f add ph =>
      if r.run = .inShot then
        (d.setDrill l r.step).request l (.frame (if add then 2 else 1) f ph (d.cursorTime l r.cursor) false)
      else d
    | _ => d) s

/-- FRAME_ORIGIN (R157): a frame record that acts at cursor time plus offset and sets the origin to that time. -/
def execFrameOrigin (t : Nat) (lane : Lane) (s : State) : Host.Outcome State Fault Refusal :=
  drillStep t lane (fun d l r op => match op with
    | .frameOrigin f off =>
      if r.run = .inShot then
        let e := ((d.cursorTime l r.cursor : Int) + off).toNat
        (d.setDrill l r.step).request l (.frame 3 f e e false)
      else d
    | _ => d) s

/-- MARK (R125, R126): a MARK edge or an event firing at cursor plus offset. A pulse of width 0 gives no pulse; an event is a time
and nothing else, so it fires whatever the width (log entry 11). -/
def execMark (t : Nat) (lane : Lane) (s : State) : Host.Outcome State Fault Refusal :=
  drillStep t lane (fun d l r op => match op with
    | .mark kind target action width off =>
      if r.run = .inShot then
        let stamp := d.cursorTime l r.cursor + off
        let d := d.setDrill l r.step
        if kind = 1 then d.request l (.event target stamp)
        else if action = 0 && width = 0 then d
        else d.request l (.pin target action width stamp)
      else d
    | _ => d) s

/-- ACQUIRE (R126, R182): read-out windows on the named local slots of an input at cursor plus offset. -/
def execAcquire (t : Nat) (lane : Lane) (s : State) : Host.Outcome State Fault Refusal :=
  drillStep t lane (fun d l r op => match op with
    | .acquire input slots off =>
      if r.run = .inShot then
        let stamp := d.cursorTime l r.cursor + off
        let asks := (setBits 16 slots).map (fun k => Timed.window (16 * input + k) stamp (d.shotNo l))
        let d := asks.foldl (fun e x => e.request l x) (d.setDrill l r.step)
        if r.shadow.isSome then d else asks.foldl (fun e x => e.addWindow l x) d
      else d
    | _ => d) s

/-- BIAS (R258): a request for a new target of the lane's own bias output at the cursor time. -/
def execBias (t : Nat) (lane : Lane) (s : State) : Host.Outcome State Fault Refusal :=
  drillStep t lane (fun d l r op => match op with
    | .bias code =>
      if r.run = .inShot then (d.setDrill l r.step).request l (.bias code (d.cursorTime l r.cursor)) else d
    | _ => d) s

/-- BRANCH_WATCH (R134): arms the lane's one watch at this loop and call depth, replacing any armed. -/
def execBranchWatch (t : Nat) (lane : Lane) (s : State) : Host.Outcome State Fault Refusal :=
  drillStep t lane (fun d l r op => match op with
    | .watch _ source _ mask neg _ pop target =>
      if r.run = .inShot then
        let w : Watch :=
          { channel := source, mask := mask, negate := neg, target := target, pop := pop, loopDepth := r.loops.length
            callDepth := r.calls.length, armTime := d.cursorTime l r.cursor, prev := none }
        d.setDrill l { r.step with watch := some w }
      else d
    | _ => d) s

/-! ### Waiting for events (R135, R136) -/

/-- Cursor after an event at grid time `e`, rounded up to a whole tick, with a gap (R136); an event before *T*ₛ counts negative. -/
def syncCursor (c ts gap : Nat) (e : EvTime) : Nat := max c (-(((ts : Int) - (e.ceil : Int)) / 64) + (gap : Int)).toNat

/-- The limit of a `sync` (R136). -/
def Dev.syncLimit (d : Dev) (l c timeout : Nat) : Nat := d.cursorTime l (c + timeout)

/-- A `sync` completed by a latched event: the latch empties and the cursor follows the event (R136). -/
def Dev.syncDone (d : Dev) (l chan gap : Nat) (e : EvTime) : Dev :=
  let r := d.drill l
  d.setDrill l { r.step with run := .inShot, cursor := syncCursor r.cursor (d.ts l) gap e, latches := SMap.del r.latches chan }

/-- A `sync` whose limit passed with the latch empty (R136). -/
def Dev.syncMissed (d : Dev) (l timeout gap : Nat) : Dev :=
  let r := d.drill l
  (d.setDrill l { r.step with run := .inShot, timeoutFlag := true, cursor := r.cursor + timeout + gap }).bump (Obj.laneSyncTimeouts l)

/-- SYNC (R136): clears the flag, then takes a full latch, or waits for the event; a timeout of 0 tests the latch without
waiting. In shadow state the drill waits for confirmation (R217). -/
def execSync (t : Nat) (lane : Lane) (s : State) : Host.Outcome State Fault Refusal :=
  drillStep t lane (fun d l r op => match op with
    | .sync chan forever timeout gap =>
      if r.run != .inShot then d
      else if r.shadow.isSome then d.setDrill l { r with run := .waitConfirm }
      else
        let d := d.setDrill l { r with timeoutFlag := false }
        match SMap.find r.latches chan with
        | some e =>
          if forever || e.tick ≤ d.syncLimit l r.cursor timeout then d.syncDone l chan gap e else d.syncMissed l timeout gap
        | none =>
          if timeout = 0 && !forever then d.syncMissed l 0 gap
          else d.setDrill l { d.drill l with run := .waitSync, waitGrain := (r.grain r.pc).getD 0 }
    | _ => d) s

/-- SYNC_TIMEOUT (R136): the drill learns of the timeout 200 ticks after the limit. -/
def execSyncTimeout (t : Nat) (lane : Lane) (s : State) : Host.Outcome State Fault Refusal :=
  devStep t (fun _ d =>
    let l := lane.val
    let r := d.drill l
    match r.run, decodeGrain r.waitGrain with
    | .waitSync, .sync _ false timeout gap =>
      if d.syncLimit l r.cursor timeout + 200 ≤ d.now then d.syncMissed l timeout gap else d
    | _, _ => d) s

/-- An event latched after the last cutoff of a table entry that its count has ended, and before that end: it came too late to leave the entry,
and LaneLateJumps counts it once (R169). -/
def Dev.segTail (d : Dev) (l chan : Nat) (e : EvTime) : Dev :=
  let r := d.drill l
  let hit := fun (x : Nat × Nat × Nat × Nat) => x.1 = chan && x.2.1 ≤ e.tick && e.past x.2.2.1 && e.tick < x.2.2.2
  if r.segTails.any hit then (d.setDrill l { r with segTails := r.segTails.filter (fun x => x.1 != chan) }).bump (Obj.laneLateJumps l) else d

/-- The event of a channel reaches a drill's latch: first come, first held; a further one is dropped and counted (R135). A drill
that waits in `sync` on the channel takes it. One of the shot ended last only counts for the watch that shot's end disarmed (R134, R135). -/
def Dev.latchEvent (d : Dev) (l chan : Nat) (e : EvTime) : Dev :=
  let r := d.drill l
  if e.tick < r.shotEnd then
    let d := match r.tail with
      | some (ch, arm, cut) =>
        if ch = chan && arm ≤ e.tick && e.past cut then (d.setDrill l { r with tail := none }).bump (Obj.laneLateJumps l) else d
      | none => d
    d.segTail l chan e
  else if r.run = .stopped || r.run = .halted then d
  else if (SMap.find r.latches chan).isSome then d.bump (Obj.laneSyncOverruns l)
  else
    let d := (d.setDrill l { r with latches := SMap.set r.latches chan e }).segTail l chan e
    let r := d.drill l
    match r.run, decodeGrain r.waitGrain with
    | .waitSync, .sync ch forever timeout gap =>
      if ch = chan && (forever || e.tick ≤ d.syncLimit l r.cursor timeout) then d.syncDone l chan gap e else d
    | _, _ => d

/-! ### Segment tables (R165–R172) -/

/-- Entry `i` of the lane's segment table. -/
def Drill.segEntry (r : Drill) (i : Nat) : SegEntry := decodeSeg ((r.table[i + 2]?).getD 0)

/-- The first entry from `i` that plays, skipping entries with Repeat 0 and Forever 0; none when the table ends (R168). -/
def Drill.segPlays (r : Drill) : Nat → Nat → Option Nat
  | 0, _ => none
  | fuel + 1, i =>
    let e := r.segEntry i
    if e.forever || e.rep != 0 then some i else if e.last then none else Drill.segPlays r fuel e.next

/-- The table returns: a segment begins where it ended (R170). -/
def Dev.segReturn (d : Dev) (l : Nat) : Dev :=
  let r := d.drill l
  d.setDrill l { r.step with seg := none, segStart := r.cursor, segDue := false, busy := r.cursor }

/-- One repetition of an entry: its segment begins at the cursor, with its marker and its latch cleared at the first (R168). -/
def Dev.segPlay (d : Dev) (l i rep start : Nat) (prev : Option (Nat × Nat)) : Dev :=
  let r := d.drill l
  let e := r.segEntry i
  let here := d.cursorTime l r.cursor
  let chan := tableChan ((r.table[1]?).getD 0) e.cond
  let latches :=
    if rep = 0 && e.cond != 0 && (SMap.find r.latches chan).any (fun v => v.tick < here) then SMap.del r.latches chan else r.latches
  let d := d.setDrill l { r with latches := latches, segStart := r.cursor }
  let d := if rep = 0 && e.marker then d.segMarker l here else d
  let g0 := (r.table[0]?).getD 0
  let g1 := (r.table[1]?).getD 0
  let d := d.playAt l e.wave (tableAmp g1) (tableFrame g0) (tablePhase g1) false (some i)
  let r := d.drill l
  d.setDrill l { r with seg := some { entry := i, rep := rep + 1, entryStart := if rep = 0 then here else start, prev := prev } }

/-- The entry after one that has ended, or the return (R168). -/
def Dev.segNext (d : Dev) (l i : Nat) : Dev :=
  let r := d.drill l
  let e := r.segEntry i
  if e.last then d.segReturn l
  else match r.segPlays 4096 e.next with
    | some j => d.segPlay l j 0 0 none
    | none => d.segReturn l

/-- The event of an entry's condition, latched at or after the entry's first segment start (R169). -/
def Drill.segEvent (r : Drill) (w : SegWalk) : Option EvTime :=
  let cond := (r.segEntry w.entry).cond
  if cond = 0 then none
  else (SMap.find r.latches (tableChan ((r.table[1]?).getD 0) cond)).filter (fun v => w.entryStart ≤ v.tick)

/-- An entry that ends on its count, its condition not honoured by its last cutoff: an event latched after that cutoff counts, now or
when it comes (R169; log entry 41). -/
def Dev.segCounted (d : Dev) (l : Nat) (w : SegWalk) (cut stop : Nat) : Dev :=
  let r := d.drill l
  let e := r.segEntry w.entry
  let late := (r.segEvent w).any (fun v => v.past cut && v.tick < stop)
  let tail := (tableChan ((r.table[1]?).getD 0) e.cond, w.entryStart, cut, stop)
  let d := if e.cond = 0 then d else if late then d.bump (Obj.laneLateJumps l)
    else d.setDrill l { r with segTails := r.segTails.filter (fun x => d.now < x.2.2.2 + 200) ++ [tail] }
  d.segNext l w.entry
/-- The end of a repetition whose cutoff is `cut` (R168, R169): the entry is left when its condition holds by then; an event latched after the
cutoff of the repetition before and before its end acts one segment late and counts. Otherwise the entry ends or repeats. -/
def Dev.segTurn (d : Dev) (l : Nat) (w : SegWalk) (cut : Nat) : Dev :=
  let r := d.drill l
  let e := r.segEntry w.entry
  let stop := d.cursorTime l r.cursor
  match (r.segEvent w).filter (fun v => v.by cut) with
  | some v =>
    let d := (d.setDrill l { r with latches := SMap.del r.latches (tableChan ((r.table[1]?).getD 0) e.cond) }).bump (Obj.laneSegJumps l)
    let late := w.prev.any (fun p => v.past p.1 && v.tick < p.2)
    (if late then d.bump (Obj.laneLateJumps l) else d).segNext l w.entry
  | none =>
    if !e.forever && e.rep ≤ w.rep then d.segCounted l w cut stop
    else d.segPlay l w.entry w.rep w.entryStart (some (cut, stop))

/-- SEG (R168): the micro-routine's next repetition. The first command enters the table; each later one decides at the end of the
repetition before it whether the entry is left on its condition (R169), ends or repeats. An entry's condition waits for events on their way
as a watch does. In shadow state the drill waits for confirmation: table mode never speculates (R171; log entry 41). -/
def execSeg (t : Nat) (lane : Lane) (s : State) : Host.Outcome State Fault Refusal :=
  drillStep t lane (fun d l r op => match op with
    | .seg first =>
      if r.run != .inShot then d
      else if r.shadow.isSome then d.setDrill l { r with run := .waitConfirm }
      else match r.seg with
      | none =>
        if d.watchWaits l then d
        else
          let (d1, fired) := if r.segStart < r.cursor then d.segmentEnd l else (d, false)
          if fired then d1
          else match r.segPlays 4096 first with
            | some i => d1.segPlay l i 0 0 none
            | none => d1.segReturn l
      | some w =>
        let cut := d.cutoff l r.cursor
        if d.endWaits l r.cursor || ((r.segEntry w.entry).cond != 0 && d.now < cut + 200) then d
        else (d.segmentCommits l (d.cursorTime l r.cursor) cut).segTurn l w cut
    | _ => d) s

end Sys2Proof.Machine
end

