-- ==== Sys2Proof/Machine/Groups.lean ====
section
/-! DEFINITION. Groups and their commit objects (R25, Table 2-4): which fields a group has, which unit it belongs to, the
boundaries it takes, and the lanes it covers (R490). -/

namespace Sys2Proof.Machine

/-- The commit object of a group of a unit. -/
def commitKey : GKind → Nat → Nat
  | .device, _ => Obj.devCommit
  | .time, _ => Obj.timeCommit
  | .lane, n => Obj.laneCommit n
  | .program, n => Obj.laneProgCommit n
  | .dac, n => Obj.laneDacCommit n
  | .wave, n => Obj.laneWaveCommit n
  | .fetch, n => Obj.laneFetchCommit n
  | .input, n => Obj.inputCommit n
  | .kernel, n => Obj.slotKernelCommit n
  | .disc, n => Obj.slotCommit n
  | .feedback, _ => Obj.fbCommit
  | .cell, n => Obj.cellCommit n
  | .table, n => Obj.tableCommit n
  | .energyProfile, _ => Obj.energyProfileCommit
  | .energyCeiling, _ => Obj.energyCeilingCommit
  | .bias, n => Obj.biasCommit n
  | .monitor, _ => Obj.monCommit
  | .trig, n => Obj.trigCommit n
  | .gleaner, _ => Obj.glnCommit
  | .capture, n => Obj.capCommit n
  | .sheaf, n => Obj.sheafCommit n
  | .memory, _ => Obj.memCommit
  | .baleQueue, n => Obj.baleQueueCommit n
  | .dmaChannel, n => Obj.pcieDmaCommit n
  | .ggDevice, _ => Obj.ggCommit
  | .ggPort, n => Obj.ggPortCommit n
  | .ggBulk, n => Obj.ggBulkCommit n
  | .evtChannel, n => Obj.evtChannelCommit n
  | .evtProducer, _ => Obj.evtCommit
  | .calScope, _ => Obj.calCommit
  | .csImage, _ => Obj.csCommit
  | .csRollback, _ => Obj.csRollbackCommit
  | .csUser, n => Obj.csUserCommit n

/-- The group a commit object commits, and its unit. -/
def commitAt (idx sub : Nat) : Option (GKind × Nat) :=
  if idx = 0x2000 && sub = 0x09 then some (.device, 0)
  else if idx = 0x2101 && sub = 0x10 then some (.time, 0)
  else if idx = 0x2010 && sub = 0x10 then some (.feedback, 0)
  else if idx = 0x2201 && sub = 0x01 then some (.energyProfile, 0)
  else if idx = 0x2201 && sub = 0x02 then some (.energyCeiling, 0)
  else if idx = 0x2500 && sub = 0x01 then some (.evtProducer, 0)
  else if idx = 0x2503 && 1 ≤ sub && sub ≤ 0x80 then some (.evtChannel, sub - 1)
  else if idx = 0x2600 && sub = 0x01 then some (.calScope, 0)
  else if idx = 0x2800 && sub = 0x10 then some (.memory, 0)
  else if 0x2910 ≤ idx && idx ≤ 0x2918 && sub = 1 then some (.baleQueue, idx - 0x2910)
  else if idx = 0x2A00 && sub = 1 then some (.gleaner, 0)
  else if 0x2A40 ≤ idx && idx ≤ 0x2A47 && sub = 1 then some (.capture, idx - 0x2A40)
  else if 0x2A80 ≤ idx && idx ≤ 0x2ABF && sub = 1 then some (.sheaf, idx - 0x2A80)
  else if 0x2B10 ≤ idx && idx ≤ 0x2B1F && sub = 1 then some (.trig, idx - 0x2B10)
  else if idx = 0x2C00 && sub = 1 then some (.monitor, 0)
  else if idx = 0x2D00 && sub = 1 then some (.ggDevice, 0)
  else if 0x2D10 ≤ idx && idx ≤ 0x2D13 && sub = 1 then some (.ggPort, idx - 0x2D10)
  else if 0x2D18 ≤ idx && idx ≤ 0x2D1B && sub = 1 then some (.ggBulk, idx - 0x2D18)
  else if 0x2E20 ≤ idx && idx ≤ 0x2E2F && sub = 1 then some (.dmaChannel, idx - 0x2E20)
  else if idx = 0x2F00 && sub = 1 then some (.csImage, 0)
  else if idx = 0x2F00 && sub = 0x10 then some (.csRollback, 0)
  else if 0x2F40 ≤ idx && idx ≤ 0x2F7F && sub = 1 then some (.csUser, idx - 0x2F40)
  else if 0x3000 ≤ idx && idx ≤ 0x31FF then
    let n := idx - 0x3000
    if sub = 0x01 then some (.lane, n)
    else if sub = 0x03 then some (.program, n)
    else if sub = 0x30 then some (.dac, n)
    else if sub = 0x38 then some (.wave, n)
    else if sub = 0x41 then some (.fetch, n)
    else none
  else if 0x3200 ≤ idx && idx ≤ 0x33FF && sub = 1 then some (.bias, idx - 0x3200)
  else if 0x3400 ≤ idx && idx ≤ 0x343F && sub = 1 then some (.input, idx - 0x3400)
  else if 0x3440 ≤ idx && idx ≤ 0x383F && sub = 1 then some (.disc, idx - 0x3440)
  else if 0x3440 ≤ idx && idx ≤ 0x383F && sub = 2 then some (.kernel, idx - 0x3440)
  else if 0x3900 ≤ idx && idx ≤ 0x39FF && sub = 1 then some (.cell, idx - 0x3900)
  else if 0x3A00 ≤ idx && idx ≤ 0x3A03 && sub = 1 then some (.table, idx - 0x3A00)
  else none

/-- The group an object belongs to, with its unit; none for an object of no group. -/
def memberOf (idx sub : Nat) : Option (GKind × Nat) :=
  (rowAt idx sub).bind (fun r => r.member.map (fun k =>
    (k, match k with
        | .evtChannel => if idx = 0x2501 then sub - 1 else 16 * (idx - 0x2510) + (sub - 1) / 8
        | .ggPort => if idx ≤ 0x2D13 then idx - 0x2D10 else if idx ≤ 0x2D23 then idx - 0x2D20 else idx - 0x2D24
        | .device | .time | .feedback | .energyProfile | .energyCeiling | .monitor | .gleaner | .memory | .ggDevice
        | .evtProducer | .calScope | .csImage | .csRollback => 0
        | _ => idx - r.base)))

/-- Boundaries a group takes (R29, R50): bit 0 immediate-if-idle, bit 1 segment end, bit 2 shot boundary. The time group and
the calibration scope group take a commit with any boundary, as their chapters state. -/
def boundaryMask : GKind → Nat
  | .device => 4
  | .time | .calScope | .lane | .bias => 7
  | .dac | .wave | .input | .kernel | .capture | .baleQueue | .dmaChannel | .ggBulk | .csImage | .csUser => 1
  | .program | .fetch | .disc | .feedback | .cell | .table | .energyProfile | .energyCeiling | .monitor | .trig | .gleaner
  | .sheaf | .memory | .ggDevice | .ggPort | .evtChannel | .evtProducer | .csRollback => 5
/-- The abort code of a boundary a group does not take: 0x06090030 (R29), and 0xA0000004 for a shot boundary where the group's chapter says
that it commits at immediate-if-idle alone and is otherwise refused so (R160, R164, R199, R200, R349, R372, R398, R464). -/
def boundaryAbort (k : GKind) (b : Nat) : Nat :=
  match k with
  | .dac | .wave | .input | .kernel | .baleQueue | .dmaChannel | .ggBulk | .csUser => if b = 3 then 0xA0000004 else 0x06090030
  | _ => 0x06090030

/-- Keys of consecutive sub-indices. -/
def keysFrom (base n : Nat) : List Nat := (List.range n).map (fun j => base + j)
/-- Keys of consecutive sub-indices of consecutive indices. -/
def keysGrid (base rows n : Nat) : List Nat := ((List.range rows).map (fun i => keysFrom (base + 256 * i) n)).flatten

/-- The fields of a group, in ascending index and sub-index order (R35, R37). -/
def groupFields : GKind → Nat → List Nat
  | .device, _ => [Obj.devPartitionsEnabled, Obj.devSpeculationLimit] ++ keysFrom (Obj.partLaneMap 0) 32 ++ keysFrom (Obj.partInputMap 0) 4
      ++ keysFrom (Obj.partEventMap 0) 8 ++ keysFrom (Obj.partCellMap 0) 16 ++ [Obj.partTableMap]
  | .time, _ => keysFrom Obj.timeServoEnable 6 ++ keysFrom (Obj.ptpPortRole 0) 16
  | .lane, n => [Obj.laneSegMarker n] ++ keysFrom (Obj.laneFrameFreq n 0) 16 ++ keysFrom (Obj.laneFrameOrigin n 0) 8 ++ [Obj.laneDigitalGain n]
  | .program, n => [Obj.laneProgram n, Obj.laneShotGroup n, Obj.laneHorizon n, Obj.laneSegTable n]
  | .dac, n => [Obj.laneDacMode n, Obj.laneFullScale n]
  | .wave, n => [Obj.laneLibrary n, Obj.laneStreamRate n, Obj.laneStreamBuffer n]
  | .fetch, n => [Obj.laneFetchRate n]
  | .input, n => [Obj.inputZone n]
  | .kernel, n => [Obj.slotWindowLength n, Obj.slotKernel n]
  | .disc, n => keysFrom (Obj.slotFreq n) 12 ++ keysFrom (Obj.slotMargin n 0) 64
  | .feedback, _ => keysGrid (Obj.fbExport 0 0) 4 32 ++ keysFrom (Obj.fbRemoteIn 0) 64
  | .cell, n => keysFrom (Obj.cellFunction n) 14
  | .table, n => keysFrom (Obj.tableContent n) 4
  | .energyProfile, _ => keysGrid (Obj.energyStageFractions 0 0) 12 128
  | .energyCeiling, _ => keysFrom (Obj.energyStageCeiling 0) 12 ++ keysGrid (Obj.energyLaneCeiling 0 0) 12 128
  | .bias, n => [Obj.biasTarget n, Obj.biasStep n, Obj.biasInterval n]
  | .monitor, _ => keysFrom Obj.monRunMode 4 ++ keysFrom (Obj.monEntry 0) 64 ++ keysFrom (Obj.monDeadband 0) 64
  | .trig, n => keysFrom (Obj.trigThreshold n) 7
  | .gleaner, _ => keysFrom Obj.glnSourceEnable 3 ++ (List.range 16).map Obj.glnRing ++ (List.range 16).map Obj.glnSlotMask
  | .capture, n => keysFrom (Obj.capSource n) 9
  | .sheaf, n => keysFrom (Obj.sheafRing n) 7
  | .memory, _ => [Obj.memHostMaxWait] ++ keysFrom (Obj.memPartClass1Limit 0) 9 ++ keysFrom (Obj.memPartClass2Share 0) 9
      ++ keysFrom (Obj.memPartClass4Limit 0) 9 ++ keysGrid (Obj.memRegion 0 0) 8 128
  | .baleQueue, n => [Obj.baleQueueRing n]
  | .dmaChannel, n => keysFrom (Obj.pcieDmaMode n) 5
  | .ggDevice, _ => [Obj.ggNoticeChannel]
  | .ggPort, n => keysFrom (Obj.ggPortEnable n) 7 ++ keysFrom (Obj.ggEventOut n 0) 32 ++ keysFrom (Obj.ggEventIn n 0) 32
  | .ggBulk, n => keysFrom (Obj.ggBulkOp n) 4
  | .evtChannel, n => [Obj.evtChannelCfg n] ++ keysFrom (Obj.evtTask (n / 16) (8 * (n % 16))) 8
  | .evtProducer, _ => keysFrom (Obj.evtTimer 0) 4 ++ keysFrom (Obj.evtVerdictProducer 0) 16 ++ [Obj.evtThermalChannel] ++ keysFrom (Obj.evtFaultChannel 0) 4
  | .calScope, _ => keysFrom Obj.calItems 6
  | .csImage, _ => [Obj.csImage]
  | .csRollback, _ => [Obj.csRollbackCounter]
  | .csUser, n => [Obj.csUserRoutine n, Obj.csUserShotLane n]

/-- Whether a lane's program in force opens windows on an input (R199). -/
def Dev.opensInput (d : Dev) (l i : Nat) : Bool :=
  (d.programOps l).any (fun op => match op with
    | .acquire inp _ _ => inp = i
    | _ => false)

/-- Whether a group covers a lane (R490). -/
def Dev.covers (d : Dev) (k : GKind) (n l : Nat) : Bool :=
  match k with
  | .device | .feedback | .energyProfile | .energyCeiling | .memory | .evtProducer | .ggPort => true
  | .cell => d.laneOwner l = d.cellOwner n
  | .table => d.laneOwner l = d.tableOwner n
  | .evtChannel => d.laneOwner l = d.chanOwner n
  | .sheaf => d.val (Obj.laneShotGroup l) = n
  | .lane | .program | .dac | .wave | .fetch | .bias => l = n
  | .input => d.opensInput l n
  | .kernel => d.opensInput l (n / 16)
  | .disc | .time | .monitor | .trig | .gleaner | .capture | .baleQueue | .dmaChannel | .ggDevice | .ggBulk | .calScope
  | .csImage | .csRollback | .csUser => false

/-- Whether a group covers several lanes, so that R30 holds joins for it. -/
def coversSeveral : GKind → Bool
  | .device | .feedback | .energyProfile | .energyCeiling | .memory | .evtProducer | .ggPort | .cell | .table | .evtChannel | .sheaf
  | .kernel => true
  | _ => false

/-- Whether a pending commit holds a lane at its join: at next shot boundary (R30), but for one carried past a boundary (R32) until a
lane in scope is inside a shot again; or immediate-if-idle while it loads or clears (R490, R147). -/
def Dev.commitHolds (d : Dev) (l : Nat) : Bool :=
  d.commits.any (fun p =>
    p.2.status = 2 &&
      (match commitAt (keyIndex p.1) (keySub p.1) with
       | some (k, n) =>
         ((coversSeveral k && p.2.boundary = 3 && !p.2.loading
             && (p.2.carried.isNone || allLanes.any (fun x => d.covers k n x && d.laneInShot x)))
           || (p.2.boundary = 1 && p.2.loading)) && d.covers k n l
       | none => false))

end Sys2Proof.Machine
end

