-- ==== Sys2Proof/Machine/Shots.lean ====
section
/-! DEFINITION. Shots and shot groups (R113–R116): `shot.begin`, the join with its origin, and `shot.end`; starting and stopping
a lane (Table 5-15). -/

namespace Sys2Proof.Machine

/-! ### Members and joins (R115) -/

/-- Lanes the first join counts: with the group's value and a program, not halted, void or unassigned. -/
def Dev.firstJoinLanes (d : Dev) (g : Nat) : List Nat :=
  (if 64 ≤ g then [g - 64] else allLanes).filter (fun l =>
    d.groupOf l = g && domLength (d.val (Obj.laneProgram l)) != 0 && (d.drill l).run != .halted
      && d.val (Obj.stripState (stripOf l)) = 0 && d.laneOwner l != 15)

/-- The lanes a group's next join counts. -/
def Dev.joinLanes (d : Dev) (g : Nat) : List Nat :=
  if (d.group g).started then d.runningMembers g else d.firstJoinLanes g

/-- Whether a lane stands at its join: no pending commit or calibration holds it and its DAC output has settled (R30, R160, R414,
R490). -/
def Dev.joinReady (d : Dev) (l : Nat) : Bool :=
  let r := d.drill l
  (r.run = .atJoin || r.run = .waitOrigin) && !r.held && !(d.commitHolds l) && !(d.calInterrupts 0 (stripOf l)) && !(d.calInterrupts 3 l) && (d.chain l).settleAt ≤ d.now

/-- Rounded up to a multiple of 64. -/
def up64 (x : Nat) : Nat := 64 * ceilDiv x 64

/-- Earliest origin thermal enforcement allows (R438): 0 when it does not act. -/
def Dev.earliestByHeat (d : Dev) (x : Group) : Nat :=
  if d.val Obj.thermThrottle = 2 && x.hasPrev then
    let duty := d.val Obj.thermDutyLimit
    x.prevEnd + 64 * ceilDiv ((x.prevEnd - x.prevOrigin) * (1000 - duty)) (duty * 64)
  else 0

/-- An origin found, or an event that is discarded or awaited (Table 5-3). -/
inductive OriginResult where
  | at (tick : Nat) (skipped moved : Nat)
  | discard (heat : Bool)
  | wait
deriving DecidableEq, Repr

/-- *T*ₛ of Table 5-3 for the lowest member's operand, under R114, R30 and R439. -/
def Dev.originOf (d : Dev) (x : Group) (lane mode chan gap : Nat) : OriginResult :=
  let ep := if x.hasPrev then x.prevEnd else x.runOrigin
  let heat := d.earliestByHeat x
  let earliest := max heat x.earliest
  if mode = 0 then
    let own := ep + 64 * gap
    .at (max own earliest) 0 (if own < heat then heat - own else 0)
  else if mode = 1 then
    match SMap.find (d.drill lane).latches chan with
    | none => .wait
    | some e =>
      let tick := e.ceil
      if tick + 64 * gap < ep then .discard false
      else if e.tick + 64 * gap < earliest then .discard (e.tick + 64 * gap < heat)
      else .at (tick + 64 * gap) 0 0
  else
    let own := if x.hasPrev then x.prevOrigin + 64 * gap else x.runOrigin
    let floor := max ep earliest
    let skips := if floor ≤ own then 0 else if gap = 0 then 0 else ceilDiv (floor - own) (64 * gap)
    let plain := if ep ≤ own then 0 else if gap = 0 then 0 else ceilDiv (ep - own) (64 * gap)
    let withHeat := if max ep heat ≤ own then 0 else if gap = 0 then 0 else ceilDiv (max ep heat - own) (64 * gap)
    .at (own + skips * (64 * gap)) skips ((withHeat - plain) * (64 * gap))

/-- The first place at or after `n` at which a part of the streamed sequence that starts at `off` comes round in a sequence of `total`. -/
def comesRound (n off total : Nat) : Nat := if total = 0 then n else n + (off + total - n % total) % total
/-- The streamed part of the shot that begins at an instruction (R153): its first place and its granules. -/
def Drill.streamPart (r : Drill) (a : Nat) : Nat × Nat :=
  let total := (r.streamSeq.map (fun w => (r.entryOf w).length)).sum
  match r.streamSecs.find? (fun s => s.1 = a) with
  | some s => (comesRound r.streamNext s.2.1 total, s.2.2)
  | none => (r.streamNext, 0)
/-- A member begins the shot (R113): cursor 0, first segment, the mute of an earlier shot over for its next granule; its streamed part is the
next one of the sequence (R153). -/
def Dev.beginOn (d : Dev) (l : Nat) : Dev :=
  let r := d.drill l
  let part := r.streamPart r.pc
  d.setDrill l
    { r.step with run := .inShot, cursor := 0, busy := 0, segStart := 0, segDue := false, firstDue := true, urgentDue := false
                  muteFrom := none, why := 6, timeoutFlag := r.timeoutFlag
                  streamCur := part.1, streamNext := part.1 + part.2, streamPos := if part.2 = 0 then r.streamPos else max r.streamPos part.1 }
/-- The join completes and the shot begins for all members with one number and one origin (R115). -/
def Dev.beginShot (d : Dev) (g : Nat) (lanes : List Nat) (origin skipped moved : Nat) : Dev :=
  let shot := d.val Obj.devShotNumber + 1
  let d := d.put Obj.devShotNumber (wrap 64 shot)
  let x := d.group g
  let d := d.setGroup g
    { x with inShot := true, shot := shot, origin := origin, members := lanes, took := lanes, ended := [], windows := []
             scope := if g < 64 then (List.range 7).map (fun j => d.val (Obj.sheafRing g + j)) else []
             spans := [], spoil := none, earliest := 0 }
  let first := fun (r : CapRun) => if d.now ≤ r.start then { r with shot := wrap 64 shot } else r
  let waits := d.captures.map (fun p =>
    (p.1, { p.2 with run := p.2.run.map first, follow := p.2.follow.map first
                     heldShots := if p.2.heldTrigger.isSome then (d.now, wrap 64 shot) :: p.2.heldShots else [] }))
  let d := { d with captures := waits }
  let d := lanes.foldl (fun e l => e.beginOn l) d
  let d := if skipped = 0 then d else lanes.foldl (fun e l => e.bumpBy (Obj.laneLatePeriods l) skipped) d
  if moved = 0 then d else d.bump64By Obj.thermDeadTime moved

/-- One attempt of a group's join (R113, R115). -/
def Dev.join (d : Dev) (g : Nat) : Dev :=
  let lanes := d.joinLanes g
  let x := d.group g
  if lanes.isEmpty || x.inShot || !(lanes.all (fun l => d.joinReady l)) then d
  else
    let d := if x.started then d else d.setGroup g { x with started := true, hasPrev := false, runOrigin := up64 (d.now + 8192) }
    let lead := lanes.foldl min (lanes.head?.getD 0)
    let r := d.drill lead
    match (r.grain r.pc).map decodeGrain with
    | some (.shotBegin mode chan gap) =>
      match d.originOf (d.group g) lead mode chan gap with
      | .at tick skipped moved =>
        let d := if mode = 1 then d.setDrill lead { r with latches := SMap.del r.latches chan } else d
        d.beginShot g lanes tick skipped moved
      | .discard heat =>
        let d := d.setDrill lead { r with latches := SMap.del r.latches chan }
        let d := lanes.foldl (fun e l => e.setDrill l { e.drill l with run := .waitOrigin }) d
        if heat then d.bump Obj.thermEventsSkipped else d
      | .wait => lanes.foldl (fun e l => e.setDrill l { e.drill l with run := .waitOrigin }) d
    | _ => d

/-- SHOT_BEGIN (R113): the drill waits at its group's join; a lane told to stop at the boundary stops here (Table 5-15). -/
def execShotBegin (t : Nat) (lane : Lane) (s : State) : Host.Outcome State Fault Refusal :=
  drillStep t lane (fun d l r op => match op with
    | .shotBegin _ _ _ =>
      if r.run != .between then d
      else if r.stopAtBoundary then (d.setDrill l (r.rest .stopped)).put (Obj.laneRun l) 0 |>.leaveGroup l
      else d.setDrill l { r with run := .atJoin }
    | _ => d) s

/-- SHOT_JOIN (R115): the shot begins when every counted member stands at the join and the origin is known. -/
def execShotJoin (t : Nat) (group : Fin 576) (s : State) : Host.Outcome State Fault Refusal :=
  devStep t (fun _ d => d.join group.val) s

/-- Stamp of a job's last granule. -/
def PlayJob.lastStamp (j : PlayJob) : Nat := j.tsOrigin + 64 * (j.start + (j.length - 1))
/-- A granule of a shot marked Last when it carries the stamp. -/
def Granule.markLast (shot stamp : Nat) (g : Granule) : Granule := if g.shot = shot && g.stamp = stamp then { g with last := true } else g
/-- An alternate slot's granules marked Last where they carry the stamp. -/
def AltSlot.markLast (shot stamp : Nat) (a : AltSlot) : AltSlot := { a with granules := a.granules.map (Granule.markLast shot stamp) }
/-- Stamp of the last granule a lane has issued of a shot and not yet played out, wherever it waits. -/
def Dev.lastIssued (d : Dev) (l shot : Nat) : Option Nat :=
  let c := d.chain l
  let slots := (c.alt0.toList ++ c.alt1.toList).map AltSlot.granules
  let held := (c.flight ++ c.furrow ++ slots.flatten ++ c.last.toList).filter (fun g => g.shot = shot)
  let stamps := ((d.drill l).ready.filter (fun j => j.shot = shot)).map PlayJob.lastStamp ++ held.map Granule.stamp
  stamps.max?
/-- The last granule the drill has issued before `shot.end` carries Last (Table 4-1), wherever it waits: at the issue port, on its way, in
the furrow or an alternate slot, or at the DAC. -/
def Dev.markLast (d : Dev) (l shot : Nat) : Dev :=
  match d.lastIssued l shot with
  | none => d
  | some stamp =>
    let r := d.drill l
    let c := d.chain l
    let mark := Granule.markLast shot stamp
    (d.setDrill l { r with ready := r.ready.map (fun j => if j.shot = shot && j.lastStamp = stamp then { j with last := true } else j) }).setChain l
      { c with flight := c.flight.map mark, furrow := c.furrow.map mark, last := c.last.map mark
               alt0 := c.alt0.map (AltSlot.markLast shot stamp), alt1 := c.alt1.map (AltSlot.markLast shot stamp) }

/-- SHOT_END (R115, R134, R135): the lane's part of the shot ends at max(*c*, *b*), which the horizon lets the drill reach (R117): latches
empty, the watch disarms, a segment ends. In shadow state the drill waits for confirmation (R217). -/
def execShotEnd (t : Nat) (lane : Lane) (s : State) : Host.Outcome State Fault Refusal :=
  drillStep t lane (fun d l r op => match op with
    | .shotEnd =>
      if r.run != .inShot || r.alt.isSome || !(d.reached l (max r.cursor r.busy)) || d.endWaits l (max r.cursor r.busy) then d
      else if r.shadow.isSome then d.setDrill l { r with run := .waitConfirm }
      else
        let g := d.groupOf l
        let shot := d.shotNo l
        let c := max r.cursor r.busy
        let stop := d.cursorTime l c
        let cut := d.cutoff l c
        let d := d.markLast l shot
        let d := d.segmentCommits l stop cut
        let r := d.drill l
        let armed := match r.watch with
          | some w => if w.mask = 0 || w.negate then none else some (w.channel, w.armTime, cut)
          | none => none
        let late := r.watch.any (fun w => w.mask != 0 && !w.negate && (SMap.find r.latches w.channel).any (fun e => w.armTime ≤ e.tick && e.past cut))
        let d := if late then d.bump (Obj.laneLateJumps l) else d
        let d := d.setDrill l
          { r.step with run := .between, latches := [], watch := none, timeoutFlag := r.timeoutFlag, loops := r.loops
                        segDue := false, streamCur := r.streamNext, shotEnd := stop, tail := if late then none else armed }
        let x := d.group g
        (d.setGroup g { x with ended := x.ended ++ [(l, stop)] }).endShotIfDone g
    | _ => d) s

/-! ### Starting and stopping a lane (Table 5-15) -/

/-- A lane starts at its program's entry: all latches empty (R135), the stream buffer empty (R153). A lane started while its group runs is a
running member from its start and joins at the next join (R115). -/
def Dev.startLane (d : Dev) (l : Nat) : Dev :=
  let r := d.drill l
  let d := (d.setDrill l { r.emptyStream.rest .between with pc := r.entry, cursor := 0, busy := 0, muteFrom := none, shotEnd := 0, tail := none, passed := 0 }).dropRefill l
  let g := d.groupOf l
  let x := d.group g
  let d := d.setGroup g
    { x with members := if x.inShot then x.members else (x.members.filter (fun m => m != l)) ++ [l]
             started := x.started && !(d.runningMembers g).all (fun m => m = l) }
  d.put (Obj.laneRun l) 1

/-- LaneState (Table 5-15), confirmed state only (R23). DESIGN CHOICE: a lane muted to shot end while it walks a table reads 6, not the 4 of R170
(log entry 31). -/
def Dev.laneState (d : Dev) (l : Nat) : Nat :=
  let r := d.drill l
  if d.val (Obj.stripState (stripOf l)) != 0 then 7
  else match r.run with
  | .stopped => 0
  | .halted => 5
  | .between => 8
  | .atJoin => 1
  | .waitOrigin => 3
  | .waitSync => if r.muteFrom.isSome then 6 else 3
  | .inShot | .waitBranch | .waitConfirm | .waitAlt => if r.muteFrom.isSome then 6 else if r.seg.isSome then 4 else 2

end Sys2Proof.Machine
end

