-- ==== Sys2Proof/Machine/Furrow.lean ====
section
/-! DEFINITION. The strip's issue port, the furrow, the converter chain, frame records and markers (chapters 4 and 6). -/

namespace Sys2Proof.Machine

/-! ### Issue (R98) -/

/-- Stamp of the next granule of a job (R111). -/
def PlayJob.stamp (j : PlayJob) : Nat := j.tsOrigin + 64 * (j.start + j.next)
/-- Release tick of a stamp on a lane (R89). -/
def releaseTick (l stamp : Nat) : Nat := stamp - Config.pipelineTicks l

/-- Place of a job's next granule in the lane's streamed sequence (R153). -/
def PlayJob.place (j : PlayJob) : Nat := j.streamAt + j.next
/-- The job at a lane's head, when its granule may be issued now: inside the horizon (R117), and in the stream buffer when it
is streamed (R154). -/
def Dev.issuable (d : Dev) (l : Nat) : Option PlayJob :=
  let r := d.drill l
  match r.ready with
  | j :: _ =>
    if j.stamp ≤ d.now + d.val (Obj.laneHorizon l) && (!j.streamed || j.place < r.streamPos) then some j else none
  | [] => none

/-- A lane's standing at the port: lane, urgent, grants it has waited, release tick. -/
structure Claim where
  lane : Nat
  urgent : Bool
  passed : Nat
  release : Nat
deriving DecidableEq, Repr

/-- The claims at a strip's port, lanes rising. -/
def Dev.claims (d : Dev) (k : Nat) : List Claim :=
  (stripLanes k).filterMap (fun l => (d.issuable l).map (fun j =>
    { lane := l, urgent := j.urgent, passed := (d.drill l).passed, release := releaseTick l j.stamp }))

/-- The claim with the earliest release tick; ties go to the lowest lane. -/
def leastLead : List Claim → Option Claim
  | [] => none
  | c :: cs => match leastLead cs with
    | none => some c
    | some m => if m.release < c.release then some m else some c

/-- Grants to other drills that a drill may still wait for under the floor of R98. -/
def Claim.slack (c : Claim) : Nat := 7 - c.passed
/-- The drills the floor makes the port choose from: the tightest set of `m + 1` that have to be served within the next `m + 1` grants; all
of them while no set is that tight. -/
def tightClaims (cs : List Claim) : List Claim :=
  match (List.range 8).find? (fun m => m < (cs.filter (fun c => c.slack ≤ m)).length) with
  | some m => cs.filter (fun c => c.slack ≤ m)
  | none => cs

/-- Who is granted (R98): an urgent granule; else the least lead among the drills that the floor leaves to choose from, so that none waits
for more than seven grants to others. DESIGN CHOICE: several urgent registers are drained lowest lane first, and urgent grants are not held
back for the floor (log entry 28). -/
def chooseClaim (cs : List Claim) : Option Claim :=
  match cs.find? (fun c => c.urgent) with
  | some c => some c
  | none => leastLead (tightClaims cs)

/-- The plain data of a job's waveform: resident data, or what DDR5 holds for a streamed entry (R142, R153). -/
def Dev.waveData (d : Dev) (m : Mem) (e : LibEntry) : List Byte :=
  if e.stream then m.bytes (d.regionAddr e.region e.offset) (18 * e.length) else e.data

/-- Whether streamed granule `i` breaks its entry's energy figures (R145). -/
def streamBreach (e : LibEntry) (data : List Byte) (i : Nat) : Bool :=
  e.peak < granuleSum data i || e.energySum < ((List.range (i + 1)).map (granuleSum data)).sum

/-- Whether a span reservation stands at a lane's position (R243). -/
def Dev.spanAt (d : Dev) (l stamp : Nat) : Bool := d.standing.any (fun r => r.lane = l && r.span.isSome && r.stamp = stamp)

/-- Whether a place of the streamed sequence lies in a block that could not be read (R323). -/
def Drill.streamLost (r : Drill) (p : Nat) : Bool := r.streamBad.any (fun b => b.1 ≤ p && p < b.1 + b.2)
/-- The place of the streamed sequence that the lane needs next. -/
def Drill.streamWant (r : Drill) : Nat := ((r.ready.find? (fun j => j.streamed)).map PlayJob.place).getD r.streamCur
/-- The rest of a shot's streamed sequence dropped: refill goes on with the next shot's, whose blocks already fetched stay (R154). -/
def Dev.dropStream (d : Dev) (l shot : Nat) : Dev :=
  let r := d.drill l
  let r := { r with streamCur := if d.drillIn l shot then r.streamNext else r.streamCur }
  if r.streamPos < r.streamWant then (d.setDrill l { r with streamPos := r.streamWant, streamEarly := [] }).dropRefill l else d.setDrill l r

/-- The reason of a late granule or request that carries a reason code (R92, R218, R223). -/
def lateReason (why : Nat) : Reason :=
  if why = 7 then .misprediction else if why = 8 then .speculationMissed else if why = 9 then .speculationRefused else .lateGranule
/-- A late granule (R92): counted, its stamp kept, the lane muted to shot end and the shot spoiled. A streamed one drops the rest
of the shot's sequence (R154). -/
def Dev.lateGranule (d : Dev) (l : Nat) (shot stamp why : Nat) (streamed : Bool) : Dev :=
  let d := d.bump (Obj.stripLateGranules (l / 8) (l % 8))
  let d := d.put (Obj.stripLateTime (l / 8) (l % 8)) stamp
  let d := (d.mute l shot stamp).spoilShot (d.groupOf l) shot (lateReason why) stamp l
  if streamed then (d.dropStream l shot).bump (Obj.laneStreamLate l) else d
/-- A streamed granule that breaks its entry's energy figures (R145, R246). It breaks no ceiling: DESIGN CHOICE, EnergyLastRefusal names
window 0 and limit 0 (log entry 15). -/
def Dev.metaRefusal (d : Dev) (l shot stamp : Nat) : Dev :=
  (d.refuseStaging l shot stamp 0 0).bump (Obj.laneEnergyMetaErrors l)
/-- A streamed granule that cannot be issued, unreadable (R323) or against its entry's figures (R145): in a slot that is not confirmed yet it
shows nowhere until the slot is (R23, R225). -/
def Dev.badGranule (d : Dev) (l : Nat) (j : PlayJob) (breach : Bool) : Dev :=
  let c := d.chain l
  match j.altSlot.bind (fun k => (c.alt k).map (fun a => (k, a))) with
  | some (k, a) =>
    if a.selected then (if breach then d.metaRefusal l j.shot j.stamp else d.lateGranule l j.shot j.stamp j.why true)
    else d.setChain l (c.setAlt k (some { a with lost := a.lost ++ [(j.stamp, breach)] }))
  | none => if breach then d.metaRefusal l j.shot j.stamp else d.lateGranule l j.shot j.stamp j.why true

/-- One granule granted and sent to the converter die, or refused (R98, R145, R241, R246). -/
def Dev.issueOne (d : Dev) (m : Mem) (l : Nat) (j : PlayJob) : Dev :=
  let r := d.drill l
  let rest := if j.next + 1 < j.length then { j with next := j.next + 1, urgent := j.urgent && j.altSlot.isSome } :: r.ready.drop 1 else r.ready.drop 1
  let d := d.setDrill l { r with ready := rest, passed := 0 }
  let stamp := j.stamp
  let e := r.entryOf j.waveform
  let data := d.waveData m e
  let est := estimate e.peak j.amplitude (d.laneAt l (Obj.laneDigitalGain l) stamp)
  if j.streamed && r.streamLost j.place then d.badGranule l j false
  else if j.streamed && streamBreach e data j.next then d.badGranule l j true
  else
    let (d, breach) := if j.reserved || d.spanAt l stamp then (d, none) else d.reserve l [(stamp, est)] none
    match breach with
    | some (w, lim) => d.refuseStaging l j.shot stamp w lim
    | none =>
      let g : Granule :=
        { stamp := stamp, first := j.first && j.next = 0, last := j.last && j.next + 1 = j.length, shotTag := j.shot % 16
          streamed := j.streamed, phase := j.phase, frame := j.frame
          samples := (granuleSamples data j.next).map (scaleSample j.amplitude), allowance := est, shot := j.shot
          urgent := j.urgent, altSlot := j.altSlot, reserved := j.reserved, seg := if j.next = 0 then j.seg else none, why := j.why }
      let c := d.chain l
      d.setChain l { c with flight := c.flight ++ [g] }

/-- ISSUE_GRANT (R98): the port serves one granule; the other drills with one ready count the grant. `dupOk` is the outcome of
the governor's duplicate arithmetic (R253). -/
def execIssueGrant (t : Nat) (strip : Strip) (dupOk : Bool) (s : State) : Host.Outcome State Fault Refusal :=
  devStep t (fun m d =>
    if d.val (Obj.stripState strip.val) != 0 then d
    else
      let cs := d.claims strip.val
      match chooseClaim cs with
      | none => d
      | some c =>
        let d := cs.foldl (fun e o =>
          if o.lane = c.lane then e else e.setDrill o.lane { e.drill o.lane with passed := (e.drill o.lane).passed + 1 }) d
        match d.issuable c.lane with
        | some j => let d := d.issueOne m c.lane j; if dupOk then d else d.raise 0 true
        | none => d) s

/-! ### Arrival (R91, R92) -/

/-- Whether a lane discards a granule as muted (R92). -/
def Chain.discards (c : Chain) (g : Granule) : Bool :=
  c.muteFrom.any (fun f => f ≤ g.stamp) && (g.shot ≤ c.muteShot)

/-- The granule at the head of the crossing reaches the furrow or its alternate slot. -/
def Dev.arriveGranule (d : Dev) (l : Nat) : Dev :=
  let c := d.chain l
  match c.flight with
  | [] => d
  | g :: rest =>
    if c.discards g then (d.setChain l { c with flight := rest }).freeResv l g.stamp (g.stamp + 1)
    else
      let c := if c.muteFrom.isSome && c.muteShot < g.shot && g.first then { c with muteFrom := none } else c
      match g.altSlot with
      | some k =>
        let slot := (c.alt k).map (fun a =>
          if d.now + 2 ≤ a.releaseStamp - 40 then { a with granules := a.granules ++ [g] } else a)
        d.setChain l ({ c with flight := rest }.setAlt k slot)
      | none =>
        let rel := releaseTick l g.stamp
        let broken := c.lastStamp.any (fun s => g.stamp < s + 64)
        if 128 ≤ c.furrow.length then d
        else if d.now + 2 ≤ rel && !broken then
          d.setChain l
            { c with flight := rest, furrow := c.furrow ++ [g], lastStamp := some g.stamp
                     leads := SMap.set c.leads g.stamp ((rel - d.now) / 64) }
        else (d.setChain l { c with flight := rest }).lateGranule l g.shot g.stamp g.why g.streamed

/-- The first waiting request of a kind, and the others. -/
def takeTimed (p : Timed → Bool) : List Sent → Option (Sent × List Sent)
  | [] => none
  | x :: xs => if p x.req then some (x, xs) else (takeTimed p xs).map (fun q => (q.1, x :: q.2))

/-- A late request is not carried out and is handled as a late granule with its stamp (R92, R126; log entry 13). -/
def Dev.lateRequest (d : Dev) (l stamp why : Nat) : Dev := d.lateGranule l (d.shotAt l stamp) stamp why false

/-- A marker or event request (R163): on time against the release tick of a granule with its stamp. -/
def Dev.arriveMarker (d : Dev) (l : Nat) : Dev :=
  let c := d.chain l
  match takeTimed (fun x => match x with | .pin .. => true | .event .. => true | _ => false) c.timed with
  | none => d
  | some (⟨x, why⟩, rest) =>
    let stamp := match x with | .pin _ _ _ s => s | .event _ s => s | _ => 0
    let d := d.setChain l { c with timed := rest }
    if d.now + 2 ≤ releaseTick l stamp then
      let c := d.chain l
      d.setChain l { c with markers := c.markers ++ [x] }
    else d.lateRequest l stamp why

/-- Effect time of a frame record, and whether a commit made it. -/
def Timed.effect : Timed → Nat × Bool
  | .frame _ _ _ e c => (e, c)
  | _ => (0, false)
/-- A frame record into the queue: effect-time order, a commit before an instruction at equal times (R157). -/
def insertFrame (x : Timed) : List Timed → List Timed
  | [] => [x]
  | y :: ys =>
    if x.effect.1 < y.effect.1 || (x.effect.1 = y.effect.1 && x.effect.2 && !y.effect.2) then x :: y :: ys
    else y :: insertFrame x ys

/-- Granules of the lane that wait and will be released: those in the furrow, and those in an alternate slot that is chosen, by stamp and
release tick (R89, R215). -/
def Chain.waiting (c : Chain) (l : Nat) : List (Nat × Nat) :=
  let slots := ((c.alt0.toList ++ c.alt1.toList).filter (fun a => a.selected || a.playing)).map AltSlot.granules
  c.furrow.map (fun g => (g.stamp, releaseTick l g.stamp)) ++ slots.flatten.map (fun g => (g.stamp, g.stamp - 40))
/-- Release tick of the lane's first waiting granule stamped at or after a time (R157, R158). -/
def Chain.firstRelease (c : Chain) (l e : Nat) : Option Nat :=
  let later := (c.waiting l).filter (fun p => e ≤ p.1)
  ((later.map Prod.fst).min?).bind (fun s => (later.find? (fun p => p.1 = s)).map Prod.snd)

/-- Whether a frame record comes late (R158): less than 2 ticks before the release tick of the first granule stamped at or after its effect
time, which may wait in the furrow or be released already. A commit's record never does. -/
def Chain.frameLate (c : Chain) (l now : Nat) (x : Timed) : Bool :=
  !x.effect.2 && ((c.firstRelease l x.effect.1).any (fun r => r < now + 2) || c.last.any (fun g => x.effect.1 ≤ g.stamp))
/-- A frame record reaches the converter die's queue of 16 (R157, R158); a late one is handled as a late granule. -/
def Dev.arriveFrame (d : Dev) (l : Nat) : Dev :=
  let c := d.chain l
  match takeTimed (fun x => match x with | .frame .. => true | _ => false) c.timed with
  | none => d
  | some (⟨x, why⟩, rest) =>
    if 16 ≤ c.frameQ.length then d
    else
      let late := c.frameLate l d.now x
      let d := d.setChain l { c with timed := rest, frameQ := if late then c.frameQ else insertFrame x c.frameQ }
      if late then d.lateRequest l x.effect.1 why else d

/-! ### Frame registers (R155–R159) -/

/-- A frame record applied to the frame registers, which the frame objects read (R159). -/
def Dev.applyFrame (d : Dev) (l : Nat) : Timed → Dev
  | .frame what f v _ _ =>
    if what = 0 then d.put (Obj.laneFrameFreq l f) v
    else if what = 1 then d.put (Obj.laneFramePhase l f) v
    else if what = 2 then d.put (Obj.laneFramePhase l f) (wrap 24 (d.val (Obj.laneFramePhase l f) + v))
    else if what = 3 then d.put (Obj.laneFrameOrigin l f) v
    else if what = 4 then d.put (Obj.laneDigitalGain l) v
    else d.put (Obj.laneSegMarker l) v
  | _ => d

/-- Every record with an effect time at or before a stamp applied, in order (R157). -/
def Dev.applyFramesTo (d : Dev) (l stamp : Nat) : Dev :=
  let c := d.chain l
  let due := c.frameQ.filter (fun x => x.effect.1 ≤ stamp)
  let d := d.setChain l { c with frameQ := c.frameQ.filter (fun x => stamp < x.effect.1) }
  due.foldl (fun e x => e.applyFrame l x) d

/-- FRAME_RECORD_APPLY (R157): the oldest record is applied at the earlier of its effect time and the release tick of the first
granule stamped at or after it. -/
def execFrameRecordApply (t : Nat) (lane : Lane) (s : State) : Host.Outcome State Fault Refusal :=
  devStep t (fun _ d =>
    let l := lane.val
    let c := d.chain l
    match c.frameQ with
    | [] => d
    | x :: rest =>
      if x.effect.1 ≤ d.now || (c.firstRelease l x.effect.1).any (fun r => r ≤ d.now) then
        (d.setChain l { c with frameQ := rest }).applyFrame l x
      else d) s

/-! ### The converter chain (R150, Table 6-3) -/

/-- A stage's value with whether it saturated. -/
def satFlag (w : Nat) (x : Int) : Int × Bool := (satI w x, satI w x != x)

/-- The phase word θ of a sample at tick `t` (R155). -/
def phaseWord (f pf pp org t : Nat) : Nat := (((f : Int) * ((t : Int) - (org : Int)) + ((pf + pp) * 2 ^ 24 : Nat)) % (2 ^ 48 : Nat)).toNat

/-- One DAC code from interpolated I and Q (Table 6-3): rotation, digital gain, requantisation; and whether a stage saturated. -/
def dacCode (i q : Int) (theta gain : Nat) : Int × Bool :=
  let th := phase20 theta
  let y := satFlag 18 (rnd (i * cos18 th - q * sin18 th) 17)
  let z := satFlag 18 (rnd (y.1 * (gain : Int)) 15)
  let v := satFlag 14 (rnd z.1 4)
  (v.1, y.2 || z.2 || v.2)

/-- The 16 interpolated samples after an envelope sample (Table 6-3): zero where the samples the filter holds are all zero. -/
def interpOut (hist : List Int) : List Int := if hist.all (fun x => x = 0) then List.replicate 16 0 else interpolate hist

/-- The codes of up to `n` ticks from a start, for four envelope samples in time order. -/
def chainCodes (hist : List (Int × Int)) (samples : List (Int × Int)) (frame : Nat × Nat × Nat) (pp gain start n : Nat) :
    List (Int × Bool) × List (Int × Int) :=
  let step := fun (acc : List (Int × Bool) × List (Int × Int) × Nat) (x : Int × Int) =>
    let h := (x :: acc.2.1).take envelopeSpan
    let iq := (interpOut (h.map Prod.fst)).zip (interpOut (h.map Prod.snd))
    let codes := (iq.zip (List.range 16)).map (fun p =>
      dacCode p.1.1 p.1.2 (phaseWord frame.1 frame.2.1 pp frame.2.2 (start + acc.2.2 + p.2)) gain)
    (acc.1 ++ codes, h, acc.2.2 + 16)
  let r := samples.foldl step ([], hist, 0)
  (r.1.take n, r.2.1)

/-- The codes with the first that would pass the allowance, and every later one, replaced by zero (R244): codes, sum, breached. -/
def applyAllowance (room : Nat) : List Int → List Int × Nat × Bool
  | [] => ([], 0, false)
  | c :: cs =>
    let e := (c * c).toNat
    if room < e then ((c :: cs).map (fun _ => 0), 0, true)
    else let r := applyAllowance (room - e) cs; (c :: r.1, e + r.2.1, r.2.2)

/-- One energy interval of a lane leaves the DAC: its codes, its sum for the governor (R162), its allowance (R244). Saturation counts once
for the granule (R152). Once a granule of the shot has been refused at release, the lane's samples are zero until a later shot (R244). -/
def Dev.interval (d : Dev) (l : Nat) (g : Granule) (samples : List (Int × Int)) (start n : Nat) : Dev :=
  let c := d.chain l
  let r := chainCodes c.history samples c.lastFrame g.phase c.lastGain start n
  let a := if c.breach = some g.shot then (r.1.map (fun _ => 0), 0, false) else applyAllowance (g.allowance - c.used) (r.1.map Prod.fst)
  let d := d.setChain l { c with history := r.2, used := c.used + a.2.1, satDone := c.satDone || r.1.any Prod.snd
                                 breach := if a.2.2 then some g.shot else c.breach
                                 sums := c.sums ++ [(start, a.2.1, d.val (Obj.laneFullScale l))], nextInterval := start + 64 }
  let d := (d.dieSum l start a.2.1).emit (.aout l start a.1)
  let d := if r.1.any Prod.snd && !c.satDone then d.bump (Obj.laneSatCount l) else d
  if a.2.2 then
    (d.mute l g.shot (start + 64)).energyRefusal l g.shot g.stamp true 3 0
  else d

/-- The zero samples that reach the interpolator in a gap of so many ticks, one every 16 (R90). -/
def zeroSamples (n : Nat) : List (Int × Int) := List.replicate (ceilDiv n 16) (0, 0)

/-- Intervals of 64 ticks in which the filter's envelope samples leave it, one every 16 ticks. -/
def tailIntervals : Nat := envelopeSpan / 4
/-- The interpolation tail of the lane's last granule up to a stamp: while the filter holds a sample other than 0 (R152, R162; log entry 14). -/
def Dev.tailTo (d : Dev) (l stamp : Nat) : Dev :=
  (List.range tailIntervals).foldl (fun e _ =>
    let c := e.chain l
    match c.last with
    | some g =>
      if c.nextInterval < stamp && c.history.any (fun x => x.1 != 0 || x.2 != 0) then
        let n := min 64 (stamp - c.nextInterval)
        e.interval l g (zeroSamples n) c.nextInterval n
      else e
    | none => e) d
/-- The whole tail intervals that have left the DAC by now, while no further granule has come (R162). -/
def Dev.runTail (d : Dev) (l : Nat) : Dev :=
  let next := (d.chain l).nextInterval
  d.tailTo l (next + 64 * ((d.now - next) / 64))
/-- The tail intervals that have begun by now: they keep the LaneFullScale they began with (R236). -/
def Dev.flushTail (d : Dev) (l : Nat) : Dev :=
  let next := (d.chain l).nextInterval
  d.tailTo l (next + 64 * ceilDiv (d.now - next) 64)

/-- A granule enters the chain at its stamp: its frame's values, its tail rules, its interval (R155, R162). -/
def Dev.enterChain (d : Dev) (l : Nat) (g : Granule) : Dev :=
  let d := d.tailTo l g.stamp
  let d := d.applyFramesTo l g.stamp
  let c := d.chain l
  let frame := (d.val (Obj.laneFrameFreq l g.frame), d.val (Obj.laneFramePhase l g.frame), d.val (Obj.laneFrameOrigin l g.frame))
  let hist := if c.nextInterval + 64 * tailIntervals < g.stamp then [] else c.history
  let d := d.setChain l
    { c with last := some g, lastFrame := frame, lastGain := d.val (Obj.laneDigitalGain l), used := 0, satDone := false, history := hist
             breach := c.breach.filter (fun s => g.shot ≤ s) }
  d.interval l g g.samples g.stamp 64

/-- GRANULE_RELEASE (R89): at its release tick, and at no other, the head granule goes to the chain while RF is enabled. While the
reference is lost the furrow is muted and the granule goes nowhere (Table 3-2). -/
def execGranuleRelease (t : Nat) (lane : Lane) (s : State) : Host.Outcome State Fault Refusal :=
  devStep t (fun _ d =>
    let l := lane.val
    let c := d.chain l
    match c.furrow with
    | [] => d
    | g :: rest =>
      if d.now != releaseTick l g.stamp || !(d.flag Obj.devRfEnable) then d
      else
        let lead := SMap.look c.leads g.stamp 255
        let d := d.setChain l { c with furrow := rest, leads := SMap.del c.leads g.stamp, leadMin := SMap.set c.leadMin g.shot (min (SMap.look c.leadMin g.shot 255) lead) }
        let d := match g.seg with
          | some i => d.put (Obj.laneSegEntry l) i
          | none => d
        if d.val Obj.timeRefState != 0 then d else d.enterChain l g) s

/-- ENERGY_INTERVAL_SUM (R162, R245, R253): the lane's tail runs on, and the oldest release sum its converter die has measured reaches the
governor and is charged. With a W₁ bucket's last sum the die's total of the bucket is compared with the charges. `checkOk` is the outcome of
the duplicate arithmetic here and in the checks of spans since, which no other command carries: a mismatch of either raises the Grave
self-check fault (log entry 15). -/
def execEnergyIntervalSum (t : Nat) (lane : Lane) (checkOk : Bool) (s : State) : Host.Outcome State Fault Refusal :=
  devStep t (fun _ d =>
    let l := lane.val
    let d := d.runTail l
    let c := d.chain l
    match c.sums with
    | [] => d
    | (start, code, k) :: rest =>
      let d := (d.setChain l { c with sums := rest }).charge l start code k
      let b := start / bucketTicks 1
      let whole := rest.all (fun x => x.1 / bucketTicks 1 != b)
      if checkOk && (!whole || d.totalsAgree l b) then d else d.raise 0 true) s

/-! ### Markers (R125, R163) -/

/-- The level a MARK ball shows: the OR of every active pulse and its set level (R125). -/
def Dev.pinLevel (d : Dev) (p now : Nat) : Bool :=
  d.pulses.any (fun q => q.1 = p && now < q.2) || (SMap.look d.pinSets p (false, 0)).1

/-- A pin brought to the level its pulses and set levels give. -/
def Dev.drivePin (d : Dev) (p time : Nat) : Dev := d.setPin p (d.pinLevel p time) time

/-- One marker request carried out at its stamp: a pulse of at least 10 ticks, a set, a clear that no set with its
stamp outlasts, or an event. The pin itself follows from
the instant's requests together (`Dev.markInstant`). -/
def Dev.carryMarker (d : Dev) : Timed → Dev
  | .pin p action width stamp =>
    if action = 0 then { d with pulses := d.pulses ++ [(p, stamp + max width 10)] }
    else if action = 1 then { d with pinSets := SMap.set d.pinSets p (true, stamp) }
    else if SMap.find d.pinSets p = some (true, stamp) then d
    else { d with pinSets := SMap.set d.pinSets p (false, 0) }
  | .event ch stamp => d.fire ch stamp
  | _ => d

/-- Whether a marker request's stamp has come. -/
def Timed.due (now : Nat) : Timed → Bool
  | .pin _ _ _ s => s ≤ now
  | .event _ s => s ≤ now
  | _ => false
/-- Whether a request clears a pin: with equal stamps a set outlasts a clear (R125). -/
def Timed.isClear : Timed → Bool
  | .pin _ a _ _ => a = 2
  | _ => false

/-- The instant a marker request acts at, and the pin it names. -/
def Timed.stampOf : Timed → Nat
  | .pin _ _ _ s => s
  | .event _ s => s
  | _ => 0
/-- The pin a marker request names. -/
def Timed.pinOf : Timed → Option Nat
  | .pin p _ _ _ => some p
  | _ => none

/-- A time put into a rising list without repeats. -/
def insertTime (x : Nat) : List Nat → List Nat
  | [] => [x]
  | y :: ys => if x < y then x :: y :: ys else if x = y then y :: ys else y :: insertTime x ys

/-- One instant of a lane's markers: pulses that have ended fall, clears and then sets and pulses are carried out, and each pin named
takes the level that results, once (R125). -/
def Dev.markInstant (d : Dev) (due : List Timed) (time : Nat) : Dev :=
  let here := due.filter (fun x => x.stampOf = time)
  let ended := d.pulses.filter (fun q => q.2 ≤ time)
  let d := { d with pulses := d.pulses.filter (fun q => time < q.2) }
  let d := (here.filter Timed.isClear ++ here.filter (fun x => !x.isClear)).foldl (fun e x => e.carryMarker x) d
  (ended.map Prod.fst ++ here.filterMap Timed.pinOf).foldl (fun e p => e.drivePin p time) d

/-- MARKER_RELEASE (R163): the instants that have come, ends of pulses and the lane's stamps, are carried out in order of time, clears
before sets. While the reference is lost every ball is low and no request is carried out (Table 3-2). -/
def execMarkerRelease (t : Nat) (lane : Lane) (s : State) : Host.Outcome State Fault Refusal :=
  devStep t (fun _ d =>
    let l := lane.val
    let c := d.chain l
    let due := c.markers.filter (Timed.due d.now)
    let d := d.setChain l { c with markers := c.markers.filter (fun x => !(x.due d.now)) }
    if d.val Obj.timeRefState != 0 || d.faults.safe != 0 then d
    else
      let ends := (d.pulses.map Prod.snd).filter (· ≤ d.now)
      let times := (ends ++ due.map Timed.stampOf).foldl (fun ts x => insertTime x ts) []
      times.foldl (fun e x => e.markInstant due x) d) s

/-- DAC_OUTPUT_SETTLED (R160): a lane's output has settled, so its first join may complete. -/
def execDacOutputSettled (t : Nat) (lane : Lane) (s : State) : Host.Outcome State Fault Refusal :=
  devStep t (fun _ d =>
    let c := d.chain lane.val
    d.setChain lane.val { c with settleAt := min c.settleAt d.now }) s

end Sys2Proof.Machine
end

