-- ==== Sys2Proof/Machine/Fabric.lean ====
section
/-! DEFINITION. The verdict fabric (R202–R211): what feeds a source, items that reach the fabric, combiner cells, correction
tables, verdict producers and exports. -/

namespace Sys2Proof.Machine

/-! ### Items a source waits for -/

/-- The latest item of a source on the fabric by now, of a finality, for a window end (R203). -/
def Dev.itemFor (d : Dev) (fid : Nat) (final : Bool) (windowEnd : Nat) : Option Item :=
  d.items.find? (fun i => i.id = fid && i.final = final && i.windowEnd = windowEnd && i.time ≤ d.now)

/-! ### Verdict frames sent (R231, R383) -/

/-- Payload of a verdict frame (Table 16-5). -/
def verdictPayload (windowEnd shot : Nat) (entries : List (Nat × Nat)) : List Byte :=
  leBytes 8 windowEnd ++ leBytes 4 shot ++ (entries.map (fun e => leBytes 4 (e.1 + e.2))).flatten
/-- Bits [31:11] of an item's entry. -/
def entryBits (i : Item) : Nat := if i.void then 2048 else i.value * 2 ^ 16
/-- Position of a fabric ID on a port's export list. -/
def Dev.exportPos (d : Dev) (p fid : Nat) : Option Nat := (List.range 32).find? (fun j => d.val (Obj.fbExport p j) = fid)
/-- In outputs taken newest first, the newest verdict frame of a port replaced by a longer build of the same frame. -/
def reviseFrame (p : Nat) (payload : List Byte) : List Output → List Output
  | [] => []
  | x :: rest => match x with
    | .frame q 1 seq _ => if q = p then .frame q 1 seq payload :: rest else x :: reviseFrame p payload rest
    | _ => x :: reviseFrame p payload rest
/-- A new verdict frame begun on a port; one with more than 6 stripes to wait for is counted (R383). -/
def Dev.beginFrame (d : Dev) (p : Nat) (i : Item) (per : Nat) : Dev :=
  let x := d.port p
  let ahead := ceilDiv (x.verdictUntil - 10 * d.now) per
  let own := frameStripes 16
  let excess := 6 < own + ahead
  let b : FrameBuild :=
    { start := d.now, windowEnd := i.windowEnd, shot := i.shot, entries := [(i.id, entryBits i)], ahead := ahead, counted := excess }
  let d := d.setPort p { x with build := some b, verdictUntil := max x.verdictUntil (10 * d.now) + own * per }
  let d := d.sendFrame p 1 (verdictPayload i.windowEnd i.shot b.entries)
  if excess then d.bump (Obj.ggVerdictOverBudget p) else d

/-- The verdict frame that waits last on a port replaced by a longer build of the same frame; frames are taken newest first. -/
def reviseWaiting (payload : List Byte) : List (Nat × List Byte) → List (Nat × List Byte)
  | [] => []
  | x :: rest => if x.1 = 1 then (1, payload) :: rest else x :: reviseWaiting payload rest
/-- One final item exported on a port (R231, R383): it joins the frame under build, or begins one. A port at rest or waking keeps the frame
until it is active (Table 16-10). -/
def Dev.exportItem (d : Dev) (p : Nat) (i : Item) : Dev :=
  match d.exportPos p i.id with
  | none => d
  | some pos =>
    if !(d.portActive p) && d.val (Obj.ggPortState p) != 5 && d.val (Obj.ggPortState p) != 6 then d
    else
      let x := d.port p
      let per := stripeTime (d.val (Obj.ggRate p))
      let joins := x.build.any (fun b => b.windowEnd = i.windowEnd && b.shot = i.shot && d.now ≤ b.start + 80)
      match x.build with
      | some b =>
        if joins then
          let at' := fun (e : Nat × Nat) => (d.exportPos p e.1).getD 0
          let entries := b.entries.filter (fun e => at' e < pos) ++ [(i.id, entryBits i)] ++ b.entries.filter (fun e => pos < at' e)
          let old := frameStripes (12 + 4 * b.entries.length)
          let own := frameStripes (12 + 4 * entries.length)
          let excess := 6 < own + b.ahead
          let d := d.setPort p
            { x with build := some { b with entries := entries, counted := b.counted || excess }
                     verdictUntil := x.verdictUntil + (own - old) * per }
          let whole := verdictPayload b.windowEnd b.shot entries
          let y := d.port p
          let d := if y.waiting.any (fun w => w.1 = 1) then d.setPort p { y with waiting := (reviseWaiting whole y.waiting.reverse).reverse }
            else { d with out := (reviseFrame p whole d.out.reverse).reverse }
          if excess && !b.counted then d.bump (Obj.ggVerdictOverBudget p) else d
        else d.beginFrame p i per
      | none => d.beginFrame p i per

/-! ### Items (R203, R204, R406) -/

/-- A verdict producer fires on a final value that its mask matches, with the item's window end (R406). -/
def Dev.verdictProducers (d : Dev) (i : Item) : Dev :=
  (List.range 16).foldl (fun e j =>
    let v := e.val (Obj.evtVerdictProducer j)
    if bit v 27 && bits v 10 0 = i.id && !i.void && (i.value &&& bits v 26 19) = (bits v 18 11 &&& bits v 26 19) then
      e.fire (bits v 34 28) i.windowEnd
    else e) d

/-- Items worth keeping: of a shot still open or in the sheaf's reach, and those of the last 2 µs. -/
def Dev.keepItem (d : Dev) (i : Item) : Bool :=
  d.now ≤ i.time + 20000 || d.groups.any (fun g => g.2.inShot && wrap 32 g.2.shot = i.shot)
    || d.shots.any (fun s => wrap 32 s.shot = i.shot)

/-- Whether an item lies in a sheaf's scope (R297). -/
def inScope (scope : List Nat) (fid : Nat) : Bool :=
  match scope with
  | [_, s, n, c, m, codes, _] =>
    if fid < 1024 then s ≤ fid && fid < s + n else if fid < 1280 then c + 1024 ≤ fid && fid < c + m + 1024 else bit codes (fid - 1280)
  | _ => false
/-- A final item of a shot that is formed after the shot's sheaf has closed is counted (R298), also where the close has not been carried out. -/
def Dev.countLate (d : Dev) (i : Item) : Dev :=
  let late := (d.shots.filter (fun s => s.stop + 10000 < i.time) ++ d.closed).filter (fun s =>
    s.group < 64 && wrap 32 s.shot = i.shot && inScope s.scope i.id)
  late.foldl (fun e s => e.bump (Obj.sheafLateItems s.group)) d

/-- An item reaches the fabric: kept, and when final offered to producers and export lists (R204, R231, R406). -/
def Dev.postItem (d : Dev) (i : Item) : Dev :=
  let d := { d with items := i :: d.items.filter d.keepItem }
  if i.final then
    let d := (d.countLate i).verdictProducers i
    (List.range 4).foldl (fun e p => e.exportItem p i) d
  else d

/-! ### Cells and tables (R205–R211) -/

/-- What a holder forms when an item arrives at an input (R207, R208). -/
inductive Formed where
  | nothing | provisional | final
deriving DecidableEq, Repr

/-- An item at an input of a holder: the new holder, what it forms, from which items, and whether a held final was replaced. -/
def Holder.take (h : Holder) (used : List Nat) (k : Nat) (i : Item) : Holder × Formed × SMap Item × Bool :=
  let excess := i.final && (SMap.find h.held k).isSome
  let held := if i.final then SMap.set h.held k i else h.held
  let recv := SMap.set h.recv k i
  if i.final && used.all (fun j => (SMap.find held j).isSome) then (Holder.init, .final, held, excess)
  else if !h.provDone && used.all (fun j => (SMap.find recv j).isSome) && used.any (fun j => (SMap.find recv j).any (fun x => !x.final))
  then ({ held := held, recv := recv, provDone := true }, .provisional, recv, excess)
  else ({ held := held, recv := recv, provDone := h.provDone }, .nothing, [], excess)

/-- The item with the latest window end among inputs. -/
def latestItem : SMap Item → Option Item
  | [] => none
  | (_, i) :: r => match latestItem r with
    | some j => if i.windowEnd < j.windowEnd then some j else some i
    | none => some i

/-- The output bit of a cell from its inputs' items (R206). -/
def Dev.cellValue (d : Dev) (c : Nat) (used : List Nat) (got : SMap Item) : Nat :=
  let inv := d.val (Obj.cellInvert c)
  let x := fun k => ((SMap.find got k).any (fun i => bit i.value (codeBit (d.cellCode c k)))) != bit inv k
  let f := d.val (Obj.cellFunction c)
  if f = 0 then (used.filter x).length % 2
  else if f = 1 then ofBool (used.all x)
  else if f = 2 then ofBool (used.any x)
  else
    let idx := ((used.filter x).map (fun k => 2 ^ k)).sum
    ofBool (bit (d.val (Obj.cellTruthTable c (idx / 64))) (idx % 64))

/-- An output item formed 6 ns after its latest input (Table 9-1, R211; log entry 15). -/
def Dev.formed (d : Dev) (fid value : Nat) (final : Bool) (got : SMap Item) (time : Nat) : Item :=
  let void := got.any (fun p => p.2.void)
  let last := latestItem got
  { id := fid, value := if void then 0 else value, void := void, final := final
    windowEnd := (last.map Item.windowEnd).getD d.now, shot := (last.map Item.shot).getD 0, time := time, grain := 0, flags := 0, length := 0 }

/-- A cell's output at a table's address bits. -/
def Dev.intoTable (d : Dev) (c j : Nat) (i : Item) : Dev :=
  let n := d.tableBits c
  let used := List.range n
  let (h, what, got, _) := (d.table c).take used j i
  let d := { d with tables := SMap.set d.tables c h }
  let addr := (used.map (fun b => ((SMap.find got b).map (fun x => x.value % 2)).getD 0 * 2 ^ b)).sum
  let code := (Mem.byte (SMap.look d.tableContent c []) addr).toNat
  match what with
  | .nothing => d
  | .provisional => (d.bump (Obj.tableProvIssued c)).postItem (d.formed (1280 + c) code false got i.time)
  | .final =>
    let o := d.formed (1280 + c) code true got i.time
    let d := d.bump64 (Obj.tableLookups c)
    let d := if o.void then d.bump (Obj.tableVoids c) else d
    (d.put (Obj.tableLastCode c) (o.value + 256 * ofBool o.void)).postItem o

/-- A cell's output offered to every table that addresses the cell. -/
def Dev.cellOut (d : Dev) (c : Nat) (i : Item) : Dev :=
  let d := d.postItem i
  (List.range 4).foldl (fun e t =>
    (List.range (e.tableBits t)).foldl (fun e j => if e.tableCell t j = c then e.intoTable t j i else e) e) d

/-- An item at an input of a cell (R206–R209). -/
def Dev.intoCell (d : Dev) (c k : Nat) (i : Item) : Dev :=
  let used := d.cellUsed c
  let (h, what, got, excess) := (d.cell c).take used k i
  let d := { d with cells := SMap.set d.cells c h }
  let d := if excess then d.bump (Obj.cellOverwrites c) else d
  match what with
  | .nothing => d
  | .provisional => (d.bump (Obj.cellProvIssued c)).cellOut c (d.formed (1024 + c) (d.cellValue c used got) false got (i.time + 60))
  | .final =>
    let o := d.formed (1024 + c) (d.cellValue c used got) true got (i.time + 60)
    let d := d.bump64 (Obj.cellOutputs c)
    let d := if o.void then d.bump (Obj.cellVoids c) else d
    (d.put (Obj.cellLastOutput c) (o.value + 2 * ofBool o.void)).cellOut c o

/-- Cells whose inputs are other than all unused, so far as the cell objects list them. -/
def Dev.cellsInUse (d : Dev) : List Nat :=
  ((d.objs.filter (fun p => 0x390004 ≤ p.1 && p.1 < 0x3A0000 && 4 ≤ p.1 % 256 && p.1 % 256 ≤ 0x0B)).map
    (fun p => p.1 / 256 - 0x3900)).eraseDups

/-- An item from a slot or remote register at the fabric and at every cell it feeds (R204, R211). -/
def Dev.sourceItem (d : Dev) (remote : Bool) (n : Nat) (i : Item) : Dev :=
  let d := if remote then d else d.postItem i
  d.cellsInUse.foldl (fun e c =>
    (e.cellUsed c).foldl (fun e k => if codeSource (e.cellCode c k) = (remote, n) then e.intoCell c k i else e) e) d

end Sys2Proof.Machine
end

