-- ==== Sys2Proof/Machine/Decide.lean ====
section
/-! DEFINITION. Decisions (chapter 9): branches, alternates and the Verdict Pending Table; and verdict frames received (R231–R233). -/

namespace Sys2Proof.Machine

/-! ### Paths and their energy (R242) -/

/-- Where a traced path stands: with the watch that may replace its next segment's first instruction (R134). -/
structure Walker where
  pc : Nat
  cursor : Nat
  loops : List LoopEntry
  calls : List CallEntry
  segStart : Nat
  segDue : Bool
  watch : Option (Nat × Nat)

/-- The drill as a traced path takes it up at an address. -/
def Drill.walker (r : Drill) (pc : Nat) (loops : List LoopEntry) : Walker :=
  { pc := pc, cursor := r.cursor, loops := loops, calls := r.calls, segStart := r.segStart, segDue := r.segDue
    watch := r.watch.map (fun w => (w.target, w.pop)) }

/-- Estimate of a `play` of a lane at a cursor position (R240). -/
def Dev.playEstimate (d : Dev) (l c w : Nat) (amp : Int) : Nat :=
  estimate ((d.drill l).entryOf w).peak amp (d.laneAt l (Obj.laneDigitalGain l) (d.cursorTime l c))
/-- Positions and estimates of a `play` at a cursor position, within a span's 16 granules. -/
def Dev.playedAt (d : Dev) (l c w : Nat) (amp : Int) : List (Nat × Nat) :=
  (List.range (min ((d.drill l).entryOf w).length 16)).map (fun k => (c + k, d.playEstimate l (c + k) w amp))

/-- What a table plays before a cursor limit from an entry on, every way its conditions may go, and the cursors at which it returns
(R168). -/
def Dev.traceTable (d : Dev) (l limit : Nat) : Nat → (entry rep cursor : Nat) → List (Nat × Nat) × List Nat
  | 0, _, _, _ => ([], [])
  | fuel + 1, entry, rep, c =>
    let r := d.drill l
    let e := r.segEntry entry
    let on := fun (c : Nat) => if e.last then ([], [c]) else Dev.traceTable d l limit fuel e.next 0 c
    if limit ≤ c then ([], [])
    else if !e.forever && e.rep = 0 then on c
    else
      let c' := c + (r.entryOf e.wave).length
      let ends := !e.forever && e.rep ≤ rep + 1
      let leaves := if ends || e.cond != 0 then on c' else ([], [])
      let again := if ends then ([], []) else Dev.traceTable d l limit fuel entry (rep + 1) c'
      (d.playedAt l c e.wave (tableAmp ((r.table[1]?).getD 0)) ++ leaves.1 ++ again.1, leaves.2 ++ again.2)

/-- Instructions a traced path may take within a span: R119 lets no program of more pass without its cursor moving. -/
def traceFuel : Nat := 4096
/-- Positions and estimates of the granules a path plays before a cursor limit, both ways of each further branch and watch, and each way
through a table (R242). -/
def Dev.tracePath (d : Dev) (l limit : Nat) : Nat → Walker → List (Nat × Nat)
  | 0, _ => []
  | fuel + 1, w =>
    let r := d.drill l
    if limit ≤ w.cursor then []
    else
      let go := Dev.tracePath d l limit fuel
      let begun := fun (sg : Bool) => (sg || w.segDue) && w.segStart < w.cursor
      let seen := fun (sg : Bool) => if sg || w.segDue then { w with segStart := w.cursor, segDue := false } else w
      let jump := fun (sg : Bool) => if begun sg then
          (match w.watch with
            | some (target, pop) => go { w with pc := target, loops := w.loops.drop pop, watch := none, segStart := w.cursor, segDue := false }
            | none => [])
        else []
      match (r.grain w.pc).map decodeGrain with
      | some (.play sg _ h wave amp _ _) =>
        jump sg ++ d.playedAt l w.cursor wave amp ++ go { seen sg with pc := w.pc + 1, cursor := if h then w.cursor else w.cursor + (r.entryOf wave).length }
      | some (.wait sg _ c) => jump sg ++ go { seen sg with pc := w.pc + 1, cursor := w.cursor + c }
      | some (.atC c) => go { w with pc := w.pc + 1, cursor := max w.cursor c }
      | some (.loop forever e c) =>
        if !forever && c = 0 then go { w with pc := e + 1 }
        else go { w with pc := w.pc + 1, loops := { remaining := c, forever := forever, body := w.pc + 1, endAddr := e } :: w.loops }
      | some (.endloop _) =>
        match w.loops with
        | top :: rest =>
          if top.forever || 1 < top.remaining then
            go { w with pc := top.body, loops := { top with remaining := top.remaining - 1 } :: rest }
          else go { w with pc := w.pc + 1, loops := rest }
        | [] => []
      | some (.call target) => go { w with pc := target, calls := { ret := w.pc + 1, depth := w.loops.length } :: w.calls }
      | some .ret => match w.calls with
        | c :: rest => go { w with pc := c.ret, calls := rest }
        | [] => []
      | some (.jump pop target) => go { w with pc := target, loops := w.loops.drop pop }
      | some (.branch _ _ _ _ _ _ pop target) =>
        go { w with pc := w.pc + 1 } ++ go { w with pc := target, loops := w.loops.drop pop }
      | some (.watch _ _ _ _ _ _ pop target) => go { w with pc := w.pc + 1, watch := some (target, pop) }
      | some (.seg first) =>
        let t := d.traceTable l limit 64 first 0 w.cursor
        jump true ++ t.1 ++ (t.2.map (fun c => go { w with pc := w.pc + 1, cursor := c, segStart := c, segDue := false })).flatten
      | some .shotEnd | some .halt | some .bad | some (.sync ..) | some (.altOpen ..) | some (.shotBegin ..) | none => []
      | some _ => go { w with pc := w.pc + 1 }

/-- The larger estimate at each of `n` positions from `c`: stamp and code energy, positions of 0 left out. -/
def Dev.spanItems (d : Dev) (l c n : Nat) (found : List (Nat × Nat)) : List (Nat × Nat) :=
  ((List.range n).map (fun k =>
    (d.cursorTime l (c + k), ((found.filter (fun p => p.1 = c + k)).map Prod.snd).foldl max 0))).filter (fun p => p.2 != 0)

/-- A span's reservation made as a whole (R242): refused, it counts as a refusal of the span's first granule. -/
def Dev.reserveSpan (d : Dev) (l c n : Nat) (found : List (Nat × Nat)) : Dev :=
  match d.reserve l (d.spanItems l c n found) (some (d.cursorTime l c)) with
  | (d, none) => d
  | (d, some (w, lim)) => d.refuseStaging l (d.shotNo l) (d.cursorTime l c) w lim

/-! ### Entries (R217, R222, R223) -/

/-- The number of the lowest free entry. -/
def Dev.freeEntry (d : Dev) : Nat := ((List.range 1024).find? (fun i => (SMap.find d.vpt i).isNone)).getD 1024
/-- Whether an alternate slot of a lane is free (R216). -/
def Dev.altFree (d : Dev) (l k : Nat) : Bool :=
  ((d.chain l).alt k).isNone && !(d.vpt.any (fun p => p.2.lane = l && p.2.slot = k))

/-- A request for an entry with one of some slots (R223): granted with its slot bound, or refused and counted. -/
def Dev.askEntry (d : Dev) (v : VptEntry) (slots : List Nat) : Dev × Option Nat :=
  match slots.find? (d.altFree v.lane) with
  | some k =>
    let i := d.freeEntry
    if d.vptInUse < d.val Obj.devSpeculationLimit && i < 1024 then
      let d := { d with vpt := SMap.set d.vpt i { v with slot := k } }
      let slot : AltSlot :=
        { granules := [], releaseStamp := v.release + 40, length := 0, selected := false, playing := false, shot := v.shot, why := 6, lost := [] }
      let d := d.setChain v.lane ((d.chain v.lane).setAlt k (some slot))
      let d := (d.bump64 Obj.fbSpecAllocated).bump (Obj.laneSpecAllocated v.lane)
      let d := if d.val Obj.fbVptPeak < d.vptInUse then d.put Obj.fbVptPeak d.vptInUse else d
      (d, some i)
    else ((d.bump Obj.fbSpecRefused).bump (Obj.laneSpecRefused v.lane), none)
  | none => ((d.bump Obj.fbSpecRefused).bump (Obj.laneSpecRefused v.lane), none)

/-- Fabric ID an entry waits on. -/
def VptEntry.fid (v : VptEntry) : Nat := fabricOf v.kind v.source
/-- The final item of a source's window at or before a time (R129): none while another member may still open a later window. -/
def Dev.finalItem (d : Dev) (l shot tb fid : Nat) : Option Item :=
  if d.mayOpen l (d.groupOf l) shot tb fid then none
  else (d.sourceWindow (d.groupOf l) shot tb fid).bind (fun e => d.itemFor fid true e)
/-- The final item an entry waits for, once on the fabric: that of its window (Table 9-6). -/
def Dev.entryItem (d : Dev) (v : VptEntry) : Option Item := d.finalItem v.lane v.shot (v.release + 40) v.fid
/-- Whether an item meets an entry's condition. -/
def VptEntry.holds (v : VptEntry) (i : Item) : Bool := condHolds i.value v.value v.mask v.negate

/-- An entry ends as unconfirmable (Table 9-7): the lane mutes from the release and the shot is spoiled. DESIGN CHOICE: the spoil ranks at
the release's stamp, the first dependent granule, and names the lane (R6; log entry 13). -/
def Dev.unconfirmed (d : Dev) (i : Nat) (v : VptEntry) (r : Reason) : Dev :=
  let d := d.endEntry i .unconfirmable
  let stamp := v.release + 40
  let d := if r = .unitVoid then d.bump (Obj.stripVoidReceived (stripOf v.lane)) else d
  (d.mute v.lane v.shot stamp).spoilShot (d.groupOf v.lane) v.shot r stamp v.lane

/-- An entry confirmed: counted once, its slot selected (R218, R222). What its streamed granules met at the issue port shows from now on
(R225). -/
def Dev.confirmEntry (d : Dev) (i : Nat) (v : VptEntry) : Dev :=
  let d := { d with vpt := SMap.set d.vpt i { v with state := .confirmed } }
  let d := d.bump64 Obj.fbSpecConfirmed
  let c := d.chain v.lane
  let lost := ((c.alt v.slot).map AltSlot.lost).getD []
  let d := d.setChain v.lane (c.setAlt v.slot ((c.alt v.slot).map (fun a => { a with selected := true, lost := [] })))
  lost.foldl (fun e p => if p.2 then e.metaRefusal v.lane v.shot p.1 else e.lateGranule v.lane v.shot p.1 6 true) d

/-- Whether slot 0 of an entry's group is chosen, on its own final item: `none` while unknown (R122). -/
def Dev.slot0Holds (d : Dev) (v : VptEntry) : Option Bool :=
  match v.first with
  | none => some false
  | some c => (d.finalItem v.lane v.shot (v.release + 40) (fabricOf c.kind c.source)).map
      (fun i => !i.void && condHolds i.value c.value c.mask false)

/-- A final item at a live entry (Table 9-7, R122). DESIGN CHOICE: a void item of one slot of a group ends the other slot's entry as
unconfirmable too, whatever source that slot names: the lane mutes from the release they share, so nothing of it could play (log entry
17). -/
def Dev.resolveEntry (d : Dev) (i : Nat) : Dev :=
  match SMap.find d.vpt i with
  | none => d
  | some v =>
    if v.state = .confirmed then d
    else match d.entryItem v with
    | none => d
    | some item =>
      if v.release < d.now then d.unconfirmed i v .verdictMissing
      else if item.void then
        let d := d.unconfirmed i v .unitVoid
        match v.group.bind (fun j => (SMap.find d.vpt j).map (fun m => (j, m))) with
        | some (j, m) => if m.state = .confirmed then d else d.endEntry j .unconfirmable
        | none => d
      else if !(v.holds item) then d.endEntry i .squashed
      else if v.isBranch || v.slot = 0 then d.confirmEntry i v
      else match d.slot0Holds v with
        | none => d
        | some true => d.endEntry i .squashed
        | some false => d.confirmEntry i v

/-- VPT_FINAL_ITEM (R222): a final item on the fast wires reaches the entries that wait on it, slot 0 of a group first. -/
def execVptFinalItem (t : Nat) (item : Fin 1284) (s : State) : Host.Outcome State Fault Refusal :=
  devStep t (fun _ d =>
    let hit := d.vpt.filter (fun p => p.2.fid = item.val)
    let mates := hit.filterMap (fun p => p.2.group)
    let ids := ((hit.map Prod.fst) ++ mates).eraseDups
    let zero := ids.filter (fun i => (SMap.find d.vpt i).any (fun v => v.slot = 0))
    let one := ids.filter (fun i => (SMap.find d.vpt i).any (fun v => v.slot = 1))
    (zero ++ one).foldl Dev.resolveEntry d) s

/-- VPT_STAGED (R222): every granule of the slot's content is in the slot. -/
def execVptStaged (t : Nat) (entry : Slot) (s : State) : Host.Outcome State Fault Refusal :=
  devStep t (fun _ d =>
    match SMap.find d.vpt entry.val with
    | none => d
    | some v =>
      let r := d.drill v.lane
      let whole :=
        if v.isBranch then r.shadow.all (fun s => s.cursor + 16 ≤ r.cursor || r.run = .waitConfirm)
        else r.alt.all (fun g => g.closed || d.cursorTime v.lane g.release != v.release + 40)
      if v.state = .staging && whole && ((d.chain v.lane).alt v.slot).any (fun a => a.granules.length = a.length) then
        { d with vpt := SMap.set d.vpt entry.val { v with state := .staged } }
      else d) s

/-! ### Branches (R128, R213, R217, R218) -/

/-- The drill takes one of a branch's two paths (R128). -/
def Dev.takePath (d : Dev) (l pop target : Nat) (taken : Bool) : Dev :=
  let r := d.drill l
  d.setDrill l (if taken then { r with pc := target, loops := r.loops.drop pop } else r.step)

/-- The window end a branch at the drill's cursor reads (R129). -/
def Dev.branchWindow (d : Dev) (l kind source : Nat) : Option Nat :=
  d.sourceWindow (d.groupOf l) (d.shotNo l) (d.cursorTime l (d.drill l).cursor) (fabricOf kind source)
/-- The final item a branch at the drill's cursor waits for. -/
def Dev.branchItem (d : Dev) (l kind source : Nat) : Option Item :=
  d.finalItem l (d.shotNo l) (d.cursorTime l (d.drill l).cursor) (fabricOf kind source)

/-- Where a search for the shot's end stands: address, loops and calls. -/
abbrev ExitPoint := Nat × List LoopEntry × List CallEntry
/-- The places an instruction leads to when no loop repeats: past it first, and then where it may jump. -/
def Drill.exits (r : Drill) (x : ExitPoint) : List ExitPoint :=
  let (pc, loops, calls) := x
  match (r.grains[pc]?).map decodeGrain with
  | some (.loop forever e c) =>
    if !forever && c = 0 then [(e + 1, loops, calls)]
    else [(pc + 1, { remaining := c, forever := forever, body := pc + 1, endAddr := e } :: loops, calls)]
  | some (.endloop _) => [(pc + 1, loops.drop 1, calls)]
  | some (.call target) => [(target, loops, { ret := pc + 1, depth := loops.length } :: calls)]
  | some .ret => match calls with
    | c :: rest => [(c.ret, loops, rest)]
    | [] => []
  | some (.jump pop target) => [(target, loops.drop pop, calls)]
  | some (.branch _ _ _ _ _ _ pop target) => [(pc + 1, loops, calls), (target, loops.drop pop, calls)]
  | some (.watch _ _ _ _ _ _ pop target) => [(pc + 1, loops, calls), (target, loops.drop pop, calls)]
  | some .halt | some .bad | some (.shotBegin ..) | none => []
  | some _ => [(pc + 1, loops, calls)]
/-- The first `shot.end` that a search from some places on finds, falling through before it jumps and looking at each address once. -/
def Drill.exitFrom (r : Drill) : Nat → List ExitPoint → List Nat → Option ExitPoint
  | 0, _, _ => none
  | _, [], _ => none
  | fuel + 1, x :: rest, seen =>
    if seen.contains x.1 then Drill.exitFrom r fuel rest seen
    else if (r.grains[x.1]?).map decodeGrain = some .shotEnd then some x
    else Drill.exitFrom r fuel (r.exits x ++ rest) (x.1 :: seen)
/-- The `shot.end` a drill goes to from its next instruction. -/
def Drill.exit (r : Drill) : Option ExitPoint := r.exitFrom (2 ^ 20) [(r.pc + 1, r.loops, r.calls)] []

/-- A branch whose condition is void: neither path is taken and the lane mutes from the branch's first dependent granule to the end of the
shot (R130). DESIGN CHOICE: the drill goes to the shot's `shot.end` without executing what lies between, and the spoil ranks at the branch's
cursor time and names the lane (R6; log entries 13 and 16). -/
def Dev.voidBranch (d : Dev) (l : Nat) (why : Reason) : Dev :=
  let tb := d.cursorTime l (d.drill l).cursor
  let d := d.setDrill l { d.drill l with run := .inShot, specAsked := false }
  let d := (d.mute l (d.shotNo l) tb).spoilShot (d.groupOf l) (d.shotNo l) why tb l
  let d := if why = .unitVoid then d.bump (Obj.stripVoidReceived (stripOf l)) else d
  let r := d.drill l
  match r.exit with
  | some (pc, loops, calls) => d.setDrill l { r with pc := pc, loops := loops, calls := calls }
  | none => d.setDrill l r.step

/-- A branch resolved by its final item: the next granule is urgent (R213). Without a usable item by the branch's time its condition is void
(R130); in shadow state the drill waits for confirmation before it mutes and spoils (R224, R225). DESIGN CHOICE: what the drill issues from here on carries the reason of the latest speculative branch it passed; a branch that does
not speculate leaves it (R218; log entry 16). -/
def Dev.resolveBranch (d : Dev) (l : Nat) (op : Op) (i : Item) : Dev :=
  match op with
  | .branch _ _ value mask neg spec pop target =>
    let late := d.cursorTime l (d.drill l).cursor < i.time
    if (late || i.void) && (d.drill l).shadow.isSome then d.setDrill l { d.drill l with run := .waitConfirm }
    else if late then d.voidBranch l .verdictMissing
    else if i.void then d.voidBranch l .unitVoid
    else
      let r := d.drill l
      let why := if !spec || r.why = 7 then r.why else 8
      (d.setDrill l { r with run := .inShot, urgentDue := true, why := why, specAsked := false }).takePath l pop target
        (condHolds i.value value mask neg)
  | _ => d

/-- The drill asks for an entry on a provisional item and follows the predicted path in shadow state (R217), muted or not (R92). DESIGN CHOICE:
it asks in the step that forms the item, which may be the 60 ticks of R211 before the item is on the fabric (log entry 16). -/
def Dev.predict (d : Dev) (l : Nat) (op : Op) : Dev :=
  match op with
  | .branch kind source value mask neg true pop target =>
    let r := d.drill l
    if r.specAsked || r.shadow.isSome then d
    else
      match (d.branchWindow l kind source).bind (fun e =>
          d.items.find? (fun i => i.id = fabricOf kind source && !i.final && i.windowEnd = e)) with
      | none => d
      | some i =>
        let tb := d.cursorTime l r.cursor
        let d := d.setDrill l { r with specAsked := true }
        if tb < i.time + 320 then d.bump Obj.fbProvTooLate
        else if i.void then d
        else
          let taken := condHolds i.value value mask neg
          let from' := if taken then r.walker target (r.loops.drop pop) else r.walker (r.pc + 1) r.loops
          let v : VptEntry :=
            { state := .staging, isBranch := true, lane := l, slot := 0, kind := kind, source := source, value := value
              mask := mask, negate := if taken then neg else !neg, windowEnd := i.windowEnd, shot := d.shotNo l
              release := tb - 40, group := none, first := none
              reservation := ((d.spanItems l r.cursor 16 (d.tracePath l (r.cursor + 16) traceFuel from')).map Prod.snd).sum }
          match d.askEntry v [0, 1] with
          | (d, none) => d
          | (d, some e) =>
            let r := d.drill l
            let sh : Shadow :=
              { entry := e, pc := r.pc, cursor := r.cursor, busy := r.busy, loops := r.loops, calls := r.calls
                grain := (r.grain r.pc).getD 0, predicted := taken, watch := r.watch, segStart := r.segStart, segDue := r.segDue
                firstDue := r.firstDue, streamCur := r.streamCur, jobs := [], timed := [] }
            (d.setDrill l { r with run := .inShot, shadow := some sh }).takePath l pop target taken
  | _ => d

/-- Drills that wait at a speculative branch look again when a provisional item reaches the fabric (R217). -/
def Dev.predictWaiting (d : Dev) : Dev :=
  (d.drills.filter (fun p => p.2.run = .waitBranch)).foldl (fun e p => e.predict p.1 (decodeGrain p.2.waitGrain)) d

/-- An item from a slot or remote register reaches the fabric, with what follows at waiting drills (R204, R211, R217). -/
def Dev.toFabric (d : Dev) (remote : Bool) (n : Nat) (i : Item) : Dev := (d.sourceItem remote n i).predictWaiting
/-- A drill that waits at a branch: it takes the final item, or looks again at the provisional one (R213, R217). -/
def Dev.atBranch (d : Dev) (l : Nat) : Dev :=
  let r := d.drill l
  match r.run, decodeGrain r.waitGrain with
  | .waitBranch, .branch kind source value mask neg spec pop target =>
    match d.branchItem l kind source with
    | some i => d.resolveBranch l (.branch kind source value mask neg spec pop target) i
    | none => if spec && r.mode = modeProvisional then d.predict l (.branch kind source value mask neg spec pop target) else d
  | _, _ => d

/-- BRANCH (R128, R213, R217): kinds 3 and 4 are evaluated at once; kinds 0–2 take their final item, follow a prediction in
provisional mode, or wait. -/
def execBranch (t : Nat) (lane : Lane) (s : State) : Host.Outcome State Fault Refusal :=
  drillStep t lane (fun d l r op => match op with
    | .branch kind source value mask neg spec pop target =>
      if kind = 3 then d.takePath l pop target (condHolds (ofBool (SMap.find r.latches source).isSome) value mask neg)
      else if kind = 4 then d.takePath l pop target (condHolds (ofBool r.timeoutFlag) value mask neg)
      else if r.run != .inShot || 4 < kind then d
      else if spec && r.shadow.isSome then d.setDrill l { r with run := .waitConfirm }
      else
        let g := (r.grain r.pc).getD 0
        let d :=
          if spec && r.mode = modeProvisional && r.muteFrom.isNone then
            d.reserveSpan l r.cursor 16
              (d.tracePath l (r.cursor + 16) traceFuel (r.walker (r.pc + 1) r.loops)
                ++ d.tracePath l (r.cursor + 16) traceFuel (r.walker target (r.loops.drop pop)))
          else d
        let d := d.setDrill l { d.drill l with run := .waitBranch, waitGrain := g, specAsked := false, why := if spec then 6 else r.why }
        match d.branchItem l kind source with
        | some i => d.resolveBranch l op i
        | none => if spec && r.mode = modeProvisional then d.predict l op else d
    | _ => d) s

/-- BRANCH_RESOLVE (R213, R218): the final item a waiting branch names is on the fabric. -/
def execBranchResolve (t : Nat) (lane : Lane) (s : State) : Host.Outcome State Fault Refusal :=
  devStep t (fun _ d => d.atBranch lane.val) s

/-- BRANCH_VERDICT_MISSING (R213): the branch's time has come and no final item has. A live entry ends as unconfirmable. -/
def execBranchVerdictMissing (t : Nat) (lane : Lane) (s : State) : Host.Outcome State Fault Refusal :=
  devStep t (fun _ d =>
    let l := lane.val
    let r := d.drill l
    match r.shadow with
    | some sh =>
      if d.cursorTime l sh.cursor ≤ d.now && ((SMap.find d.vpt sh.entry).any (fun v => v.state != .confirmed && (d.entryItem v).isNone)) then
        (d.endEntry sh.entry .unconfirmable).voidBranch l .verdictMissing
      else d
    | none =>
      match r.run, decodeGrain r.waitGrain with
      | .waitBranch, .branch kind source _ _ _ _ _ _ =>
        if d.cursorTime l r.cursor ≤ d.now && (d.branchItem l kind source).all (fun i => d.cursorTime l r.cursor < i.time) then d.voidBranch l .verdictMissing
        else d
      | _, _ => d) s

/-- Stamp of a request that travels (R126, R157). -/
def Timed.time : Timed → Nat
  | .pin _ _ _ s => s
  | .event _ s => s
  | .window _ s _ => s
  | .bias _ s => s
  | .frame _ _ _ e _ => e
/-- A request put into a list in stamp order, after those of its stamp. -/
def insertTimed (x : Sent) : List Sent → List Sent
  | [] => [x]
  | y :: ys => if x.req.time < y.req.time then x :: y :: ys else y :: insertTimed x ys
/-- A job put into a list in the order of first stamps. -/
def insertJob (x : PlayJob) : List PlayJob → List PlayJob
  | [] => [x]
  | y :: ys => if x.stamp < y.stamp then x :: y :: ys else y :: insertJob x ys

/-- A confirmed prediction: the shadow state becomes the confirmed state and the staging buffers pass on in stamp order (R218). -/
def Dev.adoptShadow (d : Dev) (l : Nat) (sh : Shadow) : Dev :=
  let r := d.drill l
  let d := d.setDrill l
    { r with shadow := none, ready := r.ready ++ cutJobs (d.shotNo l) (r.muteFrom.getD (2 ^ 65)) (sh.jobs.foldl (fun js j => insertJob j js) []), why := 6
             run := if r.run = .waitConfirm then .inShot else r.run }
  let c := d.chain l
  sh.timed.foldl (fun e x => e.addWindow l x.req) (d.setChain l { c with timed := c.timed ++ sh.timed.foldl (fun xs x => insertTimed x xs) [] })

/-- SPEC_BRANCH_RESOLVE (R218): the final item confirms the shadow state, or the drill resumes from the branch. -/
def execSpecBranchResolve (t : Nat) (lane : Lane) (s : State) : Host.Outcome State Fault Refusal :=
  devStep t (fun _ d =>
    let l := lane.val
    match (d.drill l).shadow with
    | some sh =>
      let d := d.resolveEntry sh.entry
      match (d.drill l).shadow, SMap.find d.vpt sh.entry with
      | some sh', some v => if v.state = .confirmed then d.adoptShadow l sh' else d
      | some sh', none => d.adoptShadow l sh'
      | none, _ =>
        match decodeGrain sh.grain with
        | .branch kind source value mask neg spec pop target =>
          match d.branchItem l kind source with
          | some i => d.resolveBranch l (.branch kind source value mask neg spec pop target) i
          | none => d
        | _ => d
    | none => d.atBranch l) s

/-! ### Alternates (R121, R122, R214, R215) -/

/-- The plays of an alternate group from a grain to its close: slot, position from the release, waveform, amplitude. -/
def Drill.altPlays (r : Drill) : Nat → (pc slot pos : Nat) → List (Nat × Nat × Nat × Int)
  | 0, _, _, _ => []
  | fuel + 1, pc, slot, pos =>
    match (r.grain pc).map decodeGrain with
    | some (.altOpen k _ _ _ _) => Drill.altPlays r fuel (pc + 1) k 0
    | some (.play _ _ _ w amp _ _) => (slot, pos, w, amp) :: Drill.altPlays r fuel (pc + 1) slot (pos + (r.entryOf w).length)
    | _ => []

/-- Positions and estimates of some plays, from a release cursor. -/
def Dev.altFound (d : Dev) (l release : Nat) (plays : List (Nat × Nat × Nat × Int)) : List (Nat × Nat) :=
  (plays.map (fun p => (List.range ((d.drill l).entryOf p.2.2.1).length).map
    (fun k => (release + p.2.1 + k, d.playEstimate l (release + p.2.1) p.2.2.1 p.2.2.2)))).flatten

/-- The condition of slot 0 in a group being built: opened already, or by an instruction still ahead (R121). -/
def Drill.slot0Cond (r : Drill) (g : AltGroup) : Nat → Nat → Option AltCond
  | 0, _ => none
  | fuel + 1, pc =>
    match g.opened.find? (fun o => o.slot = 0) with
    | some o => some { kind := o.kind, source := o.source, value := o.value, mask := o.mask }
    | none => match (r.grain pc).map decodeGrain with
      | some (.altOpen 0 kind source value mask) => some { kind := kind, source := source, value := value, mask := mask }
      | some (.altOpen ..) | some (.play ..) => Drill.slot0Cond r g fuel (pc + 1)
      | _ => none

/-- An entry granted for an opened slot paired with the other of its group (Table 9-6), and held against a final item that is on the fabric
already (R215). -/
def Dev.pairEntry (d : Dev) (i : Nat) (mate : Option Nat) : Dev :=
  let d := match mate.bind (fun j => (SMap.find d.vpt j).map (fun m => (j, m))) with
    | some (j, m) => { d with vpt := SMap.set d.vpt j { m with group := some i } }
    | none => d
  d.resolveEntry i

/-- One slot opened: in staged and provisional modes an entry is asked for (R215, R223). -/
def Dev.openAlt (d : Dev) (l slot kind source value mask : Nat) (g : AltGroup) : Dev :=
  let r := d.drill l
  let stamp := d.cursorTime l g.release
  let own := (d.altFound l g.release ((r.altPlays 64 r.pc 0 0).filter (fun p => p.1 = slot))).map Prod.snd
  let mate := ((g.opened.head?).bind AltOpen.entry).filter (fun j => (SMap.find d.vpt j).any (fun m => m.lane = l && m.release + 40 = stamp))
  let v : VptEntry :=
    { state := .staging, isBranch := false, lane := l, slot := slot, kind := kind, source := source, value := value, mask := mask
      negate := false, shot := d.shotNo l, release := stamp - 40, reservation := own.sum
      windowEnd := (d.sourceWindow (d.groupOf l) (d.shotNo l) stamp (fabricOf kind source)).getD 0
      group := mate, first := if slot = 0 then none else r.slot0Cond g 64 (r.pc + 1) }
  let (d, e) := if r.mode = modeStrict then (d, none) else d.askEntry v [slot]
  let o : AltOpen := { slot := slot, kind := kind, source := source, value := value, mask := mask, length := 0, jobs := [], entry := e }
  let refused := g.refused || (r.mode != modeStrict && e.isNone)
  let d := d.setDrill l { (d.drill l).step with alt := some { g with opened := g.opened ++ [o], refused := refused } }
  match e with
  | some i => d.pairEntry i mate
  | none => d

/-- PLAY_ALT_OPEN (R121, R215, R242): the first open begins the group and makes the span's reservation. In shadow state the drill
waits for confirmation (log entry 17). -/
def execPlayAltOpen (t : Nat) (lane : Lane) (s : State) : Host.Outcome State Fault Refusal :=
  drillStep t lane (fun d l r op => match op with
    | .altOpen slot kind source value mask =>
      if r.run != .inShot then d
      else if r.shadow.isSome then d.setDrill l { r with run := .waitConfirm }
      else match r.alt with
      | some g => if g.closed then d else d.openAlt l slot kind source value mask g
      | none =>
        let d := if r.muteFrom.isNone then d.reserveSpan l r.cursor 16 (d.altFound l r.cursor (r.altPlays 64 r.pc 0 0)) else d
        d.openAlt l slot kind source value mask
          { release := r.cursor, closed := false, opened := [], windowEnd := 0, shot := d.shotNo l, refused := false, first := r.firstDue }
    | _ => d) s

/-- PLAY_ALT_CLOSE (R121): cursor and busy-until become release plus the longer slot; the drill waits when a slot has no entry
(R214). -/
def execPlayAltClose (t : Nat) (lane : Lane) (s : State) : Host.Outcome State Fault Refusal :=
  drillStep t lane (fun d l r op => match op, r.alt with
    | .altClose, some g =>
      if g.closed then d
      else
        let stop := g.release + (g.opened.map AltOpen.length).foldl max 0
        let waits := g.opened.any (fun o => o.entry.isNone)
        let d := d.setDrill l
          { r.step with cursor := stop, busy := stop, alt := if waits then some { g with closed := true } else none
                        firstDue := r.firstDue && stop = g.release, run := if waits then .waitAlt else r.run }
        let k := d.groupOf l
        let x := d.group k
        let d := d.setGroup k { x with spans := x.spans ++ [d.cursorTime l stop] }
        let stamp := d.cursorTime l g.release
        if d.spanLives l stamp then d else d.freeSpan l stamp
    | _, _ => d) s

/-- The final item of an opened slot's condition, when it came by the release tick (R214). -/
def Dev.openItem (d : Dev) (l : Nat) (g : AltGroup) (o : AltOpen) : Option Item :=
  (d.finalItem l g.shot (d.cursorTime l g.release) (fabricOf o.kind o.source)).filter (fun i => i.time ≤ d.cursorTime l g.release - 40)

/-- The slot an alternate group chooses (R122): unknown while an item it turns on is missing. -/
def Dev.chosenAlt (d : Dev) (l : Nat) (g : AltGroup) : Option (Option AltOpen) :=
  let ordered := g.opened.filter (fun o => o.slot = 0) ++ g.opened.filter (fun o => o.slot = 1)
  ordered.foldl (fun a o => match a with
    | some (some x) => some (some x)
    | none => none
    | some none => (d.openItem l g o).map (fun i => if condHolds i.value o.value o.mask false then some o else none)) (some none)

/-- The drill goes on after an alternate group it waited for. -/
def Dev.leaveAlt (d : Dev) (l : Nat) : Dev :=
  let r := d.drill l
  d.setDrill l { r with alt := none, run := if r.run = .waitAlt then .inShot else r.run }

/-- The live entries of a group at a release stamp. -/
def Dev.groupEntries (d : Dev) (l stamp : Nat) : List Nat :=
  (d.vpt.filter (fun p => p.2.lane = l && !p.2.isBranch && p.2.release + 40 = stamp && p.2.state != .confirmed)).map Prod.fst
/-- The drill goes on after a group that plays nothing more: what is left of its span's reservation is released (R243). Where no slot was
issued, the shot's first granule is still to come (Table 4-1). -/
def Dev.dropAlt (d : Dev) (l stamp : Nat) : Dev :=
  let r := d.drill l
  let still := r.alt.any (fun g => g.first && g.opened.all (fun o => o.entry.isNone))
  ((d.setDrill l { r with firstDue := r.firstDue || still }).leaveAlt l).freeSpan l stamp
/-- An alternate group ended without a usable item: its entries are unconfirmable, the lane mutes from the release and the shot is spoiled
(R130, R214). -/
def Dev.voidAlt (d : Dev) (l : Nat) (g : AltGroup) (why : Reason) : Dev :=
  let stamp := d.cursorTime l g.release
  let d := (d.groupEntries l stamp).foldl (fun e i => e.endEntry i .unconfirmable) d
  let d := if why = .unitVoid then d.bump (Obj.stripVoidReceived (stripOf l)) else d
  ((d.mute l g.shot stamp).spoilShot (d.groupOf l) g.shot why stamp l).dropAlt l stamp
/-- The chosen slot of a group holds no entry: its content goes as urgent granules into that alternate slot (R214); an entry of the other
slot is not chosen. -/
def Dev.issueAlt (d : Dev) (l : Nat) (g : AltGroup) (o : AltOpen) : Dev :=
  let stamp := d.cursorTime l g.release
  let slot : AltSlot :=
    { granules := [], releaseStamp := stamp, length := o.length, selected := true, playing := false, shot := g.shot
      why := if g.refused then 9 else 6, lost := [] }
  let d := (d.groupEntries l stamp).foldl (fun e i => e.endEntry i .squashed) d
  let d := d.setChain l ((d.chain l).setAlt o.slot (some slot))
  let r := d.drill l
  let jobs := (o.jobs.map r.unmuted).filter (fun j => j.next < j.length)
  (d.setDrill l { r with ready := jobs.map (fun j => { j with urgent := true, why := if g.refused then 9 else j.why }) ++ r.ready }).leaveAlt l

/-- STRICT_ALT_RESOLVE (R214, R223): the chosen slot's content is issued as urgent granules into its alternate slot, once that slot is free
(R216); nothing is issued when neither condition holds, or when the chosen slot has an entry of its own. -/
def execStrictAltResolve (t : Nat) (lane : Lane) (s : State) : Host.Outcome State Fault Refusal :=
  devStep t (fun _ d =>
    let l := lane.val
    let r := d.drill l
    match r.run, r.alt with
    | .waitAlt, some g =>
      let stamp := d.cursorTime l g.release
      if g.opened.any (fun o => (d.openItem l g o).any (fun i => i.void)) then d.voidAlt l g .unitVoid
      else match d.chosenAlt l g with
        | none => d
        | some none => ((d.groupEntries l stamp).foldl Dev.resolveEntry d).dropAlt l stamp
        | some (some o) =>
          if o.entry.isSome then ((d.groupEntries l stamp).foldl Dev.resolveEntry d).leaveAlt l
          else if d.altFree l o.slot then d.issueAlt l g o
          else d
    | _, _ => d) s

/-- The granules of a playing slot whose release ticks have come enter the chain (R215). -/
def Dev.playDue (d : Dev) (l k : Nat) : Dev :=
  match (d.chain l).alt k with
  | some a =>
    if a.playing then
      let due := a.granules.takeWhile (fun g => g.stamp ≤ d.now + 40)
      let d := d.setChain l ((d.chain l).setAlt k (some { a with granules := a.granules.drop due.length }))
      due.foldl (fun e g => e.enterChain l g) d
    else d
  | none => d
/-- Granules a slot must hold at its release: those before a mute of its shot (R92). -/
def AltSlot.needs (a : AltSlot) (c : Chain) : Nat :=
  match c.muteFrom with
  | some f => if a.shot ≤ c.muteShot then min a.length (ceilDiv (f - a.releaseStamp) 64) else a.length
  | none => a.length
/-- A selected slot at its release tick: complete, it plays; incomplete, it is late under R92 (Table 9-7). -/
def Dev.playAlt (d : Dev) (l k : Nat) (a : AltSlot) (entry : Option Nat) : Dev :=
  let c := d.chain l
  if a.needs c ≤ a.granules.length then (d.setChain l (c.setAlt k (some { a with playing := true }))).playDue l k
  else
    let d := match entry with
      | some i => { d with vpt := SMap.del d.vpt i }
      | none => d
    ((d.setChain l (c.setAlt k none)).freeSpan l a.releaseStamp).lateGranule l a.shot a.releaseStamp a.why false

/-- One alternate slot of a lane from its release tick on (R215, Table 9-7): a selection that has come by then counts. -/
def Dev.releaseAlt (d : Dev) (l k : Nat) : Dev :=
  match (d.chain l).alt k with
  | none => d
  | some a =>
    if a.playing then d.playDue l k
    else if d.now < a.releaseStamp - 40 then d
    else
      match d.vpt.find? (fun p => p.2.lane = l && p.2.slot = k) with
      | some (i, _) =>
        if d.val Obj.timeRefState != 0 then d.strikeEntry i
        else
          let d := d.resolveEntry i
          match SMap.find d.vpt i, (d.chain l).alt k with
          | some v, some a => if v.state = .confirmed then d.playAlt l k a (some i) else d.unconfirmed i v .verdictMissing
          | _, _ => d
      | none =>
        if d.val Obj.timeRefState != 0 then d.setChain l ((d.chain l).setAlt k none)
        else if a.selected then d.playAlt l k a none else d

/-- ALT_RELEASE (R214, R215): each alternate whose release tick has come plays, granule by granule, or ends without a verdict. A group the
drill still waits for ends: without an item the lane mutes with reason "verdict missing"; a void one is "unit void"; where neither condition
holds nothing is issued; a chosen slot that is still busy is late (R92). -/
def execAltRelease (t : Nat) (lane : Lane) (s : State) : Host.Outcome State Fault Refusal :=
  devStep t (fun _ d =>
    let l := lane.val
    let d := (d.releaseAlt l 0).releaseAlt l 1
    let r := d.drill l
    match r.run, r.alt with
    | .waitAlt, some g =>
      let stamp := d.cursorTime l g.release
      if d.now < stamp - 40 then d
      else if g.opened.any (fun o => (d.openItem l g o).any (fun i => i.void)) then d.voidAlt l g .unitVoid
      else match d.chosenAlt l g with
        | some (some _) =>
          let d := (d.groupEntries l stamp).foldl (fun e i => e.endEntry i .squashed) d
          let d := if r.muteFrom.any (fun f => f ≤ stamp) then d else d.lateGranule l g.shot stamp (if g.refused then 9 else 6) false
          d.dropAlt l stamp
        | some none => ((d.groupEntries l stamp).foldl Dev.resolveEntry d).dropAlt l stamp
        | none => d.voidAlt l g (if g.refused then .speculationRefused else .verdictMissing)
    | _, _ => d) s

/-- ALT_SPAN_END (R222, R243): the last sample of a released span has left; slot and entry are free. What is left of the span's reservation
ends with the span (`Dev.standing`). -/
def execAltSpanEnd (t : Nat) (lane : Lane) (altSlot : Fin 2) (s : State) : Host.Outcome State Fault Refusal :=
  devStep t (fun _ d =>
    let l := lane.val
    match (d.chain l).alt altSlot.val with
    | some a =>
      if a.playing && a.releaseStamp + 64 * a.length ≤ d.now then
        let d := d.playDue l altSlot.val
        let d := d.setChain l ((d.chain l).setAlt altSlot.val none)
        { d with vpt := d.vpt.filter (fun p => !(p.2.lane = l && p.2.slot = altSlot.val)) }
      else d
    | none => d) s

/-! ### Verdict frames received (R232, R233) -/

/-- Origins of the shots of a group that are in progress (R233): begun, and not past their end. -/
def Dev.origins (d : Dev) (g : Nat) : List Nat :=
  (if (d.group g).inShot then [(d.group g).origin] else []) ++ ((d.shots.filter (fun s => s.group = g && d.now < s.stop)).map ShotRec.origin)
/-- One entry of a verdict frame against the remote registers that name its port and ID (R233). -/
def Dev.remoteEntry (d : Dev) (p windowEnd shot : Nat) (v : VerdictEntry) : Dev :=
  let regs := (List.range 64).filter (fun r =>
    let f := d.val (Obj.fbRemoteIn r)
    bit f 13 && bits f 12 11 = p && bits f 10 0 = v.fabricId)
  let takes := regs.filter (fun r =>
    let f := d.val (Obj.fbRemoteIn r)
    (d.origins (bits f 25 20)).any (fun o => windowEnd = o + bits f 63 32))
  if regs.isEmpty then d
  else if takes.isEmpty then d.bump Obj.fbRemoteMismatch
  else
    takes.foldl (fun e r =>
      let i : Item :=
        { id := 2048 + r, value := if v.void then 0 else v.value, void := v.void, final := true, windowEnd := windowEnd
          shot := shot, time := e.now, grain := 0, flags := 0, length := 0 }
      let e := e.bump64 Obj.fbRemoteAccepted
      let e := if v.void then e.bump Obj.fbRemoteVoid else e
      e.toFabric true r i) d

/-- GG_VERDICT_FRAME_RECEIVE (R232, R233): each entry is accepted by the registers it matches, or discarded and counted. -/
def execGgVerdictFrameReceive (t : Nat) (port : Port) (windowEnd shot : Nat) (entries : List VerdictEntry) (s : State) :
    Host.Outcome State Fault Refusal :=
  devStep t (fun _ d =>
    if d.portActive port.val then
      let d := d.received port.val 1
      entries.foldl (fun e v => e.remoteEntry port.val windowEnd shot v) d
    else d) s

end Sys2Proof.Machine
end

