-- ==== Sys2Proof/Machine/Readout.lean ====
section
/-! DEFINITION. Read-out (chapter 8): the down-converter, windows, checkpoints, verdicts and verdict records; and the arrival of
requests at the converter die (R91, R126). -/

namespace Sys2Proof.Machine

/-! ### Down-conversion (R179, R180) -/

/-- The two mixed products of an ADC code at a tick (R179). -/
def mixed (freq phase origin t : Nat) (x : Int) : Int × Int :=
  let th := phase20 (phaseWord freq phase 0 origin t)
  (x * cos16 th, -x * sin16 th)

/-- The filter's sum over products, newest first (R180). -/
def firSum : Nat → List Int → Int
  | _, [] => 0
  | k, x :: xs => firTap k * x + firSum (k + 1) xs

/-- One decimated sample from 96 ADC codes, oldest first, the last taken at tick `stop`, each mixed as the slot was tuned at its tick (`tuned`
gives F, P and tₒ); and whether it saturated. -/
def decimateBy (tuned : Nat → Nat × Nat × Nat) (stop : Nat) (codes : List Int) : (Int × Int) × Bool :=
  let newest := codes.reverse
  let m := (newest.zip (List.range 96)).map (fun p =>
    let t := stop - 2 * p.2
    mixed (tuned t).1 (tuned t).2.1 (tuned t).2.2 t p.1)
  let zi := satFlag 16 (rnd (firSum 0 (m.map Prod.fst)) 28)
  let zq := satFlag 16 (rnd (firSum 0 (m.map Prod.snd)) 28)
  ((zi.1, zq.1), zi.2 || zq.2)
/-- One decimated sample under one tuning. -/
def decimate (freq phase origin stop : Nat) (codes : List Int) : (Int × Int) × Bool := decimateBy (fun _ => (freq, phase, origin)) stop codes

/-- Whether a code counts as clipped (R177). -/
def clippedCode (x : Int) : Bool := x ≤ -2048 || 2047 ≤ x

/-- First tick of window sample 0: an odd start is taken from the tick before (R182). -/
def OpenWin.base (w : OpenWin) : Nat := w.start - w.start % 2
/-- The window end E (R182). -/
def OpenWin.stop (w : OpenWin) : Nat := w.start + 32 * w.length

/-- One window sample from the 16 ADC codes of its interval (R180, R188). DESIGN CHOICE: the codes the filter held at the window's start are
mixed with the values the window has latched, also where a commit changed them less than 160 ticks before (R178, R185; log entry 53). -/
def OpenWin.sample (w : OpenWin) (codes : List Int) : OpenWin :=
  let hist := w.history ++ codes
  let z := decimate w.freq w.phase w.origin (w.base + 32 * (w.done + 1)) hist
  let k := (w.kernel[w.done]?).getD (0, 0)
  { w with
    done := w.done + 1
    accI := w.accI + z.1.1 * k.1 - z.1.2 * k.2
    accQ := w.accQ + z.1.1 * k.2 + z.1.2 * k.1
    history := hist.drop 16
    clipped := w.clipped || codes.any clippedCode
    saturated := w.saturated || z.2 }

/-- `n` codes from the front, missing ones 0. -/
def takeCodes (n : Nat) (xs : List Int) : List Int := (xs ++ List.replicate n 0).take n

/-- Up to `n` more window samples from ADC codes. -/
def OpenWin.feed : Nat → OpenWin → List Int → OpenWin
  | 0, w, _ => w
  | n + 1, w, xs => OpenWin.feed n (w.sample (takeCodes 16 xs)) (xs.drop 16)

/-- The running point (R188), and whether it saturated. -/
def OpenWin.point (w : OpenWin) : (Int × Int) × Bool :=
  let i := satFlag 36 (rnd w.accI 6)
  let q := satFlag 36 (rnd w.accQ 6)
  ((i.1, q.1), i.2 || q.2)

/-- A grain's 72 bits (R188). -/
def grainWord (p : Int × Int) : Nat := ofInt 36 p.1 * 2 ^ 36 + ofInt 36 p.2

/-- The exact integer *p*ᵢ of a point against boundary `i` at a fraction (R189). -/
def OpenWin.margin (w : OpenWin) (p : Int × Int) (phi i : Nat) : Int :=
  let n := (w.normals[i]?).getD (0, 0)
  n.1 * p.1 + n.2 * p.2 - ((phi : Int) * (w.offsets[i]?).getD 0) / 2 ^ 15

/-- The verdict of the region map at a point and fraction (R189, R190). -/
def OpenWin.verdict (w : OpenWin) (p : Int × Int) (phi : Nat) : Nat :=
  let g := fun i => ofBool (bit w.enable i && 0 ≤ w.margin p phi i)
  let k := 4 * g 2 + 2 * g 1 + g 0
  bits w.regionMap (2 * k + 1) (2 * k)

/-! ### Windows (R182–R186) -/

/-- The tile of a slot (R7). -/
def tileOfSlot (s : Nat) : Nat := s / 64

/-- Intervals of 32 ticks of an input that held a clipped sample, counted once each, from ADC codes whose first is taken 2 ticks after a base
tick (R177). DESIGN CHOICE: a sample taken at a multiple of 32 counts in the interval that starts there (log entry 53). -/
def Dev.countClipped (d : Dev) (input : Nat) (base : Nat) : List Int → Nat → Dev
  | [], _ => d
  | x :: xs, k =>
    let t := base + 2 * (k + 1)
    let start := t / 32 * 32
    let seen := SMap.look d.clippedAt input []
    let e :=
      if clippedCode x && !seen.contains start then
        let d := { d with clippedAt := SMap.set d.clippedAt input (start :: seen) }
        let d := d.bump (Obj.inputOverRange input)
        d.put (Obj.inputOverRangeTime input) (max start (d.val (Obj.inputOverRangeTime input)))
      else d
    Dev.countClipped e input base xs (k + 1)

/-- The 16-byte verdict record of a window (Table 8-3), as a number. -/
def Item.record (i : Item) : Nat :=
  i.windowEnd + (i.id + i.value * 2 ^ 10 + ofBool i.void * 2 ^ 12 + bits i.flags 1 0 * 2 ^ 13) * 2 ^ 64 + i.length * 2 ^ 80 + wrap 32 i.shot * 2 ^ 96

/-- A slot's verdict record in its tile's gleaner (R196, Table 12-2). -/
def Dev.gleanVerdict (d : Dev) (record : Nat) : Dev :=
  let s := bits record 73 64
  let k := tileOfSlot s
  let key := bits record 76 74
  let g := d.gleaner k
  if bit (d.val (Obj.glnSlotMask k)) (s % 64) && SMap.find g.verdicts s != some key then
    d.glean k 3 s (bits record 63 0) (key + 8 * bits record 78 77 + bits record 119 96 * 256)
  else d

/-- A slot's final or void verdict leaves the slot: counts, latest values, record and fabric (R191, R194–R197). DESIGN CHOICE: the latest
window of SlotLastGrain and SlotLastVerdict is the one whose verdict came last (log entry 53). -/
def Dev.slotItem (d : Dev) (s : Nat) (i : Item) (prov : Option Nat) : Dev :=
  let d := if i.void then (d.bump (Obj.slotVoidVerdicts s)).bump (Obj.tileVoidVerdicts (tileOfSlot s))
    else (d.bump64 (Obj.slotWindows s)).bump (Obj.slotVerdictCount s i.value)
  let d := d.put (Obj.slotLastGrain s) i.grain
  let d := d.put (Obj.slotLastVerdict s) (i.value + 4 * ofBool i.void)
  let d := match prov with
    | some v => if i.void || v != i.value then d.bump (Obj.slotProvContradicted s) else d
    | none => d
  (d.gleanVerdict i.record).toFabric false s i

/-- The void item of a window (R186, R191): its grain is zero (R197). Flags: bit 0 clipped, 1 saturated, 2 grain exported. -/
def voidItem (s stop length shot time flags : Nat) : Item :=
  { id := s, value := 0, void := true, final := true, windowEnd := stop, shot := wrap 32 shot, time := time, grain := 0, flags := flags, length := length }

/-- Exported-grain flag of a slot (R197). -/
def Dev.exportFlag (d : Dev) (s : Nat) : Nat := 4 * ofBool (d.flag (Obj.slotExportGrain s))

/-- The void verdict, now, of a window that never ran. -/
def Dev.voidRequest (d : Dev) (s start stop shot : Nat) : Dev :=
  d.slotItem s (voidItem s stop ((stop - start) / 32) shot d.now (d.exportFlag s)) none

/-- A window that has begun yields its void verdict now, with the cause that spoils its shot. -/
def Dev.voidWindow (d : Dev) (s : Nat) (w : OpenWin) (r : Reason) : Dev :=
  let i := voidItem s w.stop w.length w.shot d.now (ofBool w.clipped + 2 * ofBool w.saturated + d.exportFlag s)
  (d.slotItem s i w.provisional).spoilShot w.group w.shot r d.now (2 ^ 15 + s)

/-- Whether a window of a slot is open: it ends at its `E`, before its verdict comes (R182, R199). -/
def Dev.slotOpen (d : Dev) (s : Nat) : Bool := (d.slot s).win.any (fun w => d.now < w.stop)

/-- The open window of a slot ended as void now. -/
def Dev.voidOpenWindow (d : Dev) (s : Nat) (r : Reason) : Dev :=
  let x := d.slot s
  match x.win with
  | some w => if d.now < w.stop then (d.setSlot s { x with win := none }).voidWindow s w r else d
  | none => d

/-- Windows of a slot whose final verdict has not reached the fabric, oldest first. -/
def SlotSt.windows (x : SlotSt) : List OpenWin := x.closing ++ x.win.toList
/-- Every window of a slot whose verdict is still owed yields a void verdict now, and its shot is spoiled (R105, Table 4-6). -/
def Dev.voidOwed (d : Dev) (s : Nat) (r : Reason) : Dev :=
  let x := d.slot s
  let d := x.windows.foldl (fun e w => e.voidWindow s w r) (d.setSlot s { x with win := none, closing := [], voids := [] })
  x.voids.foldl (fun e w => (e.voidRequest s w.1 w.2.1 w.2.2.1).spoilShot w.2.2.2 w.2.2.1 r e.now (2 ^ 15 + s)) d

/-- A window that never runs gives its void verdict at S + 140 ticks, where each of its causes ranks (R6, R126, R186). -/
def Dev.neverRuns (d : Dev) (s : Nat) (w : WinReq) (causes : List Reason) : Dev :=
  let x := d.slot s
  let d := d.setSlot s { x with voids := x.voids ++ [(w.start, w.stop, w.shot, d.groupOf w.lane)] }
  causes.foldl (fun e r => e.spoilShot (e.groupOf w.lane) w.shot r (w.start + 140) (2 ^ 15 + s)) d

/-- The kernel weights in a block (R187). -/
def kernelWeights (bs : List Byte) (n : Nat) : List (Int × Int) :=
  (List.range n).map (fun j => (toInt 16 (field bs (4 * j) 2), toInt 16 (field bs (4 * j + 2) 2)))

/-- A window opens on a slot with every value latched (R185). -/
def Dev.openWindow (d : Dev) (s : Nat) (w : WinReq) (history : List Int) : Dev :=
  let x := d.slot s
  let n := d.val (Obj.slotWindowLength s)
  let normal := fun i =>
    let v := d.val (Obj.slotBoundaryNormal s i)
    (toInt 16 (bits v 15 0), toInt 16 (bits v 31 16))
  let o : OpenWin :=
    { start := w.start, length := n, done := 0, accI := 0, accQ := 0, history := takeCodes 80 history
      kernel := x.kernel, freq := bits (d.val (Obj.slotFreq s)) 47 0
      phase := bits (d.val (Obj.slotPhase s)) 23 0, origin := d.val (Obj.slotOrigin s)
      enable := bits (d.val (Obj.slotBoundaryEnable s)) 2 0, normals := [normal 0, normal 1, normal 2]
      offsets := (List.range 3).map (fun i => d.ival 64 (Obj.slotBoundaryOffset s i))
      regionMap := d.val (Obj.slotRegionMap s), margins := (List.range 64).map (fun j => d.val (Obj.slotMargin s j))
      zone := d.val (Obj.inputZone (s / 16)), provEnable := d.flag (Obj.slotProvisionalEnable s), provisional := none, clipped := false, saturated := false
      shot := w.shot, group := d.groupOf w.lane }
  d.setSlot s { x with win := some o, closing := x.windows, lastEnd := o.stop, lastGroup := d.groupOf w.lane, lastShot := w.shot }

/-- Why a window that starts now never runs (R184, R186). -/
def Dev.windowCauses (d : Dev) (s : Nat) (w : WinReq) : List Reason :=
  (if d.val Obj.timeRefState != 0 then [.referenceLost] else []) ++ (if d.val (Obj.slotWindowLength s) = 0 then [.slotDisabled] else [])
    ++ (if w.start < (d.slot s).lastEnd then [.windowConflict] else [])

/-- WINDOW_OPEN (R182–R186): the slot's next window, in the order of starts, whose start has come opens, or never runs. `history` is the 80
ADC codes the filter already holds (R178), and the input's clipped intervals count in them too (R177). A void slot yields its void verdict at
once (R105). -/
def execWindowOpen (t : Nat) (slot : Slot) (history : List Int) (s : State) : Host.Outcome State Fault Refusal :=
  devStep t (fun _ d =>
    let k := slot.val
    let x := d.slot k
    match x.asked with
    | asked :: rest =>
      if d.now < asked.start then d
      else
        let w := { asked with stop := asked.start + 32 * d.val (Obj.slotWindowLength k) }
        let d := d.setSlot k { x with asked := rest }
        if d.val (Obj.tileState (tileOfSlot k)) != 0 || d.calInterrupts 1 (k / 16) then
          (d.voidRequest k w.start w.stop w.shot).spoilShot (d.groupOf w.lane) w.shot .unitVoid w.start (2 ^ 15 + k)
        else
          let causes := d.windowCauses k w
          let d := if causes.contains .windowConflict then d.bump (Obj.laneWindowConflicts w.lane) else d
          if !causes.isEmpty then d.neverRuns k w causes
          else
            let from' := w.start - w.start % 2 - 160
            (d.countClipped (k / 16) from' (history.drop ((160 - (w.start - w.start % 2)) / 2)) 0).openWindow k w history
    | [] => d) s

/-- SLOT_VOID_VERDICT (R186): the void verdict of a window that never runs, at S + 140 ticks. -/
def execSlotVoidVerdict (t : Nat) (slot : Slot) (s : State) : Host.Outcome State Fault Refusal :=
  devStep t (fun _ d =>
    let k := slot.val
    let x := d.slot k
    match x.voids with
    | (start, stop, shot, _) :: rest =>
      if d.now < start + 140 then d
      else
        (d.setSlot k { x with voids := rest }).slotItem k (voidItem k stop ((stop - start) / 32) shot (start + 140) (d.exportFlag k)) none
    | [] => d) s

/-- SlotSatCount once in a window (R180, R188). -/
def Dev.countSat (d : Dev) (s : Nat) (before after : Bool) : Dev := if after && !before then d.bump (Obj.slotSatCount s) else d

/-- Margin-table entry of a checkpoint (R192). -/
def marginEntry (length n : Nat) : Nat := min (ceilDiv (length - n) 5 - 1) 63

/-- Whether a checkpoint gives a provisional verdict (R193). -/
def OpenWin.provisionalAt (w : OpenWin) : Option Nat :=
  let e := (w.margins[marginEntry w.length w.done]?).getD 0
  let m := bits e 39 0
  let phi := bits e 55 40
  let p := w.point.1
  if w.provEnable && m != 0 && w.provisional.isNone
      && (List.range 3).all (fun i => !(bit w.enable i) || m * 2 ^ 15 ≤ (w.margin p phi i).natAbs) then
    some (w.verdict p phi)
  else none

/-- The next checkpoint of a window, as a sample count (R192). -/
def OpenWin.nextCheck (w : OpenWin) : Nat := 5 * (w.done / 5 + 1)
/-- A slot's `i`-th window, oldest first, replaced. -/
def SlotSt.setWindow (x : SlotSt) (i : Nat) (w : OpenWin) : SlotSt :=
  if i < x.closing.length then { x with closing := x.closing.set i w } else { x with win := some w }
/-- Samples of a window up to a count, from ADC codes, with its saturation and its input's clipped intervals counted (R177, R180, R188). -/
def Dev.feedWindow (d : Dev) (s : Nat) (w : OpenWin) (n : Nat) (adc : List Int) : Dev × OpenWin :=
  let w' := OpenWin.feed (n - w.done) w adc
  let w' := { w' with saturated := w'.saturated || w'.point.2 }
  ((d.countClipped (s / 16) (w.base + 32 * w.done) (takeCodes (16 * (n - w.done)) adc) 0).countSat s w.saturated w'.saturated, w')

/-- WINDOW_CHECKPOINT (R192–R194): the samples of the slot's oldest window with a checkpoint left, up to that checkpoint, where it may issue
its one provisional verdict, 140 ticks after the last of them. `adc` holds the ADC codes since the last command of the window. -/
def execWindowCheckpoint (t : Nat) (slot : Slot) (adc : List Int) (s : State) : Host.Outcome State Fault Refusal :=
  devStep t (fun _ d =>
    let k := slot.val
    let x := d.slot k
    match (x.windows.zip (List.range 8)).find? (fun p => p.1.nextCheck < p.1.length) with
    | none => d
    | some (w, j) =>
      let n := w.nextCheck
      let time := w.start + 32 * n + 140
      if d.now < time then d
      else
        let (d, w') := d.feedWindow k w n adc
        match w'.provisionalAt with
        | none => d.setSlot k (x.setWindow j w')
        | some v =>
          let i : Item :=
            { id := k, value := v, void := false, final := false, windowEnd := w.stop, shot := wrap 32 w.shot
              time := time, grain := 0, flags := 0, length := w.length }
          ((d.setSlot k (x.setWindow j { w' with provisional := some v })).bump (Obj.slotProvIssued k)).toFabric false k i) s

/-- FINAL_VERDICT (R188–R197): the last samples of the slot's oldest window, its grain and its verdict, 140 ticks after its end. -/
def execFinalVerdict (t : Nat) (slot : Slot) (adc : List Int) (s : State) : Host.Outcome State Fault Refusal :=
  devStep t (fun _ d =>
    let k := slot.val
    let x := d.slot k
    match x.windows with
    | [] => d
    | w :: _ =>
      if d.now < w.stop + 140 then d
      else
        let (d, w') := d.feedWindow k w w.length adc
        let p := w'.point.1
        let i : Item :=
          { id := k, value := w'.verdict p (2 ^ 15), void := false, final := true, windowEnd := w.stop, shot := wrap 32 w.shot
            time := w.stop + 140, grain := grainWord p
            flags := ofBool w'.clipped + 2 * ofBool w'.saturated + d.exportFlag k, length := w.length }
        let rest := if x.closing.isEmpty then { x with win := none } else { x with closing := x.closing.drop 1 }
        (d.setSlot k rest).slotItem k i w.provisional) s

/-! ### Requests at the converter die (R91, R126) -/

/-- A window request put among those of its slot, in the order of starts. -/
def insertAsked (w : WinReq) : List WinReq → List WinReq
  | [] => [w]
  | y :: ys => if w.start < y.start then w :: y :: ys else y :: insertAsked w ys

/-- A window request (R183): on time against its start. A late one opens no window, and is handled as a late granule (R92, R126). -/
def Dev.arriveAcquire (d : Dev) (l : Nat) : Dev :=
  let c := d.chain l
  match takeTimed (fun x => match x with | .window .. => true | _ => false) c.timed with
  | some (⟨.window sl stamp shot, why⟩, rest) =>
    let d := d.setChain l { c with timed := rest }
    let g := d.groupOf l
    if d.now + 2 ≤ stamp then
      let x := d.slot sl
      let w : WinReq :=
        { slot := sl, start := stamp, stop := stamp + 32 * d.val (Obj.slotWindowLength sl), lane := l, shot := shot, late := false }
      d.setSlot sl { x with asked := insertAsked w x.asked }
    else
      let miss := fun (ws : List WinReq) => ws.map (fun w => if w.slot = sl && w.start = stamp && w.lane = l then { w with late := true } else w)
      let y := d.group g
      let d := if y.inShot && y.shot = shot then d.setGroup g { y with windows := miss y.windows }
        else { d with shots := d.shots.map (fun r => if r.group = g && r.shot = shot then { r with windows := miss r.windows } else r) }
      d.lateGranule l shot stamp why false
  | _ => d

/-- A bias request (R262): on time when it arrives at least 2 ticks before its stamp. -/
def Dev.arriveBias (d : Dev) (l : Nat) : Dev :=
  let c := d.chain l
  match takeTimed (fun x => match x with | .bias .. => true | _ => false) c.timed with
  | some (⟨.bias code stamp, why⟩, rest) =>
    let d := d.setChain l { c with timed := rest }
    if d.now + 2 ≤ stamp then
      let c := d.chain l
      d.setChain l { c with biases := c.biases ++ [(stamp, code)] }
    else d.lateRequest l stamp why
  | _ => d

/-- GRANULE_ARRIVE (R91, R92, R126, R157): the oldest granule or request of a kind between the strip and the converter die
arrives, on time or late. -/
def execGranuleArrive (t : Nat) (lane : Lane) (kind : ArriveKind) (s : State) : Host.Outcome State Fault Refusal :=
  devStep t (fun _ d =>
    match kind with
    | .granule => d.arriveGranule lane.val
    | .marker => d.arriveMarker lane.val
    | .acquire => d.arriveAcquire lane.val
    | .bias => d.arriveBias lane.val
    | .frame => d.arriveFrame lane.val) s

end Sys2Proof.Machine
end

