-- ==== Sys2Proof/Machine/Bias.lean ====
section
/-! DEFINITION. DC bias outputs (chapter 11): targets, the slew limiter and tracking. -/

namespace Sys2Proof.Machine

/-- Step size and interval in force, the interval in ticks (R260): BiasSafeSlew during a power-up or fault move. -/
def Dev.biasRate (d : Dev) (l : Nat) (b : BiasOut) : Nat × Nat :=
  match b.move with
  | .powerUp | .fault =>
    let v := d.val (Obj.biasSafeSlew l)
    (bits v 12 0, 1000 * bits v 31 16)
  | .normal | .held => (d.val (Obj.biasStep l), 1000 * d.val (Obj.biasInterval l))

/-- The code one step toward a target (R260). -/
def stepToward (code target step : Nat) : Nat :=
  if code ≤ target then (if target - code ≤ step then target else code + step)
  else if code - target ≤ step then target else code - step

/-- Grid time of the next step instant of an output (R261). -/
def Dev.nextStep (d : Dev) (l : Nat) (b : BiasOut) : Nat :=
  match b.lastStep with
  | some s => max (max b.effect b.heldTill) (s + (d.biasRate l b).2)
  | none => max b.effect b.heldTill

/-- A target in force from a time, by a request or not. -/
def Dev.setTarget (d : Dev) (l code time : Nat) (byRequest : Bool) : Dev :=
  let b := d.biasOut l
  (d.setBias l { b with target := code, move := .normal, effect := time, byRequest := byRequest }).put (Obj.biasTargetTime l) time
/-- A target takes effect unless one of a later effect time is in force, or a request's of the same tick: the commit applies first and the request
prevails (R258). -/
def Dev.newTarget (d : Dev) (l code time : Nat) (byRequest : Bool) : Dev :=
  let b := d.biasOut l
  if time < b.effect || (time = b.effect && b.byRequest && !byRequest) then d else d.setTarget l code time byRequest

/-- Whether the safe state holds an output at its fault value (R259). -/
def Dev.faultHolds (d : Dev) : Bool := d.faults.safe != 0

/-- The due bias requests of a lane, in stamp order, each in force or discarded (R258, R259, R477). -/
def Dev.biasDue (d : Dev) (l : Nat) : Dev :=
  let c := d.chain l
  let due := c.biases.filter (fun p => p.1 ≤ d.now)
  let d := d.setChain l { c with biases := c.biases.filter (fun p => d.now < p.1) }
  due.foldl (fun e p => if e.faultHolds || e.power.preparing then e.bump (Obj.biasDiscards l) else e.newTarget l p.2 p.1 true) d

/-- BIAS_TARGET_EFFECT (R258, R259): requests whose stamp has come set the target, or are discarded in the safe state. -/
def execBiasTargetEffect (t : Nat) (lane : Lane) (s : State) : Host.Outcome State Fault Refusal :=
  devStep t (fun _ d => d.biasDue lane.val) s

/-- BIAS_STEP_INSTANT (R260, R261): the limiter steps at its step instant; the ball moves at exactly that tick. -/
def execBiasStepInstant (t : Nat) (lane : Lane) (s : State) : Host.Outcome State Fault Refusal :=
  devStep t (fun _ d =>
    let l := lane.val
    let b := d.biasOut l
    let due := d.nextStep l b
    if b.move = .held || b.code = b.target || d.now < due || d.calInterrupts 3 l then d
    else
      let code := stepToward b.code b.target (d.biasRate l b).1
      (d.setBias l { b with code := code, lastStep := some due }).emit (.biasStep l code due)) s

/-- BIAS_TRACKING_FAIL (R267): the tracking difference is reported; one above 50 mV is the Grave tracking fault. -/
def execBiasTrackingFail (t : Nat) (lane : Lane) (errorMicrovolt : Int) (s : State) : Host.Outcome State Fault Refusal :=
  devStep t (fun _ d =>
    let l := lane.val
    let d := d.put (Obj.biasTrackError l) (ofInt 32 errorMicrovolt)
    if 50000 < errorMicrovolt.natAbs then
      let d := d.setBias l { d.biasOut l with failed := true }
      d.raise 3 true
    else d) s

/-- BiasState (Table 11-3). -/
def Dev.biasState (d : Dev) (l : Nat) : Nat :=
  let b := d.biasOut l
  if b.failed then 5
  else if b.move = .held then 4
  else if d.faultHolds then 3
  else if b.code = b.target then 0
  else if b.move = .powerUp then 2
  else 1

end Sys2Proof.Machine
end

