-- ==== Sys2Proof/Machine/Access.lean ====
section
/-! DEFINITION. Who may read and write which object (R44, R45, R53–R56, chapter rules), the response to a request (R49, R51), and the
checks of R20 on a written value. -/

namespace Sys2Proof.Machine

/-! ### Abort codes (Table 2-8) -/

/-- 0x05040001: operation not valid. -/
def abortOperation : Nat := 0x05040001
/-- 0x06090030: value outside its range. -/
def abortRange : Nat := 0x06090030
/-- 0x08000021: write refused by local control. -/
def abortLocal : Nat := 0x08000021
/-- 0x08000022: refused in the present device state. -/
def abortState : Nat := 0x08000022
/-- 0xA0000001: partition has no access. -/
def abortAccess : Nat := 0xA0000001
/-- 0xA0000002: commit pending. -/
def abortPending : Nat := 0xA0000002
/-- 0xA0000003: staged writes from more than one path. -/
def abortPaths : Nat := 0xA0000003
/-- 0xA0000004: unit not idle. -/
def abortBusy : Nat := 0xA0000004
/-- 0xA0000005: change records exhausted. -/
def abortRecords : Nat := 0xA0000005
/-- 0xA0000006: digest mismatch. -/
def abortDigest : Nat := 0xA0000006
/-- 0xA0000007: flash wear limit reached. -/
def abortWear : Nat := 0xA0000007
/-- 0xA0000008: unit void. -/
def abortVoid : Nat := 0xA0000008
/-- 0xA0000009: group check failed. -/
def abortCheck : Nat := 0xA0000009

/-! ### Ownership of units (R45) -/

/-- Whether a partition owns every lane of a strip. -/
def Dev.ownsStrip (d : Dev) (p k : Nat) : Bool := (stripLanes k).all (fun l => d.laneOwner l = p)
/-- Whether a partition owns every lane and input of a tile. -/
def Dev.ownsTile (d : Dev) (p k : Nat) : Bool :=
  (tileLanes k).all (fun l => d.laneOwner l = p) && (tileInputs k).all (fun i => d.inputOwner i = p)

/-- Whether a partition may read an object (R45). -/
def Dev.mayRead (d : Dev) (p idx sub : Nat) : Bool :=
  if p = 0 || idx < 0x3000 then true
  else if idx < 0x3200 then d.laneOwner (idx - 0x3000) = p
  else if idx < 0x3400 then d.laneOwner (idx - 0x3200) = p
  else if idx < 0x3440 then d.inputOwner (idx - 0x3400) = p
  else if idx < 0x3840 then d.inputOwner ((idx - 0x3440) / 16) = p
  else if idx < 0x3880 then
    let k := idx - 0x3840
    if (0x10 ≤ sub && sub ≤ 0x27) then d.laneOwner (8 * k + sub % 8) = p
    else (stripLanes k).any (fun l => d.laneOwner l = p)
  else if idx < 0x3900 then
    let k := idx - 0x3880
    (tileLanes k).any (fun l => d.laneOwner l = p) || (tileInputs k).any (fun i => d.inputOwner i = p)
  else if idx < 0x3A00 then d.cellOwner (idx - 0x3900) = p
  else d.tableOwner (idx - 0x3A00) = p

/-- Owner code of a DMA channel (PcieDmaOwner). -/
def Dev.dmaOwner (d : Dev) (c : Nat) : Nat := d.val (Obj.pcieDmaOwner c)
/-- Owner code of a capture engine (CapOwner). -/
def Dev.capOwner (d : Dev) (e : Nat) : Nat := d.val (Obj.capOwner e)
/-- Installation-only flag of an event channel (Table 17-4). -/
def Dev.chanInstall (d : Dev) (c : Nat) : Bool := bit (d.val (Obj.evtChannelCfg c)) 8

/-- Whether a partition owns every slot and cell of a shot group's staged sheaf scope and its ring (chapter 12). -/
def Dev.ownsSheaf (d : Dev) (p g : Nat) : Bool :=
  let first := d.stagedVal (Obj.sheafFirstSlot g)
  let n := d.stagedVal (Obj.sheafSlotCount g)
  let c0 := d.stagedVal (Obj.sheafFirstCell g)
  let cn := d.stagedVal (Obj.sheafCellCount g)
  let ring := d.stagedVal (Obj.sheafRing g)
  (List.range 64).all (fun i => 16 * i + 16 ≤ first || first + n ≤ 16 * i || d.inputOwner i = p)
    && (List.range 256).all (fun c => c < c0 || c0 + cn ≤ c || d.cellOwner c = p)
    && (domLength ring = 0 || regionOwner (d.region (domRegion ring)) = p)

/-- Whether an object's table gives it access RO or CONST, which every write meets with the refusal of R22. -/
def readOnly (idx sub : Nat) : Bool := (rowAt idx sub).any (fun r => r.acc = .ro || r.acc = .konst)
/-- Whether a partition may write an object: R44, R45 and the ownership rule of the object's chapter. A write of an RO or CONST object of a
unit it owns passes here and meets R22. -/
def Dev.mayWrite (d : Dev) (p idx sub : Nat) : Bool :=
  if p = 0 then true
  else if idx < 0x3000 then
    if idx * 256 + sub = Obj.timeSnapshot then true
    else if idx = 0x2E03 then sub = p + 1
    else if idx = 0x2501 then d.chanOwner (sub - 1) = p && !(d.chanInstall (sub - 1))
    else if idx = 0x2503 then d.chanOwner (sub - 1) = p && !(d.chanInstall (sub - 1))
    else if idx = 0x2504 then true
    else if idx = 0x2506 then d.chanOwner (sub - 1) = p
    else if 0x2510 ≤ idx && idx ≤ 0x2517 then
      let c := 16 * (idx - 0x2510) + (sub - 1) / 8
      d.chanOwner c = p && !(d.chanInstall c)
    else if 0x2910 ≤ idx && idx ≤ 0x2918 then idx - 0x2910 = p
    else if 0x2A40 ≤ idx && idx ≤ 0x2A47 then sub != 2 && d.capOwner (idx - 0x2A40) = p
    else if 0x2A80 ≤ idx && idx ≤ 0x2ABF then d.ownsSheaf p (idx - 0x2A80)
    else if 0x2B10 ≤ idx && idx ≤ 0x2B1F then d.ownsTile p (idx - 0x2B10)
    else if 0x2E10 ≤ idx && idx ≤ 0x2E18 then idx - 0x2E10 = p
    else if 0x2E20 ≤ idx && idx ≤ 0x2E2F then d.dmaOwner (idx - 0x2E20) = p
    else if 0x2F40 ≤ idx && idx ≤ 0x2F7F then d.ownsStrip p (idx - 0x2F40)
    else false
  else if 0x3200 ≤ idx && idx < 0x3400 then (sub ≤ 4 || readOnly idx sub) && d.laneOwner (idx - 0x3200) = p
  else if 0x3840 ≤ idx && idx < 0x3880 then d.ownsStrip p (idx - 0x3840)
  else if 0x3880 ≤ idx && idx < 0x3900 then d.ownsTile p (idx - 0x3880)
  else d.mayRead p idx sub

/-! ### The two paths with limits of their own (R55, Table 2-6) -/

/-- The class of objects a CAN write belongs to: its bit of DevCanWriteMask (R55, R266, R268, R442, R447). -/
def canClass (idx sub : Nat) : Nat :=
  if 0x3200 ≤ idx && idx < 0x3400 && sub ≤ 4 then 0
  else if idx = 0x1017 || idx * 256 + sub = Obj.canNmtState then 1
  else if idx = 0x2000 && sub = 3 then 2
  else if idx * 256 + sub = Obj.faultLeaveSafe then 3
  else if idx = Obj.faultSticky 0 / 256 then 3
  else 4

/-- Local control of a write on a path: 0 when it lets the write through. -/
def Dev.localControl (d : Dev) (path : Path) (idx sub : Nat) : Nat :=
  match path with
  | .can => if bit (d.val Obj.devCanWriteMask) (canClass idx sub) then 0 else abortLocal
  | .gargor _ => if d.flag Obj.devGargorRemoteWrite then 0 else abortLocal
  | _ => 0

/-- Whether start-up has stopped for want of an image alone and memory is ready, so that PF0 may place one (R475). -/
def Dev.imageOpen (d : Dev) : Bool := d.val Obj.pwrStartStop = 3 && d.val Obj.memState = 3 && d.faults.safe != 2
/-- Whether a write is served then. -/
def Dev.imageWrite (d : Dev) (path : Path) (idx sub : Nat) : Bool :=
  path = .pf0 && d.imageOpen
    && ((memberOf idx sub).any (fun m => m.1 = .memory || m.1 = .csImage || (m.1 = .dmaChannel && d.dmaOwner m.2 = 0))
        || idx * 256 + sub = Obj.memCommit || idx * 256 + sub = Obj.csCommit
        || (0x2E20 ≤ idx && idx ≤ 0x2E2F && sub = 1 && d.dmaOwner (idx - 0x2E20) = 0)
        || idx = 0x2E01 || idx = 0x2E03)

/-- Whether the device's state lets a write in: mailboxes open (R475), no Grave latch (R445); HeartbeatTime always. -/
def Dev.writesOpen (d : Dev) (path : Path) (idx sub : Nat) : Bool :=
  idx = 0x1017 || (d.faults.safe != 2 && (d.val Obj.devState != 0 || d.imageWrite path idx sub))

/-- Whether a path's partition is enabled (DevPartitionsEnabled, Table 2-7). -/
def Dev.pathOpen (d : Dev) (path : Path) : Bool := (Path.partition path) = 0 || bit (d.val Obj.devPartitionsEnabled) (Path.partition path)

/-! ### Values (R19–R22) -/

/-- The row of an object, or the abort of R17. Sub-index 0 of an index with several sub-indices is its highest one (R16). -/
def lookupRow (idx sub : Nat) : Row ⊕ Nat :=
  match rowAt idx sub with
  | some r => .inl r
  | none =>
    if !(indexExists idx) then .inr 0x06020000
    else if sub = 0 && 1 < highestSub idx then
      .inl { base := idx, count := 1, lo := 0, hi := 0, ty := .u8, acc := .ro, dflt := highestSub idx, reserved := 0
             write := .any, group := .any, member := none }
    else .inr 0x06090011

/-- The checks of R20 and of the object's table on a written value: 0 when it passes. -/
def Row.valueAbort (r : Row) (data : List Byte) : Nat :=
  let v := ofLe data
  if data.length != r.ty.size then 0x06070010
  else if (v &&& (r.reserved ||| r.ty.reserved)) != 0 then abortRange
  else if r.ty = .bool && 1 < v then abortRange
  else if r.ty = .wall && 1000000000 ≤ bits v 93 64 then abortRange
  else if r.ty = .domain && 1023 < domRegion v then abortRange
  else if r.write.ok v then 0 else abortRange

/-- A DOMAIN written: an empty one is always accepted; otherwise it lies inside a region the writer's partition owns, partition 0's
writes not excepted (R21; log entry 24). -/
def Dev.domainAbort (d : Dev) (p v : Nat) : Nat :=
  if domLength v = 0 then 0
  else if !(d.domFits v) then abortRange
  else if regionOwner (d.region (domRegion v)) != p then abortAccess
  else 0

/-! ### Responses (R49, R51, Table 2-6) -/

/-- The bytes of a response record (R49). -/
def responseBytes (op tag idx sub ty : Nat) (data : List Byte) (abort : Nat) : List Byte :=
  leBytes 1 op ++ leBytes 1 tag ++ leBytes 2 idx ++ leBytes 1 sub ++ leBytes 1 0 ++ leBytes 2 ty ++ leBytes 4 data.length
    ++ leBytes 4 abort ++ data

/-- The PCI Express function of a path. -/
def Path.function : Path → Option Nat
  | .pf0 => some 0
  | .vf n => some (n.val + 1)
  | _ => none

/-- Whether a path takes requests: a virtual function that SR-IOV leaves disabled has none (R354), a request rung before a link-down or
reset completes (R352), and CAN serves in its operational and pre-operational states (R369). -/
def Dev.pathUp (d : Dev) (path : Path) : Bool :=
  match Path.function path with
  | some f => d.power.readsOpen && ((d.val Obj.pcieLinkState = 2 && f ≤ d.val Obj.pcieNumVfs) || !(d.fn f).stale.isEmpty)
  | none =>
    d.power.readsOpen && (path != .can || ((d.val Obj.canNmtState = 5 || d.val Obj.canNmtState = 127) && d.val Obj.canBusState != 2))

/-- The 14 paths of Table 2-6, in the order of their numbers. -/
def allPaths : List Path := [.pf0] ++ (List.finRange 8).map Path.vf ++ [.can] ++ (List.finRange 4).map Path.gargor
/-- Whether a request submitted on a path waits to be served: in its function's mailbox, or recorded for the path (R51, R356). -/
def Dev.waitsOn (d : Dev) (path : Path) : Bool :=
  d.pathUp path && (match Path.function path with
    | some f => (d.fn f).mailbox = 1 || !(d.fn f).stale.isEmpty
    | none => (SMap.find d.outstanding (Path.number path)).isSome)
/-- How many paths come before a path in the order of serving, after the path served last (R51). -/
def Dev.turnRank (d : Dev) (path : Path) : Nat := (Path.number path + 13 - d.servedPath) % 14
/-- Whether it is a path's turn: no path that comes before it has a request waiting (R51). -/
def Dev.pathTurn (d : Dev) (path : Path) : Bool := allPaths.all (fun q => !(d.waitsOn q) || d.turnRank path ≤ d.turnRank q)
/-- Whether a request of a path is served now: the path takes requests and it is its turn (R51; log entry 48). -/
def Dev.pathThere (d : Dev) (path : Path) : Bool := d.pathUp path && d.pathTurn path

/-- The request a record spells (R48): tag, index, sub-index, expected type, and the data its length states. -/
def recordRequest (record : List Byte) : Request :=
  { tag := field record 1 1, index := field record 2 2, sub := field record 4 1, typ := field record 6 2
    data := (record.drop 16).take (field record 8 4) }
/-- The record that waits on a path (R51): one rung before a reset (R352), the one submitted in the function's mailbox, or the one a dictionary
frame has brought. -/
def Dev.record (d : Dev) (path : Path) : Option (List Byte) :=
  match Path.function path with
  | some f =>
    match (d.fn f).stale with
    | r :: _ => some r
    | [] => if (d.fn f).mailbox = 1 then some (d.fn f).request else none
  | none => SMap.find d.outstanding (Path.number path)
/-- The request an operation serves on a path: the record that waits there, which has to ask for that operation (R48, R356, R388); where none
waits, the one the command names (log entry 48). -/
def Dev.onPath (d : Dev) (path : Path) (op : Nat) (req : Request) : Option Request :=
  match d.record path with
  | some bs => if field bs 0 1 = op then some (recordRequest bs) else none
  | none => some req
/-- Whether a segmented transfer of another object occupies the CAN path. -/
def Dev.canBusy (d : Dev) (index sub : Nat) : Bool := d.can.transfer.any (fun x => x.1 != index || x.2.1 != sub)
/-- Whether a named write of a value is what its path holds: the record that waits there asks for just that write, or none waits (R51). -/
def Dev.asksFor (d : Dev) (path : Path) (key v : Nat) : Bool :=
  match d.record path with
  | some bs =>
    let q := recordRequest bs
    field bs 0 1 = 2 && q.index * 256 + q.sub = key
      && (rowAt (keyIndex key) (keySub key)).any (fun r => (q.typ = 0 || q.typ = r.ty.code) && q.data = leBytes r.ty.size v)
  | none => !(path = .can && d.canBusy (keyIndex key) (keySub key))

/-- Tag of the request outstanding on a path: byte 1 of its record (R48); 0 when none is recorded. -/
def Dev.tagOf (d : Dev) (path : Path) : Nat := field ((d.record path).getD []) 1 1

/-- A response put into a function's mailbox and signalled (R357). -/
def Dev.mailboxAnswer (d : Dev) (path : Path) (f op tag idx sub ty : Nat) (data : List Byte) (abort : Nat) : Dev :=
  let d := d.setFn f { d.fn f with mailbox := 2, request := [], response := responseBytes op tag idx sub ty data abort }
  (d.msix f 0).emit (.response path tag idx sub ty data abort)
/-- A response delivered on its path; an abort is counted (R49, R51, R356, R357). A response that a reset discarded is dropped
(R352). -/
def Dev.respond (d : Dev) (path : Path) (op tag idx sub ty : Nat) (data : List Byte) (abort : Nat) : Dev :=
  let data := if abort = 0 then data else []
  let d := if abort = 0 then d else d.bump Obj.devMailboxAborts
  let d := { d with outstanding := SMap.del d.outstanding (Path.number path), servedPath := Path.number path }
  match path with
  | .can => d.emit (.usdo (0x580 + d.can.nodeId) idx sub ty data abort)
  | .gargor p => (d.sendFrame p.val 4 (responseBytes op tag idx sub ty data abort)).emit (.response path tag idx sub ty data abort)
  | _ =>
    match (Path.function path) with
    | none => d
    | some f =>
      let x := d.fn f
      match x.stale with
      | _ :: rest => d.setFn f { x with stale := rest }
      | [] => d.mailboxAnswer path f op tag idx sub ty data abort

/-- The answer to a write of a named object: 0 for success. -/
def Dev.answerWrite (d : Dev) (path : Path) (key abort : Nat) : Dev :=
  let ty := match rowAt (keyIndex key) (keySub key) with
    | some r => r.ty.code
    | none => 0
  d.respond path 2 (d.tagOf path) (keyIndex key) (keySub key) ty [] abort

/-- The checks every write of a named object passes before its own rule: state, path, partition (R44, R45, R55, R445, R475). -/
def Dev.writeGate (d : Dev) (path : Path) (key : Nat) : Nat :=
  let idx := keyIndex key
  let sub := keySub key
  if !(d.pathOpen path) then abortState
  else if !(d.mayWrite (Path.partition path) idx sub) then abortAccess
  else if d.localControl path idx sub != 0 then d.localControl path idx sub
  else if !(d.writesOpen path idx sub) then abortState
  else 0

/-- A write of `v` to a named object through its gate: the effect gives the abort code it answers. A path that holds another request does not
serve it; over CAN it is discarded and counted while another transfer runs (R51, R52). -/
def Dev.gated (d : Dev) (path : Path) (key v : Nat) (f : Dev → Dev × Nat) : Dev :=
  if !(d.pathThere path) then d
  else if !(d.asksFor path key v) then (if path = .can then d.bump Obj.devMailboxDiscards else d)
  else match d.writeGate path key with
  | 0 => let r := f d; r.1.answerWrite path key r.2
  | a => d.answerWrite path key a

/-- A write of a value to a named object: the checks of R20 on the value come before its rule. -/
def Dev.gatedValue (d : Dev) (path : Path) (key value : Nat) (f : Dev → Dev × Nat) : Dev :=
  d.gated path key value (fun d =>
    match rowAt (keyIndex key) (keySub key) with
    | some r =>
      let data := leBytes r.ty.size value
      match r.valueAbort data with
      | 0 => if r.ty = .domain && d.domainAbort (Path.partition path) value != 0 then (d, d.domainAbort (Path.partition path) value) else f d
      | a => (d, a)
    | none => f d)

end Sys2Proof.Machine
end

