-- ==== Sys2Proof/Machine/Time.lean ====
section
/-! DEFINITION. Grid, wall and network time (chapter 3): the reference and its loss, epoch alignment, the servo, time messages.
Link stamps are in 2^-16 ns of grid time, epoch stamps in 2^-16 tick, wall time in 2^-48 ns. -/

namespace Sys2Proof.Machine

/-! ### Wall time (R71, R72, R75, R85) -/

/-- TimeRate *y*. -/
def Dev.rate (d : Dev) : Int := d.ival 32 Obj.timeRate
/-- A port of a role (Table 3-5): 0 disabled, 1 master, 2 slave, 3 transparent. -/
def Dev.role (d : Dev) (p : Nat) : Nat := d.val (Obj.ptpPortRole p)
/-- The slave port. -/
def Dev.slavePort (d : Dev) : Option Nat := (List.range 4).find? (fun p => d.role p = 2)

/-- Whether a slave port is steering: TimeServoEnable 0 measures without steering (R75, Table 3-5). -/
def Dev.steers (d : Dev) : Bool := d.slavePort.isSome && d.flag Obj.timeServoEnable
/-- Wall time at a grid time in 2^-16 tick (R72, R75): the rate ratio, or whole oscillator cycles of 80 ticks on the fallback
counter, scaled by the servo while a slave port steers (log entry 18). After RESET_N it stands at 0 until it is set or stepped (R71). -/
def Dev.wallAt (d : Dev) (g : Int) : Int :=
  let c := d.clock
  let past := g - c.wallTick * 65536
  if !c.wallSet then c.wallBase
  else if d.flag Obj.timeOnFallback then
    let cycles := past / (80 * 65536)
    let step := cycles * (d.val Obj.timeFallbackIncrement : Nat) * 2 ^ 16
    c.wallBase + (if d.steers then step * (2 ^ 40 + d.rate) / 2 ^ 40 else step)
  else c.wallBase + past * (2 ^ 40 + d.rate) / (10 * 2 ^ 8)
/-- Wall time now. -/
def Dev.wallNow (d : Dev) : Nat := (d.wallAt (d.now * 65536)).toNat
/-- Wall time at a link stamp, truncated to 2^-16 ns. -/
def Dev.wallStamp (d : Dev) (stamp : Nat) : Int := d.wallAt (10 * stamp) / 2 ^ 32
/-- WALLTIME layout (Table 2-2), truncated to 2^-16 ns (R72). -/
def wallWord (w : Nat) : Nat :=
  let ns := w / 2 ^ 48
  wrap 64 (ns / 1000000000) + (ns % 1000000000) * 2 ^ 64 + (w / 2 ^ 32 % 2 ^ 16) * 2 ^ 96
/-- Wall time of a WALLTIME value. -/
def wallOf (v : Nat) : Nat := (bits v 63 0 * 1000000000 + bits v 93 64) * 2 ^ 48 + bits v 111 96 * 2 ^ 32
/-- The tick wall time counts on from: now, or on the fallback counter the last whole oscillator cycle, so that the cycle that runs is not
lost (R75). -/
def Dev.wallEdge (d : Dev) : Nat :=
  if d.flag Obj.timeOnFallback then d.clock.wallTick + (d.now - d.clock.wallTick) / 80 * 80 else d.now
/-- Wall time counted on from now, so that a new rate or increment applies from the next tick or cycle (R72, R75). -/
def Dev.rebase (d : Dev) : Dev := { d with clock := { d.clock with wallBase := d.wallNow, wallTick := d.wallEdge } }
/-- Wall time stepped, counted in TimeStepCount (R73, R74). Below 0 it is not stated (log entry 3). -/
def Dev.stepWall (d : Dev) (w : Int) : Dev :=
  let d := if 0 ≤ w then { d with clock := { d.clock with wallBase := w.toNat, wallTick := d.wallEdge, wallSet := true } }
    else ({ d with clock := { d.clock with wallBase := d.freeNow, wallTick := d.wallEdge, wallSet := true } } : Dev).used
  d.bump Obj.timeStepCount

/-- TIME_WALL_SET (R74): the value written becomes wall time; grid time and stamps stand. -/
def Dev.setWall (d : Dev) (value : Nat) : Dev := d.stepWall (wallOf value)
/-- TIME_WALL_SET (R74). -/
def execTimeWallSet (t : Nat) (path : Path) (value : Nat) (s : State) : Host.Outcome State Fault Refusal :=
  devStep t (fun _ d => d.gatedValue path Obj.timeWallSet value (fun d => (d.setWall value, 0))) s

/-- A pair latched for a path (R85). -/
def Dev.snapshot (d : Dev) (path : Path) (value : Nat) : Dev × Nat :=
  if value != 1 then (d, abortRange)
  else ({ d with clock := { d.clock with snaps := SMap.set d.clock.snaps (Path.number path) (d.now, wallWord d.wallNow) } }, 0)
/-- TIME_SNAPSHOT (R85). -/
def execTimeSnapshot (t : Nat) (path : Path) (value : Nat) (s : State) : Host.Outcome State Fault Refusal :=
  devStep t (fun _ d => d.gatedValue path Obj.timeSnapshot value (fun d => d.snapshot path value)) s

/-- FALLBACK_MEASURE (R75): the oscillator cycles counted over one second give the increment that would have matched. -/
def execFallbackMeasure (t : Nat) (cycles : Nat) (s : State) : Host.Outcome State Fault Refusal :=
  devStep t (fun _ d =>
    if d.flag Obj.timeFallbackAuto && d.val Obj.timeRefState = 0 && 0 < cycles then
      d.put Obj.timeFallbackIncrement (wrap 64 (1000000000 * 2 ^ 32 / cycles))
    else d) s

/-! ### The reference (R63–R65, Table 3-2) -/

/-- Every window in progress void, and every entry squashed (R186, R229). -/
def Dev.voidAll (d : Dev) (r : Reason) : Dev :=
  let open' := (d.slots.filter (fun p => p.2.win.isSome)).map (fun p => p.1)
  let d := open'.foldl (fun e k => e.voidOpenWindow k r) d
  let lanes := (d.vpt.map (fun p => p.2.lane)).eraseDups
  lanes.foldl Dev.squashLane d

/-- Whether a loss of the reference may be declared: it is present, qualified or not (R63). -/
def Dev.refPresent (d : Dev) : Bool := d.val Obj.timeRefState = 0 || d.val Obj.timeRefState = 3
/-- The reference declared lost: `code` 1 edges missing, 2 frequency; `edge` is t₀ (R64, Table 3-2). -/
def Dev.loseReference (d : Dev) (code edge : Nat) : Dev :=
  let d := if d.flag Obj.timeOnFallback then d
    else { d with clock := { d.clock with wallBase := (d.wallAt (edge * 65536)).toNat, wallTick := edge } }
  let d := ((d.put Obj.timeOnFallback 1).put Obj.timeRefState code).put Obj.timeGridState 3
  let d := d.bump Obj.timeRefLosses
  let shots := d.shotsNow
  let d := d.spoilAll .referenceLost
  let d := shots.foldl (fun e p =>
    let x := e.group p.1
    let lanes := if x.inShot && x.shot = p.2 then x.took
      else ((e.shots.find? (fun y => y.group = p.1 && y.shot = p.2)).map ShotRec.members).getD []
    lanes.foldl (fun e l => e.mute l p.2 e.now) e) d
  let d := d.voidAll .referenceLost
  let d := d.pinsLow d.now
  d.abortCal.raise 8 true

/-- REF_EDGES_MISSING (R63): no rising edge for 40 ns since `lastEdge`. -/
def execRefEdgesMissing (t : Nat) (lastEdge : Nat) (s : State) : Host.Outcome State Fault Refusal :=
  devStep t (fun _ d =>
    if d.refPresent && lastEdge + 400 ≤ d.now then d.loseReference 1 lastEdge else d) s

/-- REF_FREQUENCY_GATE (R63): the 1 ms gate's error, in ppb; more than 100 ppm is a loss. -/
def execRefFrequencyGate (t : Nat) (errorPpb : Int) (lastEdge : Nat) (s : State) : Host.Outcome State Fault Refusal :=
  devStep t (fun _ d =>
    let d := d.put Obj.timeRefFreqError (ofInt 32 errorPpb)
    if d.refPresent && 100000 < errorPpb.natAbs && lastEdge ≤ d.now then d.loseReference 2 lastEdge else d) s

/-- REF_RETURN (Table 3-2): present again, grid time unqualified; the outputs stay muted until RESET_N (R65), and
so does the fault's condition: any TimeRefState but 0 counts as declared lost (R186). -/
def execRefReturn (t : Nat) (s : State) : Host.Outcome State Fault Refusal :=
  devStep t (fun _ d =>
    if d.val Obj.timeRefState = 1 || d.val Obj.timeRefState = 2 then d.put Obj.timeRefState 3 else d) s

/-! ### Message bodies (R78, Table 3-4) -/

/-- The 56 bytes of a time or epoch message body. -/
def timeBodyBytes (b : TimeBody) : List Byte :=
  leBytes 1 (16 * b.kind + b.msgType) ++ leBytes 1 b.domain ++ leBytes 2 b.flags ++ leBytes 8 (ofInt 64 b.correction)
    ++ leBytes 8 b.clockIdentity ++ leBytes 2 b.portNumber ++ leBytes 2 b.sequenceId ++ leBytes 1 (ofInt 8 b.logInterval)
    ++ zeros 7 ++ leBytes 6 b.seconds ++ leBytes 4 b.nanos ++ leBytes 8 b.reqClockIdentity ++ leBytes 2 b.reqPortNumber ++ zeros 4

/-- A message of this device on a port: sequence numbers count per port and message type (Table 3-4). -/
def Dev.sendBody (d : Dev) (p : Nat) (b : TimeBody) : Dev :=
  let x := d.ptp p
  let key := 16 * b.kind + b.msgType
  let n := SMap.look x.seqs key 0
  let b := { b with domain := d.val Obj.ptpDomain, clockIdentity := d.val Obj.ptpClockIdentity, portNumber := p + 1, sequenceId := n }
  (d.setPtp p { x with seqs := SMap.set x.seqs key (wrap 16 (n + 1)) }).sendFrame p 2 (timeBodyBytes b)

/-- A body with every field of a plain message. -/
def emptyBody : TimeBody :=
  { kind := 0, msgType := 0, domain := 0, flags := 0, correction := 0, clockIdentity := 0, portNumber := 0, sequenceId := 0
    logInterval := 127, seconds := 0, nanos := 0, reqClockIdentity := 0, reqPortNumber := 0 }

/-! ### Epoch alignment (R66–R69) -/

/-- Whether the follower may apply an offset now: RF disabled, no drill running (R66). -/
def Dev.quiet (d : Dev) : Bool := !(d.flag Obj.devRfEnable) && d.runningLanes.isEmpty
/-- An epoch request sent at stamp `g1`. -/
def Dev.askEpoch (d : Dev) (g1 : Nat) : Dev :=
  let d := { d with clock := { d.clock with epoch := { d.clock.epoch with running := true, port := d.val Obj.timeEpochPort, g1 := g1, retryAt := none } } }
  d.sendBody (d.val Obj.timeEpochPort) { emptyBody with kind := 1 }
/-- Whether the device is a follower that is still to align (R66). DESIGN CHOICE: a role of follower written after start-up finds TimeGridState
1 and aligns at the next reset (log entry 19). -/
def Dev.toAlign (d : Dev) : Bool := d.val Obj.timeEpochRole = 2 && d.val Obj.timeGridState = 0 && d.portActive (d.val Obj.timeEpochPort)
/-- The first of 16 exchanges. -/
def Dev.startEpoch (d : Dev) (g1 : Nat) : Dev :=
  ({ d with clock := { d.clock with epoch := { d.clock.epoch with samples := [], offset := none } } } : Dev).askEpoch g1

/-- Types a port accepts for the delay mechanism in force (Table 3-3). -/
def Dev.supports (d : Dev) (ty : Nat) : Bool :=
  ty = 0 || (if d.val Obj.ptpDelayMechanism = 0 then ty = 1 || ty = 9 else ty = 2 || ty = 3)
/-- Whether a port discards a message (R83). Epoch messages come on any trained port (R66, log entry 20). -/
def Dev.discards (d : Dev) (p : Nat) (b : TimeBody) : Bool :=
  b.domain != d.val Obj.ptpDomain || bit b.flags 1
    || (if b.kind = 0 then
          d.role p = 0 || !(d.supports b.msgType) || (b.msgType = 0 && d.role p = 1) || (b.msgType = 1 && d.role p = 2)
        else if b.kind = 1 then d.val Obj.timeEpochRole != 1
        else b.kind != 2)

/-- Whether an exchange runs on the follower's epoch port: one on a port that TimeEpochPort no longer names is over (R66). -/
def Dev.exchanging (d : Dev) : Bool := d.clock.epoch.running && d.clock.epoch.port = d.val Obj.timeEpochPort
/-- EPOCH_EXCHANGE_START (R66): the epoch port of a follower is trained, or an offset concluded while the device was not quiet is to be measured
again now that it is; `g1` is the first request's egress. DESIGN CHOICE: a request without a
reply keeps the exchange running until the port leaves the trained state or TimeEpochPort names another, and is not sent again before (R67 gives
no timeout; log entry 19). -/
def execEpochExchangeStart (t : Nat) (g1 : Nat) (s : State) : Host.Outcome State Fault Refusal :=
  devStep t (fun _ d =>
    let e := d.clock.epoch
    if d.toAlign && !d.exchanging && e.retryAt.isNone && e.offset.isNone && e.lineTarget = 0
        && (e.samples.length < 16 || d.quiet) then d.startEpoch g1 else d) s

/-- EPOCH_RETRY (R67): one second after a refusal the exchange is made again. -/
def execEpochRetry (t : Nat) (g1 : Nat) (s : State) : Host.Outcome State Fault Refusal :=
  devStep t (fun _ d =>
    if d.toAlign && d.clock.epoch.retryAt.any (fun r => r ≤ d.now) then d.startEpoch g1 else d) s

/-- EPOCH_REQUEST_RECEIVE (R66, R78, R83): the epoch master answers with *g*₂ and *g*₃; another device discards the request. -/
def execEpochRequestReceive (t : Nat) (port : Port) (body : TimeBody) (g2 g3 : Nat) (s : State) : Host.Outcome State Fault Refusal :=
  devStep t (fun _ d =>
    let p := port.val
    if !(d.portActive p) then d
    else
      let d := d.received p 2
      if body.kind != 1 || d.discards p body then d.bump (Obj.ptpRxDiscards p)
      else
        d.sendBody p
        { emptyBody with
          kind := 2, seconds := bits (g2 / 65536) 63 16, nanos := bits (g2 / 65536) 15 0 + (g2 % 65536) * 65536
          correction := g3 / 10, reqClockIdentity := body.clockIdentity, reqPortNumber := body.portNumber }) s

/-- A number put into a rising list. -/
def insertInt (x : Int) : List Int → List Int
  | [] => [x]
  | y :: ys => if x ≤ y then x :: y :: ys else y :: insertInt x ys
/-- Twice the median of 16 values: the sum of the two middle ones. -/
def median2 (xs : List Int) : Int :=
  let m := xs.foldr insertInt []
  (m[7]?).getD 0 + (m[8]?).getD 0

/-- Steps 3–6 of R67 on the 16 exchanges. One unit is 2^-18 of 0.25 ps, so a tick is 400 × 2^18 units. -/
def Dev.concludeEpoch (d : Dev) : Dev :=
  let e := d.clock.epoch
  let unit : Int := 400 * 2 ^ 18
  let skew := d.ival 32 Obj.timeRefSkew
  let q := median2 (e.samples.map Prod.snd) * 400 - skew * 2 ^ 18
  let n := 100 * ((q + 50 * unit) / (100 * unit))
  let d := d.put Obj.timeEpochDelay (ofInt 64 (median2 (e.samples.map Prod.fst) / 40))
  if 25 * unit < (q - n * unit).natAbs then
    let d := (d.bump Obj.timeEpochRefusals).raise 126 false
    { d with clock := { d.clock with epoch := { e with running := false, offset := none, retryAt := some (d.now + ticksS) } } }
  else
    { d with clock := { d.clock with epoch := { e with running := false, offset := if d.quiet then some (400 * n + skew) else none } } }

/-- EPOCH_REPLY_RECEIVE (R67): one exchange's delay and offset. `next` is the egress stamp of the request that follows; after the
sixteenth the device concludes. -/
def execEpochReplyReceive (t : Nat) (port : Port) (body : TimeBody) (g4 next : Nat) (s : State) : Host.Outcome State Fault Refusal :=
  devStep t (fun _ d =>
    let e := d.clock.epoch
    if !(d.portActive port.val) then d
    else if d.discards port.val body then (d.received port.val 2).bump (Obj.ptpRxDiscards port.val)
    else if body.kind != 2 || !d.exchanging || port.val != d.val Obj.timeEpochPort || !d.toAlign then d.received port.val 2
    else
      let d := d.received port.val 2
      let g2 : Int := (body.seconds * 65536 + bits body.nanos 15 0) * 65536 + bits body.nanos 31 16
      let g3 := body.correction * 10
      let d2 := ((g4 : Int) - e.g1) - (g3 - g2)
      let e := { e with samples := e.samples ++ [(d2, 2 * (g2 - e.g1) - d2)] }
      let d := { d with clock := { d.clock with epoch := e } }
      if e.samples.length < 16 then d.askEpoch next else d.concludeEpoch) s

/-- A Gargor port's instants moved. -/
def PortSt.shift (x : PortSt) (m : Nat → Nat) : PortSt :=
  { x with lastSent := m x.lastSent, lastHeard := m x.lastHeard, stateSince := m x.stateSince, remoteSince := x.remoteSince.map m
           bulkSent := m x.bulkSent }
/-- The CAN port's instants moved. -/
def CanSt.shift (x : CanSt) (m : Nat → Nat) : CanSt :=
  { x with lastEmcy := x.lastEmcy.map m, lastBeat := x.lastBeat.map m, transfer := x.transfer.map (fun q => (q.1, q.2.1, m q.2.2)) }
/-- The memory controllers' instants moved. -/
def MemCtl.shift (x : MemCtl) (m : Nat → Nat) : MemCtl :=
  let meters := fun (s : SMap Meter) => s.map (fun p => (p.1, { p.2 with filled := m p.2.filled }))
  let part := fun (p : DdrPart) => { p with req := { p.req with arrived := m p.req.arrived, deadline := m p.req.deadline } }
  { x with queues := x.queues.map (fun q => (q.1, q.2.map part)), scrubs := x.scrubs.map (fun p => (p.1, (m p.2.1, p.2.2)))
           recent := x.recent.map (fun q => (q.1, q.2.map (fun r => (m r.1, r.2)))), streamMeter := meters x.streamMeter
           fetchMeter := meters x.fetchMeter, mr4Time := x.mr4Time.map (fun p => (p.1, m p.2)) }
/-- Times the device still waits for or counts from, moved with the grid count; stamps already given stay (R69). DESIGN CHOICE: every instant
a unit awaits moves, bias steps, wake times, port and CAN timers among them (log entry 19). -/
def Dev.shiftTimes (d : Dev) (by' : Int) : Dev :=
  let m := fun (x : Nat) => ((x : Int) + by').toNat
  { d with
    now := m d.now
    commits := d.commits.map (fun p => (p.1, { p.2 with acceptedAt := m p.2.acceptedAt }))
    clock := { d.clock with wallTick := m d.clock.wallTick, ports := d.clock.ports.map (fun p => (p.1, { p.2 with lastSync := m p.2.lastSync }))
                            epoch := { d.clock.epoch with retryAt := d.clock.epoch.retryAt.map m } }
    faults := { d.faults with handler := d.faults.handler.map m }
    router := { d.router with timers := d.router.timers.map (fun p => (p.1, { p.2 with due := p.2.due.map m })) }
    thermal := { d.thermal with changed := d.thermal.changed.map (fun p => (p.1, m p.2)), grace := d.thermal.grace.map m
                                lastReading := d.thermal.lastReading.map (fun p => (p.1, m p.2)), stepped := m d.thermal.stepped
                                judged := m d.thermal.judged, corrected := m d.thermal.corrected }
    nv := { d.nv with since := m d.nv.since }
    biases := d.biases.map (fun p => (p.1, { p.2 with lastStep := p.2.lastStep.map m, effect := m p.2.effect, heldTill := m p.2.heldTill }))
    units := d.units.map (fun p => (p.1, { p.2 with since := m p.2.since, wakeAt := p.2.wakeAt.map m }))
    monitor := { d.monitor with startedAt := m d.monitor.startedAt, lastActivity := m d.monitor.lastActivity
                                calTime := d.monitor.calTime.map (fun p => (p.1, m p.2)), spareBusy := m d.monitor.spareBusy }
    captures := d.captures.map (fun p => (p.1, { p.2 with
      run := p.2.run.map (CapRun.shift m), follow := p.2.follow.map (CapRun.shift m), heldTrigger := p.2.heldTrigger.map m
      heldShots := p.2.heldShots.map (fun x => (m x.1, x.2)), asked := p.2.asked.map m }))
    chains := d.chains.map (fun p => (p.1, { p.2 with settleAt := m p.2.settleAt }))
    calib := { d.calib with run := d.calib.run.map (fun r => { r with waitSince := m r.waitSince })
                            lastTap := d.calib.lastTap.map (fun p => (p.1, m p.2)), lastAim := d.calib.lastAim.map m }
    trigs := d.trigs.map (fun p => (p.1, { p.2 with lastAccepted := p.2.lastAccepted.map (fun e => { e with tick := m e.tick }) }))
    store := { d.store with checkedAt := d.store.checkedAt.map (fun p => (p.1, m p.2)) }
    ports := d.ports.map (fun p => (p.1, p.2.shift m))
    can := d.can.shift m
    memctl := d.memctl.shift m
    ageing := { d.ageing with lastRecompute := m d.ageing.lastRecompute, operated := d.ageing.operated - by'
                              watchSince := d.ageing.watchSince.map (fun p => (p.1, m p.2)) } }

/-- EPOCH_ALIGN (R68): at a reference edge the follower adds ⌈O⌉ ticks to its count, and its delay lines go to the remainder. O is a
whole number of 0.25 ps, so the remainder is at most 399 steps. An offset found stale waits for a new exchange (R66). -/
def execEpochAlign (t : Nat) (s : State) : Host.Outcome State Fault Refusal :=
  devStep t (fun _ d =>
    let e := d.clock.epoch
    match e.offset with
    | none => d
    | some o =>
      if !d.quiet then { d with clock := { d.clock with epoch := { e with offset := none } } }
      else if d.now % 100 != 0 || d.val Obj.timeRefState != 0 then d
      else
        let up := (o + 399) / 400
        let steps := (up * 400 - o).toNat
        let d := d.rebase.shiftTimes up
        let d := d.put Obj.timeEpochOffset (ofInt 64 up)
        let d := { d with clock := { d.clock with epoch := { e with offset := none, line := 0, lineTarget := steps, lineAt := d.now } } }
        if steps = 0 then d.put Obj.timeGridState 2 else d) s

/-- EPOCH_DELAY_LINE_STEP (R68): one 0.25 ps step, at most one per 1 µs; with the last, grid time is aligned to a peer. DESIGN CHOICE: the
first step comes no sooner than 1 µs after the alignment edge (log entry 19). -/
def execEpochDelayLineStep (t : Nat) (s : State) : Host.Outcome State Fault Refusal :=
  devStep t (fun _ d =>
    let e := d.clock.epoch
    if e.lineTarget ≤ e.line || d.now < e.lineAt + ticksUs then d
    else
      let d := { d with clock := { d.clock with epoch := { e with line := e.line + 1, lineAt := d.now } } }
      if e.line + 1 = e.lineTarget && d.val Obj.timeGridState = 0 then d.put Obj.timeGridState 2 else d) s

/-! ### The servo (R73) -/

/-- A value held between two bounds. -/
def clampI (x lo hi : Int) : Int := max lo (min x hi)

/-- The servo on an offset θ in 2^-16 ns (R73). DESIGN CHOICE: the fraction of *y* that TimeRate cannot hold is dropped toward minus infinity
(log entry 18). -/
def Dev.servo (d : Dev) (theta : Int) : Dev :=
  let last := (theta :: d.clock.offsets).take 8
  let locked := last.length = 8 && last.all (fun x => x.natAbs ≤ 50 * 65536)
  let limit : Int := (d.val Obj.timeServoIntLimit : Nat) * 2 ^ 32
  let big := d.val Obj.timeStepThreshold
  let e := { d with clock := { d.clock with offsets := last } }
  let e := (e.put Obj.timeLocked (ofBool locked)).put Obj.timeOffset (ofInt 64 theta)
  if !(d.flag Obj.timeServoEnable) then e
  else if big != 0 && big * 65536 < theta.natAbs then e.stepWall ((e.wallNow : Int) - theta * 2 ^ 32)
  else
    let integ := clampI (e.clock.integ + (d.val Obj.timeServoKi : Nat) * theta) (-limit) limit
    let y := clampI (-((d.val Obj.timeServoKp : Nat) * theta) - integ) (-2 * limit) (2 * limit) / 2 ^ 32
    let e := e.rebase
    ({ e with clock := { e.clock with integ := integ } } : Dev).put Obj.timeRate (ofInt 32 (satI 32 y))

/-- A sample through the path-delay filter (R80): weight 2^-TimePathDelayFilter. -/
def Dev.filterDelay (d : Dev) (key : Nat) (sample : Int) : Dev :=
  let f := d.ival 64 key
  d.put key (ofInt 64 (f + (sample - f) / 2 ^ (d.val Obj.timePathDelayFilter)))

/-! ### Time messages (R77–R83) -/

/-- A message of one type taken by a port, or discarded and counted. -/
def Dev.takeBody (d : Dev) (p ty : Nat) (b : TimeBody) (f : Dev → Dev) : Dev :=
  if !(d.portActive p) then d
  else
    let d := d.received p 2
    if d.discards p b then d.bump (Obj.ptpRxDiscards p) else if b.kind = 0 && b.msgType = ty then f d else d

/-- A body of this device at a wall time: the ns, and the fraction left over. -/
def stampBody (b : TimeBody) (w : Int) : TimeBody × Int :=
  let ns := (w / (65536 : Int)).toNat
  ({ b with seconds := bits (ns / 1000000000) 47 0, nanos := ns % 1000000000 }, w % 65536)

/-- Wall time of a body's timestamp in 2^-16 ns: the upper 16 bits of seconds are the receiver's (Table 3-3). -/
def Dev.bodyTime (d : Dev) (b : TimeBody) : Int :=
  let own := d.wallNow / 2 ^ 48 / 1000000000
  let ns : Nat := (own / 2 ^ 48 * 2 ^ 48 + b.seconds) * 1000000000 + b.nanos
  (ns * 65536 : Nat)

/-- A message forwarded to every other transparent port, each copy with the residence up to its own port's egress stamp (`residence` lists
them by port) and, for a Sync with peer-to-peer delay, the ingress port's link
delay added (R81). -/
def Dev.forward (d : Dev) (p : Nat) (b : TimeBody) (residence : List Nat) : Dev :=
  if d.val Obj.timeRefState != 0 then d
  else
    let r := fun (q : Nat) =>
      let own : Int := ((residence[q]?).getD 0 : Nat)
      if d.slavePort.isSome then own * (2 ^ 40 + d.rate) / 2 ^ 40 else own
    let link := if b.msgType = 0 && d.val Obj.ptpDelayMechanism = 1 then d.ival 64 (Obj.ptpPeerDelay p) else 0
    let out := fun (q : Nat) => { b with correction := b.correction + r q + link }
    (List.range 4).foldl (fun e q =>
      if q != p && e.role q = 3 && e.portActive q && (residence[q]?).getD 0 ≤ 1000 * 65536 then (e.sendFrame q 2 (timeBodyBytes (out q))).bump (Obj.ptpForwarded q) else e) d

/-- SYNC_SEND (R79): a master port's one-step Sync; none while the reference is lost (Table 3-2). -/
def execSyncSend (t : Nat) (port : Port) (egress : Nat) (s : State) : Host.Outcome State Fault Refusal :=
  devStep t (fun _ d =>
    let p := port.val
    if d.role p != 1 || d.val Obj.timeRefState != 0 || !(d.portActive p) then d
    else
      let b := stampBody { emptyBody with logInterval := d.ival 8 (Obj.ptpLogSyncInterval p) } (d.wallStamp egress)
      (d.sendBody p { b.1 with correction := b.2 }).bump (Obj.ptpSyncSent p)) s

/-- DELAY_REQ_SEND (R79): a slave port's Delay_Req; the device keeps its egress. -/
def execDelayReqSend (t : Nat) (port : Port) (egress : Nat) (s : State) : Host.Outcome State Fault Refusal :=
  devStep t (fun _ d =>
    let p := port.val
    if d.role p != 2 || d.val Obj.ptpDelayMechanism != 0 || !(d.portActive p) then d
    else
      (d.setPtp p { d.ptp p with t3 := d.wallStamp egress }).sendBody p
        { emptyBody with msgType := 1, logInterval := d.ival 8 (Obj.ptpLogDelayReqInterval p) }) s

/-- PDELAY_REQ_SEND (R79): a Pdelay_Req of an enabled port; the device keeps its egress. -/
def execPdelayReqSend (t : Nat) (port : Port) (egress : Nat) (s : State) : Host.Outcome State Fault Refusal :=
  devStep t (fun _ d =>
    let p := port.val
    if d.role p = 0 || d.val Obj.ptpDelayMechanism != 1 || !(d.portActive p) then d
    else (d.setPtp p { d.ptp p with t1 := egress }).sendBody p { emptyBody with msgType := 2 }) s

/-- SYNC_RECEIVE (R80, R81, R83): a slave port measures its offset; a transparent port forwards the message. -/
def execSyncReceive (t : Nat) (port : Port) (body : TimeBody) (ingress : Nat) (residence : List Nat) (s : State) : Host.Outcome State Fault Refusal :=
  devStep t (fun _ d =>
    let p := port.val
    d.takeBody p 0 body (fun d =>
      let d := d.bump (Obj.ptpSyncReceived p)
      if d.role p = 3 then d.forward p body residence
      else
        let delta := d.wallStamp ingress - d.bodyTime body - body.correction
        let delay := if d.val Obj.ptpDelayMechanism = 0 then d.ival 64 Obj.timeMeanPathDelay else d.ival 64 (Obj.ptpPeerDelay p)
        let d := d.setPtp p { d.ptp p with syncDelta := some delta, lastSync := d.now, lastLog := some body.logInterval }
        (d.servo (delta - delay)).unraise 127)) s

/-- DELAY_REQ_RECEIVE (R79, R81): a master port answers with *t*₄; a transparent port forwards the message. -/
def execDelayReqReceive (t : Nat) (port : Port) (body : TimeBody) (ingress : Nat) (residence : List Nat) (s : State) :
    Host.Outcome State Fault Refusal :=
  devStep t (fun _ d =>
    let p := port.val
    d.takeBody p 1 body (fun d =>
      if d.role p = 3 then d.forward p body residence
      else
        let b := stampBody { emptyBody with msgType := 9 } (d.wallStamp ingress)
        d.sendBody p
          { b.1 with correction := body.correction - b.2, reqClockIdentity := body.clockIdentity, reqPortNumber := body.portNumber })) s

/-- DELAY_RESP_RECEIVE (R80, R81): the answer to a slave port's own request gives a path-delay sample. -/
def execDelayRespReceive (t : Nat) (port : Port) (body : TimeBody) (_ingress : Nat) (residence : List Nat) (s : State) :
    Host.Outcome State Fault Refusal :=
  devStep t (fun _ d =>
    let p := port.val
    let x := d.ptp p
    d.takeBody p 9 body (fun d =>
      if d.role p = 3 then d.forward p body residence
      else if d.role p != 2 || body.reqClockIdentity != d.val Obj.ptpClockIdentity || body.reqPortNumber != p + 1 then d
      else
        match x.syncDelta with
        | some delta => d.filterDelay Obj.timeMeanPathDelay ((delta + (d.bodyTime body - x.t3 - body.correction)) / 2)
        | none => d)) s

/-- PDELAY_REQ_RECEIVE (R79): answered on every enabled port, with the turnaround; never forwarded. -/
def execPdelayReqReceive (t : Nat) (port : Port) (body : TimeBody) (ingress egress : Nat) (s : State) :
    Host.Outcome State Fault Refusal :=
  devStep t (fun _ d =>
    let p := port.val
    d.takeBody p 2 body (fun d =>
      d.sendBody p
        { emptyBody with msgType := 3, correction := body.correction + ((egress : Int) - ingress)
                         reqClockIdentity := body.clockIdentity, reqPortNumber := body.portNumber })) s

/-- PDELAY_RESP_RECEIVE (R80): the link delay of a port, filtered. -/
def execPdelayRespReceive (t : Nat) (port : Port) (body : TimeBody) (ingress : Nat) (s : State) : Host.Outcome State Fault Refusal :=
  devStep t (fun _ d =>
    let p := port.val
    d.takeBody p 3 body (fun d =>
      if body.reqClockIdentity != d.val Obj.ptpClockIdentity || body.reqPortNumber != p + 1 then d
      else
        let d := d.filterDelay (Obj.ptpPeerDelay p) (((ingress : Int) - (d.ptp p).t1 - body.correction) / 2)
        if d.role p = 2 then d.put Obj.timeMeanPathDelay (d.val (Obj.ptpPeerDelay p)) else d)) s

/-- TIME_MESSAGE_DISCARD (R83). -/
def execTimeMessageDiscard (t : Nat) (port : Port) (body : TimeBody) (s : State) : Host.Outcome State Fault Refusal :=
  devStep t (fun _ d => if d.portActive port.val && d.discards port.val body then (d.received port.val 2).bump (Obj.ptpRxDiscards port.val) else d) s

/-- PTP_SYNC_TIMEOUT (R82): no Sync on the slave port for the timeout; *y* is held, the lock is lost. DESIGN CHOICE: before the first Sync the
wait counts from grid time 0 (log entry 20). -/
def execPtpSyncTimeout (t : Nat) (s : State) : Host.Outcome State Fault Refusal :=
  devStep t (fun _ d =>
    match d.slavePort with
    | none => d
    | some p =>
      let x := d.ptp p
      let n := d.val Obj.ptpSyncTimeout
      let log := x.lastLog.getD (d.ival 8 (Obj.ptpLogSyncInterval p))
      let wait := if log < 0 then n * ticksS / 2 ^ log.natAbs else n * ticksS * 2 ^ log.natAbs
      if n = 0 || d.now < x.lastSync + wait then d else (d.put Obj.timeLocked 0).raise 127 true) s

end Sys2Proof.Machine
end

