-- ==== Sys2Proof/Machine/Thermal.lean ====
section
/-! DEFINITION. The thermal model, throttling and the fault collector's commands (chapter 19). Temperatures are in 2^-32 K, as
Celsius; powers are in mW. -/

namespace Sys2Proof.Machine

/-! ### The model (R431–R433) -/

/-- Temperature of a node; every node starts at the coolant's 25 °C (log entry 21). -/
def Dev.nodeTemp (d : Dev) (i : Nat) : Int := SMap.look d.thermal.temps i (25 * 2 ^ 32)
/-- Correction offset of a die node. -/
def Dev.dieOffset (d : Dev) (i : Nat) : Int := SMap.look d.thermal.offsets i 0
/-- Predicted temperature of a node: for a die node with its offset (R431). -/
def Dev.predicted (d : Dev) (i : Nat) : Int := d.nodeTemp i + d.dieOffset i
/-- A temperature in 0.01 K. -/
def centi (x : Int) : Int := x * 100 / 2 ^ 32

/-- Heat that leaves a node for a neighbour through a resistance in K/W over 2^16, in mW × 2^48. -/
def heatFlow (dt : Int) (r : Nat) : Int := if r = 0 then 0 else dt * 1000 * 2 ^ 32 / r
/-- Change of a node over 1 µs for a net power in mW × 2^48 (R431). -/
def stepOf (i : Nat) (net : Int) : Int := net / (1000000000 * (Config.thermalCapacity i : Nat))

/-- One 1 µs step of the 19 nodes (R431, Table 19-1). -/
def Dev.thermalStep (d : Dev) (powers : List Nat) : Dev :=
  let die := List.range 17
  let power : Nat → Nat := fun i => (powers[i]?).getD 0
  let lid := d.nodeTemp 17
  let plate := d.nodeTemp 18
  let out := fun i => heatFlow (d.nodeTemp i - lid) (Config.thermalResistance i)
  let down := heatFlow (lid - plate) (Config.thermalResistance 17)
  let v := d.val Obj.thermPlateToCoolant
  let away : Int := if v = 0 then 0 else (plate - d.thermal.coolant) * 1000000 * 2 ^ 16 / v
  let next := die.map (fun i => (i, d.nodeTemp i + stepOf i ((power i : Int) * 2 ^ 48 - out i)))
    ++ [(17, lid + stepOf 17 ((die.map out).foldl (· + ·) 0 - down)), (18, plate + stepOf 18 (down - away))]
  let sums := die.map (fun i => (i, SMap.look d.thermal.powerSum i 0 + power i))
  let d := { d with thermal := { d.thermal with temps := next, powerSum := sums, steps := d.thermal.steps + 1 } }
  if d.thermal.steps < 1000 then d
  else
    let d := die.foldl (fun e i => e.put (Obj.thermDiePower i) (SMap.look sums i 0 / 1000)) d
    { d with thermal := { d.thermal with powerSum := [], steps := 0 } }

/-- The correction's clamps: coolant 0–60 °C, offsets ±10 K (R432). -/
def coolantMax : Int := 60 * 2 ^ 32
/-- Largest offset of a die node. -/
def offsetMax : Int := 10 * 2 ^ 32

/-- Bit 98 (R433): a die node unread for 1 s, or a clamp reached. -/
def Dev.diodeSource (d : Dev) : Dev :=
  let stale := (List.range 17).any (fun i => SMap.look d.thermal.lastReading i 0 + ticksS ≤ d.now)
  let clamped := d.thermal.coolant = 0 || d.thermal.coolant = coolantMax || (List.range 17).any (fun i => (d.dieOffset i).natAbs = offsetMax.natAbs)
  d.holdFault 98 (stale || clamped)

/-- A diode reading of a die node, ΔV_BE in nV: kelvin are ΔV_BE / 238.9 µV (R432). -/
def Dev.diodeReading (d : Dev) (node deltaVbe : Nat) : Dev :=
  let temp : Int := (deltaVbe : Int) * 2 ^ 32 / 238900 - 27315 * 2 ^ 32 / 100
  let d := d.put (Obj.thermDiodeTemp node) (ofInt 16 (satI 16 (centi temp)))
  { d with thermal :=
      { d.thermal with residuals := SMap.set d.thermal.residuals node (temp - d.predicted node)
                       lastReading := SMap.set d.thermal.lastReading node d.now } }

/-- THERMAL_CORRECTION (R432): once per second the mean residual moves the coolant, each node's own moves its offset. -/
def execThermalCorrection (t : Nat) (s : State) : Host.Outcome State Fault Refusal :=
  devStep t (fun _ d =>
    if d.now < d.thermal.corrected + ticksS then d
    else
    let d : Dev := { d with thermal := { d.thermal with corrected := d.now } }
    let rs := d.thermal.residuals
    let tau : Int := max 1 (d.val Obj.thermCorrTau)
    let d :=
      if rs.isEmpty then d
      else
        let c : Int := (rs.map Prod.snd).foldl (· + ·) 0 / ((rs.length : Nat) : Int)
        let coolant := clampI (d.thermal.coolant + c / tau) (0 : Int) coolantMax
        let offsets := rs.foldl (fun m p => SMap.set m p.1 (clampI (d.dieOffset p.1 + (p.2 - c) / tau) (-offsetMax) offsetMax)) d.thermal.offsets
        { d with thermal := { d.thermal with coolant := coolant, offsets := offsets, residuals := [] } }
    d.diodeSource) s

/-! ### States and throttling (R434–R440) -/

/-- Threshold of a state for a quantity, and its hysteresis, in 0.01 K or 0.01 K/s (Table 19-2). -/
def threshold (rate : Bool) (state : Nat) : Option (Int × Int) :=
  match rate, state with
  | false, 1 => some (9500, 200)
  | false, 2 => some (10000, 200)
  | false, 3 => some (11000, 200)
  | true, 1 => some (500, 200)
  | true, 2 => some (2000, 200)
  | _, _ => none
/-- The highest state a quantity calls for, after one it called for (R434). -/
def callsFor (rate : Bool) (x : Int) (before : Nat) : Nat :=
  [1, 2, 3].foldl (fun best k =>
    match threshold rate k with
    | some (thr, hys) => if thr ≤ x || (k ≤ before && thr - hys ≤ x) then k else best
    | none => best) 0

/-- Device thermal state: the highest of any node (R436). -/
def Dev.thermState (d : Dev) : Nat := d.thermal.states.foldl (fun m p => max m p.2) 0

/-- A throttle request made (R437). A grace time of 0 enforces at once. -/
def Dev.requestThrottle (d : Dev) : Dev :=
  let d := (d.msixAll 17).noticeAll 2 1
  if d.val Obj.thermGrace = 0 then (d.put Obj.thermThrottle 2).bump Obj.thermEnforcements
  else
    { d.put Obj.thermThrottle 1 with thermal := { d.thermal with grace := some (d.now + d.val Obj.thermGrace * ticksMs) } }
/-- The request withdrawn, and enforcement with it (R437, R440). -/
def Dev.withdrawThrottle (d : Dev) : Dev :=
  let d := (d.noticeAll 2 0).msixAll 17
  { d.put Obj.thermThrottle 0 with thermal := { d.thermal with grace := none } }

/-- A node enters a state, with everything that follows from it (R436, R437); node 1 + k is converter die k, of tile k, and the others are
device-wide (R289, Table 1-2). -/
def Dev.nodeState (d : Dev) (node state : Nat) : Dev :=
  let before := d.thermState
  let d := { d with thermal :=
    { d.thermal with states := SMap.set d.thermal.states node state, changed := SMap.set d.thermal.changed node d.now } }
  let d := d.put (Obj.thermNodeState node) state
  let d := d.glean (if 1 ≤ node && node ≤ 16 then node - 1 else 0) 5 node d.now state
  let d := d.holdFault 96 (d.thermal.states.any (fun p => p.2 = 1))
  let d := d.holdFault 97 (d.thermal.states.any (fun p => p.2 = 2))
  let after := d.thermState
  let d := d.put Obj.thermDevState after
  let d := if before != after then d.fire (d.val Obj.evtThermalChannel) d.now else d
  let d := if before < 2 && 2 ≤ after then d.requestThrottle else if 2 ≤ before && after < 2 then d.withdrawThrottle else d
  d.holdFault 1 (d.thermal.states.any (fun p => p.2 = 3))

/-- A node takes the state its quantities call for, unless its dwell of 100 ms holds it back; shutdown waits for nothing (R435). -/
def Dev.settleNode (d : Dev) (node : Nat) : Dev :=
  let now := SMap.look d.thermal.states node 0
  let want := max (SMap.look d.thermal.wanted (2 * node) 0) (SMap.look d.thermal.wanted (2 * node + 1) 0)
  let free := (SMap.find d.thermal.changed node).all (fun c => c + 100 * ticksMs ≤ d.now)
  if want != now && (free || want = 3) then d.nodeState node want else d

/-- A die node whose temperature has reached 110 °C is shut down at once, whatever its dwell (R435). -/
def Dev.shutDown (d : Dev) : Dev :=
  (List.range 17).foldl (fun e i =>
    if centi (e.predicted i) < 11000 || SMap.look e.thermal.states i 0 = 3 then e
    else ({ e with thermal := { e.thermal with wanted := SMap.set e.thermal.wanted (2 * i) 3 } } : Dev).settleNode i) d
/-- THERMAL_MODEL_STEP (R431, R435), every 1 µs: `powers` are the 17 die powers in mW over the last 1 µs. -/
def execThermalModelStep (t : Nat) (powers : List Nat) (s : State) : Host.Outcome State Fault Refusal :=
  devStep t (fun _ d =>
    if d.now < d.thermal.stepped + ticksUs then d
    else (({ d with thermal := { d.thermal with stepped := d.now } } : Dev).thermalStep powers).shutDown) s

/-- Rates of rise of a node in 0.01 K/s over the last 100 ms; 0 until 100 ms are known (log entry 21). -/
def Dev.nodeRate (d : Dev) (i : Nat) : Int :=
  match (SMap.look d.thermal.past i [])[99]? with
  | some old => centi ((d.predicted i - old) * 10)
  | none => 0

/-- THERMAL_STATE_EVAL (R433–R436): each 1 ms, rates, the states called for, and the states that change. -/
def execThermalStateEval (t : Nat) (s : State) : Host.Outcome State Fault Refusal :=
  devStep t (fun _ d =>
    if d.now < d.thermal.judged + ticksMs then d
    else
    let d : Dev := { d with thermal := { d.thermal with judged := d.now } }
    let d := (List.range 19).foldl (fun e i => e.put (Obj.thermNodeRate i) (ofInt 16 (satI 16 (e.nodeRate i)))) d
    let d := (List.range 17).foldl (fun e i =>
      let w := e.thermal.wanted
      let w := SMap.set w (2 * i) (callsFor false (centi (e.predicted i)) (SMap.look w (2 * i) 0))
      let w := SMap.set w (2 * i + 1) (callsFor true (e.nodeRate i) (SMap.look w (2 * i + 1) 0))
      ({ e with thermal := { e.thermal with wanted := w } } : Dev).settleNode i) d
    let past := (List.range 19).map (fun i => (i, (d.predicted i :: SMap.look d.thermal.past i []).take 100))
    ({ d with thermal := { d.thermal with past := past } } : Dev).diodeSource) s

/-- THERMAL_DWELL_END (R435): a change held back takes effect if it is still called for. -/
def execThermalDwellEnd (t : Nat) (node : Fin 17) (s : State) : Host.Outcome State Fault Refusal :=
  devStep t (fun _ d => d.settleNode node.val) s

/-- THROTTLE_GRACE_EXPIRE (R438): the request still stands and enforcement begins. -/
def execThrottleGraceExpire (t : Nat) (s : State) : Host.Outcome State Fault Refusal :=
  devStep t (fun _ d =>
    if d.val Obj.thermThrottle = 1 && d.thermal.grace.any (fun g => g ≤ d.now) then
      let d := { d with thermal := { d.thermal with grace := none } }
      (d.put Obj.thermThrottle 2).bump Obj.thermEnforcements
    else d) s

/-! ### The fault collector (R442–R447) -/

/-- FaultSticky written: bits whose condition is present, and Grave bits, stay (R442). The last bit above Notice to go
sends the error reset (R370). -/
def Dev.clearSticky (d : Dev) (word mask : Nat) : Dev :=
  let gone := (setBits 64 mask).map (fun i => 64 * word + i)
  gone.foldl (fun e b =>
    if bit e.faults.sticky b && !(bit e.faults.active b) && !(bit graveMask b) then
      let cleared := (({ e with faults := { e.faults with sticky := putBit e.faults.sticky b false } } : Dev).gleanFault b false).msix 0 18
      if bit e.errorRegister 0 && !(bit cleared.errorRegister 0) then cleared.emcy 0 0xFF else cleared
    else e) d
/-- FAULT_STICKY_CLEAR (R442): the write is answered normally whatever stays set. -/
def execFaultStickyClear (t : Nat) (path : Path) (word : Fin 4) (mask : Nat) (s : State) : Host.Outcome State Fault Refusal :=
  devStep t (fun _ d => d.gated path (Obj.faultSticky word.val) mask (fun d => (d.clearSticky word.val mask, 0))) s

/-- FAULT_HANDLER_EXPIRE (R444). -/
def execFaultHandlerExpire (t : Nat) (s : State) : Host.Outcome State Fault Refusal :=
  devStep t (fun _ d =>
    if d.faults.handler.any (fun h => h ≤ d.now) then
      let d := { d with faults := { d.faults with handler := none } }
      if d.severeSet && d.faults.safe = 0 then (d.bump Obj.faultEscalations).enterSafe 1 false else d
    else d) s

/-- FaultEnterSafe written 1 (R444): the safe state at once; in it already, nothing more happens. -/
def Dev.writeEnterSafe (d : Dev) : Dev × Nat := (if d.faults.safe = 0 then d.enterSafe 1 false else d, 0)
/-- FAULT_ENTER_SAFE (R444). -/
def execFaultEnterSafe (t : Nat) (path : Path) (s : State) : Host.Outcome State Fault Refusal :=
  devStep t (fun _ d => d.gated path Obj.faultEnterSafe 1 (fun d => d.writeEnterSafe)) s

/-- FaultLeaveSafe written 1 (R447). -/
def Dev.writeLeaveSafe (d : Dev) : Dev × Nat :=
  if d.faults.safe != 1 || d.severeSet || d.graveSet then (d, abortState)
  else ({ d with faults := { d.faults with safe := 0 } }, 0)
/-- FAULT_LEAVE_SAFE (R447). -/
def execFaultLeaveSafe (t : Nat) (path : Path) (s : State) : Host.Outcome State Fault Refusal :=
  devStep t (fun _ d => d.gated path Obj.faultLeaveSafe 1 (fun d => d.writeLeaveSafe)) s

end Sys2Proof.Machine
end

