-- ==== Sys2Proof/Machine/Ageing.lean ====
section
/-! DEFINITION. Canary rings, the lead plan and ageing (R97–R102, R423–R428). Unit `k` is strip `k`, unit `64 + k` tile `k`. -/

namespace Sys2Proof.Machine

/-- A rail's voltage as the supervisor read it last, mV: VCORE reads 750 before its first reading (log entry 22). -/
def Dev.vcore (d : Dev) : Nat := (SMap.find d.objs (Obj.pwrRailVoltage 0)).getD 750
/-- Junction temperature of a unit in 0.01 °C: strips lie on the core die, tile `k` on converter die `k` (Table 19-1). -/
def Dev.junction (d : Dev) (unit : Nat) : Int := centi (d.predicted (if unit < 64 then 0 else unit - 63))
/-- *k*_vt of a unit now, over 2^16 (R100). -/
def Dev.kvt (d : Dev) (unit : Nat) : Nat := Config.kvt unit d.vcore (ofInt 16 (d.junction unit))
/-- *d*_meas of a unit, 0.1 ps. -/
def Dev.stageDelay (d : Dev) (unit : Nat) : Nat :=
  if unit < 64 then d.val (Obj.stripStageDelay unit) else d.val (Obj.tileStageDelay (unit - 64))
/-- *d*_meas × *k*_vt of a unit, in 0.1 ps over 2^16 (R423). -/
def Dev.worst (d : Dev) (unit : Nat) : Nat := d.stageDelay unit * d.kvt unit
/-- A quotient rounded to the nearest, halves up (log entry 22). -/
def nearest (a b : Nat) : Nat := (2 * a + b) / (2 * b)
/-- *d*_worst of a unit to 0.1 ps. -/
def Dev.worstTenth (d : Dev) (unit : Nat) : Nat := nearest (d.worst unit) (2 ^ 16)

/-- One: *d*_plan is `115 × w` over this many parts of 0.1 ps, for `w` = *d*_meas × *k*_vt over 2^16 (R100). -/
def planUnit : Nat := 100 * 2 ^ 16
/-- *W* of a lead class in 0.1 ps, and its stages *S* (Table 4-4). -/
def leadClass (c : Nat) : Nat × Nat :=
  if c = 0 then (30000, 31) else if c = 1 then (2430000, 31) else if c = 2 then (3030000, 31) else (30000, 55)
/-- Planned lead of a class (R100): never below 1. -/
def plannedLead (w c : Nat) : Nat :=
  max 1 (ceilDiv ((leadClass c).1 * planUnit + (leadClass c).2 * (115 * w)) (64000 * planUnit))
/-- *d*_plan to 0.1 ps (R100). -/
def planTenth (w : Nat) : Nat := nearest (115 * w) planUnit
/-- AgePlanMargin: 310 ps minus *d*_plan (R430). -/
def planMargin (w : Nat) : Nat := ofInt 16 (satI 16 ((3100 : Int) - (planTenth w : Nat)))
/-- Whether *d*_plan exceeds 310 ps (R102). -/
def planTooSlow (w : Nat) : Bool := 3100 * planUnit < 115 * w

/-- Operating hours (R427). -/
def Dev.operatingHours (d : Dev) : Nat := ((d.ageing.operated + d.now) / ((3600 * ticksS : Nat) : Int)).toNat

/-- The strip's plan replaced in one step (R425). -/
def Dev.planStrip (d : Dev) (k : Nat) : Dev :=
  let w := d.worst k
  let d := d.put (Obj.stripStageDelayPlan k) (wrap 16 (planTenth w))
  let d := (List.range 4).foldl (fun e c => e.put (Obj.stripLeadPlan k c) (min 255 (plannedLead w c))) d
  let d := d.put (Obj.agePlanMargin k) (planMargin w)
  { d with ageing := { d.ageing with planWorst := SMap.set d.ageing.planWorst k w, watchSince := SMap.del d.ageing.watchSince k } }

/-- Lanes of a strip whose recorded lead in some class lies below the plan (R426). -/
def Dev.leadShort (d : Dev) (k : Nat) : Nat :=
  (List.range 8).foldl (fun m j =>
    let l := 8 * k + j
    let short := (List.range 4).any (fun c =>
      (SMap.find d.ageing.offered (4 * l + c)).any (fun o => o < d.val (Obj.stripLeadPlan k c)))
    m + ofBool short * 2 ^ j) 0

/-- AgeLeadShort of every strip, and bit 120 (R426). -/
def Dev.markShort (d : Dev) : Dev :=
  let d := (List.range 64).foldl (fun e k => e.put (Obj.ageLeadShort k) (e.leadShort k)) d
  d.holdFault 120 ((List.range 64).any (fun k => d.val (Obj.ageLeadShort k) != 0))

/-- The lead plan recomputed for one of the cases of R424. -/
def Dev.recompute (d : Dev) (why : Nat) : Dev :=
  let d := (List.range 64).foldl Dev.planStrip d
  let d := (d.put Obj.ageLastTime d.now).put Obj.ageLastReason why
  let d := { d with ageing := { d.ageing with lastRecompute := d.now } }
  let d := d.holdFault 119 ((List.range 64).any (fun k => planTooSlow (SMap.look d.ageing.planWorst k 0)))
  d.markShort

/-- The integer square root of a number, from the number of bits of the root still to find and the root so far. -/
def isqrt (n : Nat) : Nat → Nat → Nat
  | 0, r => r
  | b + 1, r => let s := r + 2 ^ b; isqrt n b (if s * s ≤ n then s else r)
/-- The square root of a number of hours, over 2^32 (log entry 22). -/
def root2 (h : Nat) : Nat := isqrt (h * 2 ^ 64) 80 0
/-- The fourth root of a number of hours, over 2^32 (log entry 22). -/
def root4 (h : Nat) : Nat := isqrt (root2 h * 2 ^ 32) 80 0
/-- Retirement hours of a unit with baseline *d*₀ from its log (R427), rounded down: the fit is *u* = B × *h*^0.25 with B = `s` / (*d*₀ × `r`),
and *u* reaches 0.15, or *d*_worst × 1.15 reaches 310 ps. None while B is 0 or less. -/
def retireHours (log : List (Nat × Nat)) (d0 : Nat) : Option Nat :=
  let s : Int := (log.map (fun p => ((p.2 : Int) - (d0 : Int)) * ((root4 p.1 : Nat) : Int))).foldl (· + ·) 0
  let r := (log.map (fun p => root2 p.1)).sum
  if s ≤ 0 then none
  else some (min ((15 * d0 * r) ^ 4 / (100 * s.toNat) ^ 4) (((26957 - 10 * d0) * r) ^ 4 / (10 * s.toNat) ^ 4))

/-- The ageing log appended, and the retirement hours of every unit (R427): 3,650 entries, the oldest overwritten; unknown below 30. -/
def Dev.appendLog (d : Dev) : Dev :=
  let h := d.operatingHours
  (List.range 80).foldl (fun e u =>
    let log := SMap.look e.ageing.log u [] ++ [(h, e.worstTenth u)]
    let log := if 3650 < log.length then log.drop 1 else log
    let known := if log.length < 30 then none else retireHours log (Config.ageBaseline u)
    let retire := match known with
      | some r => SMap.set e.ageing.retire u r
      | none => SMap.del e.ageing.retire u
    { e with ageing := { e.ageing with log := SMap.set e.ageing.log u log, retire := retire } }) d

/-- AgeHoursLeft of a unit (R427): its retirement hours minus the present operating hours, and never below 0. -/
def Dev.hoursLeft (d : Dev) (u : Nat) : Nat :=
  match SMap.find d.ageing.retire u with
  | some r => min (r - d.operatingHours) 0xFFFFFFFE
  | none => 0xFFFFFFFF
/-- AgeWorstUnit: the lowest unit with the least AgeHoursLeft (Table 18-4). -/
def Dev.worstUnit (d : Dev) : Nat := (List.range 80).foldl (fun b u => if d.hoursLeft u < d.hoursLeft b then u else b) 0
/-- AgeHoursLeftMin (Table 18-4). -/
def Dev.hoursLeftMin (d : Dev) : Nat := d.hoursLeft d.worstUnit

/-- AgeRetireDate (R427): 0 while wall time has not been set or stepped, or the hours are unknown. -/
def Dev.retireDate (d : Dev) : Nat :=
  let left := d.hoursLeftMin
  if !d.clock.wallSet || left = 0xFFFFFFFF then 0
  else wallWord (d.wallNow + left * 3600 * 1000000000 * 2 ^ 48)

/-- The canary record of a unit (Table 12-2): a change beyond the deadband, or the first since the group's commit. -/
def Dev.gleanCanary (d : Dev) (u mean : Nat) : Dev :=
  let tile := if u < 64 then u / 4 else u - 64
  let g := d.gleaner tile
  let differs := (SMap.find g.canaries u).all (fun x => d.val Obj.glnCanaryDeadband < (if x ≤ mean then mean - x else x - mean))
  if differs then d.glean tile 7 u d.now mean else d

/-- AgeAllowanceUsed of a unit in 0.1 % (R423): below 0 it is not stated (log entry 3). -/
def Dev.allowanceUsed (d : Dev) (u : Nat) : Dev :=
  let d0 := Config.ageBaseline u
  let w := d.worst u
  if w < d0 * 2 ^ 16 then (d.put (Obj.ageAllowanceUsed u) (wrap 16 d.freeNow)).used
  else
    let used := min 65535 (if d0 = 0 then 65535 else nearest ((w - d0 * 2 ^ 16) * 100000) (15 * d0 * 2 ^ 16))
    let level := if 1000 ≤ used then 2 else if 800 ≤ used then 1 else 0
    let d := d.put (Obj.ageAllowanceUsed u) used
    if SMap.look d.ageing.reached u 0 < level then
      ({ d with ageing := { d.ageing with reached := SMap.set d.ageing.reached u level } } : Dev).raise 121 false
    else d

/-- Whether a strip's *d*_worst stands above its plan's by more than AgeWatchThreshold (R424). -/
def Dev.abovePlan (d : Dev) (k : Nat) : Bool :=
  SMap.look d.ageing.planWorst k 0 * (1000 + d.val Obj.ageWatchThreshold) < d.worst k * 1000

/-- CANARY_MEAN_UPDATE (R423, R424, R428): the 1 ms mean of a unit's canary ring, in 0.1 ps. -/
def execCanaryMeanUpdate (t : Nat) (unit : Fin 80) (mean : Nat) (s : State) : Host.Outcome State Fault Refusal :=
  devStep t (fun _ d =>
    let u := unit.val
    let m := wrap 16 mean
    let d := if u < 64 then d.put (Obj.stripStageDelay u) m else d.put (Obj.tileStageDelay (u - 64)) m
    let d := d.put (Obj.ageStageDelayWorst u) (wrap 16 (d.worstTenth u))
    let d := if u < 64 then d else
      d.put (Obj.agePlanMargin u) (planMargin (d.worst u))
    let d := (d.allowanceUsed u).gleanCanary u m
    if u < 64 then
      let w := d.ageing.watchSince
      let w := if d.abovePlan u then (if (SMap.find w u).isSome then w else SMap.set w u d.now) else SMap.del w u
      { d with ageing := { d.ageing with watchSince := w } }
    else d) s

/-- AgeRecompute written 1 (R424, case 6). -/
def Dev.writeRecompute (d : Dev) : Dev × Nat := (d.recompute 6, 0)
/-- AGE_RECOMPUTE_WRITE (R424). -/
def execAgeRecomputeWrite (t : Nat) (path : Path) (s : State) : Host.Outcome State Fault Refusal :=
  devStep t (fun _ d => d.gated path Obj.ageRecompute 1 (fun d => d.writeRecompute)) s

/-- AGE_INTERVAL_EXPIRE (R424, case 1; R427). -/
def execAgeIntervalExpire (t : Nat) (s : State) : Host.Outcome State Fault Refusal :=
  devStep t (fun _ d =>
    if d.now < d.ageing.lastRecompute + d.val Obj.ageInterval * ticksS then d else (d.recompute 1).appendLog) s

/-- AGE_WATCH_EXPIRE (R424, case 4). -/
def execAgeWatchExpire (t : Nat) (strip : Strip) (s : State) : Host.Outcome State Fault Refusal :=
  devStep t (fun _ d =>
    if (SMap.find d.ageing.watchSince strip.val).any (fun x => x + ticksS ≤ d.now) then d.recompute 4 else d) s

end Sys2Proof.Machine
end

