-- ==== Sys2Proof/Machine/Calib.lean ====
section
/-! DEFINITION. Calibration runs, temperature sets and taps (R410–R422). A measurement of a delay or timing is in 0.01 ps, any other
value in taps of Table 18-2. -/

namespace Sys2Proof.Machine

/-- Key of a tap. -/
def tapKey (item unit value : Nat) : Nat := (item * 1024 + unit) * 128 + value
/-- Item of a tap's key. -/
def tapItem (k : Nat) : Nat := k / 128 / 1024
/-- Unit of a tap's key. -/
def tapUnit (k : Nat) : Nat := k / 128 % 1024
/-- Value number of a tap's key. -/
def tapValue (k : Nat) : Nat := k % 128

/-- The factory value a set holds under a key (R420). -/
def factory (k : Nat) : Int := Config.factoryTap (tapItem k) (tapUnit k) (tapValue k)
/-- Key under which a set holds a tap's value while an input is in a zone: the timing and gain of an input's sub-converters are held once per
Nyquist zone (R176). -/
def zoneKey (zone k : Nat) : Nat := if tapItem k = 1 then k + 16 * (zone - 1) else k
/-- Key under which a set holds a tap's value in the zone in force. -/
def Dev.setKey (d : Dev) (k : Nat) : Nat := zoneKey (d.val (Obj.inputZone (tapUnit k))) k
/-- Where a tap stands. -/
def Dev.tap (d : Dev) (k : Nat) : Int := SMap.look d.calib.taps k (factory (zoneKey 3 k))
/-- Where a tap is to go (R419). -/
def Dev.tapTarget (d : Dev) (k : Nat) : Int := SMap.look d.calib.targets k (factory (zoneKey 3 k))
/-- A target set; a bin width is no tap and is replaced at once (R421). -/
def Dev.aim (d : Dev) (k : Nat) (v : Int) : Dev :=
  let c := d.calib
  { d with calib := { c with targets := SMap.set c.targets k v, taps := if tapItem k = 2 then SMap.set c.taps k v else c.taps } }
/-- CalTapsPending (R421). -/
def Dev.tapsPending (d : Dev) : Nat := (d.calib.targets.map (fun p => (p.2 - d.tap p.1).natAbs)).sum

/-- CalLidTemp, 0.01 °C (R431). -/
def Dev.lidTemp (d : Dev) : Int := centi (d.nodeTemp 17)

/-! ### A run (R411–R415) -/

/-- The units of an item over the scope in force (R412). -/
def Dev.calUnits (d : Dev) (item : Nat) : List Nat :=
  let tiles := setBits 16 (d.val Obj.calScopeTiles)
  if item = 4 then [0]
  else if item = 1 then setBits 64 (d.val Obj.calScopeInputs)
  else if item = 0 then setBits 64 (d.val Obj.calScopeStrips)
  else if item = 2 then tiles
  else (tiles.map tileLanes).flatten

/-- CalState and CalUnitsLeft follow the run, and a lid that has moved is noted (R418). -/
def Dev.setCal (d : Dev) (r : CalRun) : Dev :=
  let moved := r.moved || 100 < (d.lidTemp - r.lid).natAbs
  let trim := r.phase = 3 || (match r.left with
    | u :: _ => u.1 = 3
    | [] => false)
  let d := ({ d with calib := { d.calib with run := some { r with moved := moved } } } : Dev).lend trim
  (d.put Obj.calState r.phase).put Obj.calUnitsLeft r.left.length

/-- CalStart written 1 (R411, R412): items in the order 4, 1, 0, 2, 3; an item the reference forbids ends with result 6. -/
def Dev.startCal (d : Dev) : Dev × Nat :=
  if d.calib.run.isSome then (d, abortState)
  else
    let items := [4, 1, 0, 2, 3].filter (fun i => bit (d.val Obj.calItems) i)
    if items.isEmpty then (d, 0)
    else
      let timeOk := d.val Obj.timeRefState = 0 && d.val Obj.timeGridState != 3
      let d := (List.range 5).foldl (fun e i => e.put (Obj.calItemResult i) 0) d
      let d := items.foldl (fun e i => if i != 3 && !timeOk then e.calResult i 6 else e) d
      let left := ((items.filter (fun i => i = 3 || timeOk)).map (fun i => (d.calUnits i).map (fun u => (i, u)))).flatten
      let whole := items.length = 5 && timeOk && d.val Obj.calScopeStrips = allOnes64 && d.val Obj.calScopeInputs = allOnes64
        && d.val Obj.calScopeTiles = 65535
      (d.setCal
        { left := left, phase := if items.contains 3 then 3 else 1, lid := d.lidTemp, waitSince := d.now, accepted := []
          full := whole, moved := false, idleWait := d.val Obj.calIdleWait, setSlot := d.val Obj.calSetSlot }, 0)
/-- CAL_START (R412). -/
def execCalStart (t : Nat) (path : Path) (s : State) : Host.Outcome State Fault Refusal :=
  devStep t (fun _ d => d.gated path Obj.calStart 1 (fun d => d.startCal)) s

/-- CalAbort written 1 (R415). -/
def Dev.writeCalAbort (d : Dev) : Dev × Nat := (d.abortCal, 0)
/-- CAL_ABORT (R415). -/
def execCalAbort (t : Nat) (path : Path) (s : State) : Host.Outcome State Fault Refusal :=
  devStep t (fun _ d => d.gated path Obj.calAbort 1 (fun d => d.writeCalAbort)) s

/-- The run goes on to its next unit. -/
def Dev.nextUnit (d : Dev) (r : CalRun) : Dev := d.setCal { r with left := r.left.drop 1, phase := 1, waitSince := d.now }

/-- CAL_VCAL_MEASURED (R411): the reading in 0.1 µV must agree with CalVcalValue within 0.1 %, or the bias item is refused. -/
def execCalVcalMeasured (t : Nat) (reading : Int) (s : State) : Host.Outcome State Fault Refusal :=
  devStep t (fun _ d =>
    match d.calib.run with
    | none => d
    | some r =>
      if r.phase != 3 then d
      else
        let v := d.ival 32 Obj.calVcalValue
        let ok := 10000000 ≤ v && v ≤ 55000000 && (reading - v).natAbs * 1000 ≤ v.natAbs
        let d := d.put Obj.calVcalMeasured (ofInt 32 (satI 32 reading))
        if ok then d.setCal { r with phase := 1, waitSince := d.now }
        else (d.calResult 3 5).setCal { r with phase := 1, waitSince := d.now, left := r.left.filter (fun u => u.1 != 3), full := false }) s

/-- Whether a lane is idle for calibration: LaneState 0, 1, 5, 7 or 8 (R413). -/
def Dev.laneIdleCal (d : Dev) (l : Nat) : Bool := [0, 1, 5, 7, 8].contains (d.laneState l)
/-- Whether an input is idle (R199). -/
def Dev.inputIdle (d : Dev) (i : Nat) : Bool :=
  (List.range 16).all (fun j => !(d.slotOpen (16 * i + j))) && !(d.runningLanes.any (fun l => d.opensInput l i))
/-- Whether a unit is idle (R413). -/
def Dev.unitIdle (d : Dev) (item unit : Nat) : Bool :=
  if item = 0 then (stripLanes unit).all d.laneIdleCal
  else if item = 1 then d.inputIdle unit
  else if item = 2 then true
  else if item = 3 then d.biasState unit = 0 && d.laneIdleCal unit
  else (List.range 64).all (fun k => (stripLanes k).all d.laneIdleCal) && (List.range 64).all d.inputIdle

/-- CAL_UNIT_START (R413, R414): the unit is idle and its interruption begins. -/
def execCalUnitStart (t : Nat) (s : State) : Host.Outcome State Fault Refusal :=
  devStep t (fun _ d =>
    match d.calib.run with
    | some r =>
      match r.phase, r.left with
      | 1, u :: _ =>
        if !(d.unitIdle u.1 u.2) then d
        else
          let d := if u.1 = 2 then d.setTrig u.2 { d.trig u.2 with interrupted := true, fresh := true } else d
          d.setCal { r with phase := 2 }
      | _, _ => d
    | none => d) s

/-- CAL_IDLE_TIMEOUT (R413): a unit not idle after CalIdleWait is skipped. -/
def execCalIdleTimeout (t : Nat) (s : State) : Host.Outcome State Fault Refusal :=
  devStep t (fun _ d =>
    match d.calib.run with
    | some r =>
      match r.phase, r.left with
      | 1, u :: _ =>
        if d.now < r.waitSince + r.idleWait * ticksS || d.unitIdle u.1 u.2 then d
        else (d.calResult u.1 7).nextUnit { r with full := false }
      | _, _ => d
    | none => d) s

/-! ### Acceptance (R416, R417) -/

/-- Taps a unit's values belong to, in order. -/
def unitTaps (item unit : Nat) : List Nat :=
  if item = 0 then ((stripLanes unit).map (fun l => [tapKey 0 l 0, tapKey 0 l 1, tapKey 0 l 2])).flatten
  else if item = 1 then (List.range 16).map (tapKey 1 unit)
  else if item = 2 then (List.range 100).map (tapKey 2 unit)
  else if item = 3 then [tapKey 3 unit 0, tapKey 3 unit 1]
  else (List.range 16).map (fun die => tapKey 4 die 0)
/-- Whether a tap is measured twice, and how much two measurements may differ, in 0.01 ps (R417). -/
def twice (k : Nat) : Option Nat := if tapItem k = 4 then some 80 else if tapItem k = 1 && tapValue k < 8 then some 30 else none
/-- The value two measurements give: their mean, rounded to the nearest tap, a half up (log entry 22). -/
def settledValue (k : Nat) (a b : Int) : Int :=
  match twice k with
  | some _ => let step : Int := if tapItem k = 4 then 25 else 5; (a + b + step) / (2 * step)
  | none => a

/-- The set whose key lies within 2.00 K of a temperature, the nearest (R418). -/
def Dev.nearSet (d : Dev) (lid : Int) : Option Nat :=
  d.calib.sets.foldl (fun best p =>
    let dist := (p.2.key - lid).natAbs
    match best with
    | some b => if dist < ((SMap.find d.calib.sets b).map (fun x => (x.key - lid).natAbs)).getD 0 then some p.1 else best
    | none => if dist ≤ 200 then some p.1 else none) none
/-- The previous value of a tap in the set a run would change. -/
def Dev.previous (d : Dev) (lid : Int) (k : Nat) : Option Int :=
  (d.nearSet lid).bind (fun i => (SMap.find d.calib.sets i).bind (fun x => SMap.find x.values (d.setKey k)))

/-- Least and greatest value Table 18-2 accepts for a tap; those of a converter die are about die 0's value, within the tap's range. -/
def acceptLimits (k : Nat) (die0 : Int) : Int × Int :=
  let about := fun (c r : Int) => (c - r, c + r)
  match tapItem k, tapValue k with
  | 0, 0 => (40, 759)
  | 0, 1 => about 0 1250
  | 0, _ => about 0 400
  | 1, j => about 0 (if j < 8 then 40 else 500)
  | 2, _ => (50, 150)
  | 3, 0 => about 0 1000
  | 3, _ => about 0 2500
  | _, _ => (max 0 (die0 - 80), min 399 (die0 + 80))
/-- How far a value may lie from the set's previous value (Table 18-2). -/
def acceptMove (k : Nat) : Option Nat := if tapItem k = 0 && tapValue k = 0 then some 8 else if tapItem k = 4 then some 20 else none
/-- The limits of Table 18-2 on one value; `first` is the unit's first value. -/
def plausible (k : Nat) (v first : Int) (old : Option Int) : Bool :=
  (acceptLimits k first).1 ≤ v && v ≤ (acceptLimits k first).2 && (acceptMove k).all (fun n => old.all (fun o => (v - o).natAbs ≤ n))

/-- The least-squares slope of a tap's values against operating hours, as numerator and denominator (R422): the changes add up to the value
but for a constant. -/
def driftSlope (points : List DriftPoint) : Int × Int :=
  let xy := (points.foldl (fun (a : Int × List (Int × Int)) p => (a.1 + p.change, ((p.hours : Int), a.1 + p.change) :: a.2)) (0, [])).2
  let total := fun (f : Int × Int → Int) => (xy.map f).foldl (· + ·) 0
  let n : Int := (xy.length : Nat)
  let sx := total Prod.fst
  (n * total (fun p => p.1 * p.2) - sx * total Prod.snd, n * total (fun p => p.1 * p.1) - sx * sx)
/-- The hours until a tap with a slope and a value reaches a limit of Table 18-2, rounded down; none while it stands still (R422). -/
def driftHours (slope limits : Int × Int) (value : Int) : Option Nat :=
  let away := if 0 < slope.1 then limits.2 - value else value - limits.1
  if slope.1 = 0 || slope.2 ≤ 0 then none else some (away.toNat * slope.2.toNat / slope.1.natAbs)
/-- The results of an item among its points: each unit result holds one value of its first tap. -/
def driftResults (points : List DriftPoint) : Nat :=
  (points.filter (fun p => tapValue p.tap = 0 && (tapItem p.tap != 0 || tapUnit p.tap % 8 = 0) && (tapItem p.tap != 4 || tapUnit p.tap = 0))).length
/-- The tap that drifts fastest, with its slope and latest value (R422). -/
def fastestDrift (points : List DriftPoint) : Option (Nat × (Int × Int) × Int) :=
  ((points.map DriftPoint.tap).eraseDups).foldl (fun best k =>
    let own := points.filter (fun p => p.tap = k)
    let s := driftSlope own
    let new := some (k, s, (own.getLast?.map DriftPoint.value).getD 0)
    match best with
    | none => if 0 < s.2 then new else none
    | some b => if 0 < s.2 && b.2.1.1.natAbs * s.2.natAbs < s.1.natAbs * b.2.1.2.natAbs then new else best) none
/-- CalDriftRate and CalDriftHoursLeft of an item, from at least three results of the last 8,760 operating hours (R422); the rate is rounded to
the nearest (log entry 22). -/
def Dev.driftOf (d : Dev) (item : Nat) : Dev :=
  let h := d.operatingHours
  let recent := (SMap.look d.calib.drift item []).filter (fun p => h ≤ p.hours + 8760)
  let d := { d with calib := { d.calib with drift := SMap.set d.calib.drift item recent } }
  let fit := if driftResults recent < 3 then none else fastestDrift recent
  let d := match fit with
    | none => (d.unset (Obj.calDriftRate item)).unset (Obj.calDriftHoursLeft item)
    | some (k, s, v) =>
      let left := (driftHours s (acceptLimits k (d.tapTarget (tapKey 4 0 0))) v).getD 0xFFFFFFFF
      (d.put (Obj.calDriftRate item) (ofInt 32 (satI 32 ((2000 * s.1 + s.2) / (2 * s.2))))).put (Obj.calDriftHoursLeft item) (min left 0xFFFFFFFF)
  d.holdFault 123 ((List.range 5).any (fun i => d.val (Obj.calDriftHoursLeft i) < 2000))

/-- A unit's interruption ends (R414); a bias output the keeper lets go takes no step instant of an earlier tick (R261). -/
def Dev.releaseUnit (d : Dev) (u : Nat × Nat) : Dev :=
  if u.1 = 2 then d.setTrig u.2 { d.trig u.2 with interrupted := false, fresh := true }
  else if u.1 = 3 then d.setBias u.2 { d.biasOut u.2 with heldTill := d.now }
  else d

/-- The unit in progress abandoned because it is reset, updated or powered down: result 4 (R415). -/
def Dev.abandonUnit (d : Dev) (item unit : Nat) : Dev :=
  match d.calib.run with
  | some r =>
    if r.phase = 2 && r.left.head? = some (item, unit) then
      ((d.releaseUnit (item, unit)).calResult item 4).nextUnit { r with full := false }
    else d
  | none => d

/-- A unit refused: it keeps all its old values (R416, R417). -/
def Dev.refuseUnit (d : Dev) (r : CalRun) (u : Nat × Nat) (code : Nat) : Dev :=
  (((d.calResult u.1 code).bump (Obj.calItemFailures u.1)).raise 122 false).nextUnit { r with full := false }

/-- A unit accepted: its values are in force, and their changes are recorded (R418, R422). -/
def Dev.acceptUnit (d : Dev) (r : CalRun) (u : Nat × Nat) (vals : List (Nat × Int)) : Dev :=
  let h := d.operatingHours
  let changes := vals.filterMap (fun p => (d.previous r.lid p.1).map (fun o =>
    ({ tap := p.1, hours := h, change := p.2 - o, value := p.2 } : DriftPoint)))
  let d := vals.foldl (fun e p => e.aim p.1 p.2) d
  let d := { d with calib := { d.calib with drift := SMap.set d.calib.drift u.1 (SMap.look d.calib.drift u.1 [] ++ changes) } }
  let d := (d.driftOf u.1).calResult u.1 1
  d.nextUnit { r with accepted := vals.foldl (fun m p => SMap.set m (d.setKey p.1) p.2) r.accepted }

/-- CAL_UNIT_COMPLETE (R416, R417): the unit's values in order, `second` those of the second measurement where there is one. -/
def execCalUnitComplete (t : Nat) (first second : List Int) (s : State) : Host.Outcome State Fault Refusal :=
  devStep t (fun _ d =>
    match d.calib.run with
    | some r =>
      match r.phase, r.left with
      | 2, u :: _ =>
        let taps := unitTaps u.1 u.2
        if first.length != taps.length then d
        else
          let pairs := taps.zip (first.zip (second ++ first.drop second.length))
          let d := d.releaseUnit u
          if pairs.any (fun p => (twice p.1).any (fun lim => lim < (p.2.1 - p.2.2).natAbs)) then d.refuseUnit r u 3
          else
            let vals := pairs.map (fun p => (p.1, settledValue p.1 p.2.1 p.2.2))
            let head := (vals.head?.map Prod.snd).getD 0
            let sum := (vals.map Prod.snd).foldl (· + ·) 0
            if vals.all (fun p => plausible p.1 p.2 head (d.previous r.lid p.1)) && (u.1 != 2 || (9950 ≤ sum && sum ≤ 10050)) then
              d.acceptUnit r u vals
            else d.refuseUnit r u 2
      | _, _ => d
    | none => d) s

/-! ### Temperature sets (R418–R420) -/

/-- A set stored in a slot, with the run's outcome (R418); the lead plan follows (R424, case 2). -/
def Dev.storeSet (d : Dev) (i : Nat) (x : TempSet) : Dev :=
  let d := { d with calib := { d.calib with sets := SMap.set d.calib.sets i x } }
  let d := ((d.put (Obj.calSetTemp (i - 1)) (ofInt 16 x.key)).put (Obj.calSetTime (i - 1)) (wallWord d.wallNow)).bump Obj.calFlashWrites
  let d := (d.put Obj.calRunSet i).put Obj.calRunNote 0
  (d.unraise 124).recompute 2

/-- CAL_RUN_END (R418). -/
def execCalRunEnd (t : Nat) (s : State) : Host.Outcome State Fault Refusal :=
  devStep t (fun _ d =>
    match d.calib.run with
    | some r =>
      if !r.left.isEmpty || r.phase = 3 then d
      else
        let d := ({ d with calib := { d.calib with run := none } } : Dev).lend false
        let d := (d.put Obj.calState 0).put Obj.calUnitsLeft 0
        let note := fun (n : Nat) => (d.put Obj.calRunSet 0).put Obj.calRunNote n
        if r.moved || 100 < (d.lidTemp - r.lid).natAbs then note 3
        else
          match d.nearSet r.lid with
          | some i =>
            match SMap.find d.calib.sets i with
            | some x => d.storeSet i { x with values := r.accepted.foldl (fun m p => SMap.set m p.1 p.2) x.values }
            | none => d
          | none =>
            if !r.full then note 1
            else
              let new : TempSet := { key := r.lid, values := r.accepted }
              match [1, 2, 3, 4, 5, 6].find? (fun i => (SMap.find d.calib.sets i).isNone) with
              | some i => d.storeSet i new
              | none => if r.setSlot = 255 then note 2 else d.storeSet r.setSlot new
    | none => d) s

/-- The two sets that enclose a lid temperature, lower and upper; beyond the outermost keys, or with one set, the same set twice
(R419). -/
def Dev.enclosing (d : Dev) (lid : Int) : Option (Nat × Nat) :=
  let key := fun (i : Nat) => ((SMap.find d.calib.sets i).map TempSet.key).getD 0
  let below := (d.calib.sets.filter (fun p => p.2.key ≤ lid)).foldl
    (fun b p => match b with
      | some x => if key x < p.2.key then some p.1 else b
      | none => some p.1) (none : Option Nat)
  let above := (d.calib.sets.filter (fun p => lid ≤ p.2.key)).foldl
    (fun b p => match b with
      | some x => if p.2.key < key x then some p.1 else b
      | none => some p.1) (none : Option Nat)
  match below, above with
  | some a, some b => some (a, b)
  | some a, none => some (a, a)
  | none, some b => some (b, b)
  | none, none => none

/-- One target from two set values at keys `ta`, `tb` (R419): it changes only beyond 0.6 tap, to the nearest tap. -/
def nearTap (target va vb ta tb lid : Int) : Int :=
  let den := if tb = ta then 1 else tb - ta
  let num := if tb = ta then va else va * den + (vb - va) * (lid - ta)
  if 6 * den.natAbs < (num - target * den).natAbs * 10 then (2 * num + den) / (2 * den) else target

/-- One target from the values two sets hold under its key, or the factory value there (R176, R419). -/
def Dev.aimBetween (d : Dev) (k : Nat) (x y : TempSet) (lid : Int) : Dev :=
  let va := SMap.look x.values (d.setKey k) (factory (d.setKey k))
  let t := nearTap (d.tapTarget k) va (SMap.look y.values (d.setKey k) va) x.key y.key lid
  if t = d.tapTarget k then d else d.aim k t
/-- The taps of an input's sub-converters. -/
def inputTaps : List Nat := ((List.range 64).map (unitTaps 1)).flatten
/-- Taps whose values the run in progress has accepted: they stay in force until it ends (R415). -/
def Dev.acceptedTaps (d : Dev) : List Nat :=
  ((d.calib.run.map CalRun.accepted).getD []).map Prod.fst
/-- Every target from the sets at the lid's temperature (R419), or the factory set's, with its Notice (R420). An input's taps follow the
values of its zone (R176). -/
def Dev.updateTargets (d : Dev) : Dev :=
  let lid := d.lidTemp
  let none' : TempSet := { key := 0, values := [] }
  let settled := d.acceptedTaps
  let free := fun (ks : List Nat) => ks.filter (fun k => !(settled.contains (d.setKey k)))
  match d.enclosing lid with
  | none =>
    ((free ((d.calib.targets.map Prod.fst).filter (fun k => tapItem k != 1) ++ inputTaps)).foldl (fun e k => e.aimBetween k none' none' 0) d).holdFault 124 true
  | some (a, b) =>
    match SMap.find d.calib.sets a, SMap.find d.calib.sets b with
    | some x, some y =>
      let d := (free ((x.values.map Prod.fst).filter (fun k => tapItem k != 1) ++ inputTaps)).foldl (fun e k => e.aimBetween k x y lid) d
      let pair := 8 * a + b
      if d.calib.pair = pair then d else ({ d with calib := { d.calib with pair := pair } } : Dev).recompute 3
    | _, _ => d

/-- CAL_TARGET_UPDATE (R419): once a second, unless CalInterp is 0. -/
def execCalTargetUpdate (t : Nat) (s : State) : Host.Outcome State Fault Refusal :=
  devStep t (fun _ d =>
    if !(d.flag Obj.calInterp) || d.calib.lastAim.any (fun x => d.now < x + ticksS) then d
    else ({ d with calib := { d.calib with lastAim := some d.now } } : Dev).updateTargets) s

/-- Whether a tap may move now (Table of R421). -/
def Dev.tapFree (d : Dev) (k : Nat) : Bool :=
  let shut := fun i => (List.range 16).all (fun j => !(d.slotOpen (16 * i + j)))
  match tapItem k with
  | 0 => !(d.laneInShot (tapUnit k))
  | 1 => shut (tapUnit k)
  | 3 => true
  | 4 => (tileLanes (tapUnit k)).all (fun l => !(d.laneInShot l)) && (tileInputs (tapUnit k)).all shut
  | _ => false

/-- CAL_TAP_STEP (R421): one step toward the target, never a jump, at the pace of its kind. -/
def execCalTapStep (t : Nat) (tap : TapId) (s : State) : Host.Outcome State Fault Refusal :=
  devStep t (fun _ d =>
    let k := tapKey tap.item.val tap.unit tap.value
    let at' := d.tap k
    let goal := d.tapTarget k
    let pace := if tap.item.val = 3 then ticksMs else ticksUs
    let due := (SMap.find d.calib.lastTap k).all (fun x => x + pace ≤ d.now)
    if at' = goal || !due || !(d.tapFree k) then d
    else
      let c := d.calib
      { d with calib := { c with taps := SMap.set c.taps k (if at' < goal then at' + 1 else at' - 1)
                                 lastTap := SMap.set c.lastTap k d.now } }) s

end Sys2Proof.Machine
end

