-- ==== Sys2Proof/Machine/Units.lean ====
section
/-! DEFINITION. Strips and tiles leaving and re-entering service (R15, R53, R103–R108): reset, power-down, the void state, return. -/

namespace Sys2Proof.Machine

/-- Number of an engine: strip `k` is `k`, tile `k` is `64 + k`. -/
def EngineUnit.number : EngineUnit → Nat
  | .strip k => k.val
  | .tile k => 64 + k.val
/-- StripState or TileState (Tables 4-8, 4-9). -/
def Dev.unitState (d : Dev) (u : Nat) : Nat := if u < 64 then d.val (Obj.stripState u) else d.val (Obj.tileState (u - 64))
/-- StripState or TileState set. -/
def Dev.putState (d : Dev) (u x : Nat) : Dev := if u < 64 then d.put (Obj.stripState u) x else d.put (Obj.tileState (u - 64)) x
/-- StripPower or TilePower. -/
def Dev.powered (d : Dev) (u : Nat) : Bool := if u < 64 then d.flag (Obj.stripPower u) else d.flag (Obj.tilePower (u - 64))
/-- The strips of a tile. -/
def tileStrips (k : Nat) : List Nat := (List.range 4).map (fun j => 4 * k + j)

/-! ### What the void state does (R104, R105, Tables 4-5 and 4-6) -/

/-- Objects of an index that a reset returns to their defaults: RW and RWC (R24). -/
def isRw (k : Nat) : Bool :=
  match rowAt (keyIndex k) (keySub k) with
  | some r => r.acc = .rw || r.acc = .rwc
  | none => false
/-- The RW and RWC objects of some indices at their defaults, their staged values and pending commits gone (R24). -/
def Dev.toDefaults (d : Dev) (p : Nat → Bool) : Dev :=
  let gone := fun k => p (keyIndex k) && isRw k
  { d with objs := d.objs.filter (fun e => !(gone e.1)), staged := d.staged.filter (fun e => !(gone e.1))
           commits := d.commits.filter (fun e => !(p (keyIndex e.1))) }

/-- Local channels a lane's program or segment marker fires (R125, R171). -/
def Dev.laneChannels (d : Dev) (l : Nat) : List Nat :=
  let m := d.val (Obj.laneSegMarker l)
  (d.programOps l).filterMap (fun op => match op with
    | .mark 1 target _ _ _ => some target
    | _ => none) ++ (if bit m 8 then [bits m 6 0] else [])
/-- Local channels a tile's TRIG input and verdict producers fire (R284, R406). -/
def Dev.tileChannels (d : Dev) (k : Nat) : List Nat :=
  d.val (Obj.trigEventChannel k)
    :: (List.range 16).filterMap (fun j =>
        let v := d.val (Obj.evtVerdictProducer j)
        if bit v 27 && bits v 10 0 / 64 = k then some (bits v 34 28) else none)
/-- One frame with Void set for each outgoing line whose channel a unit produces on (R386). -/
def Dev.voidLines (d : Dev) (chans : List Nat) : Dev :=
  (List.range 4).foldl (fun e p =>
    if e.portActive p then
      (List.range 32).foldl (fun e j =>
        if chans.contains (e.val (Obj.ggEventOut p j)) then
          e.sendFrame p 3 (eventPayload 0 j true e.aligned { tick := e.now, ps := 0 })
        else e) e
    else e) d

/-- A lane whose strip enters the void state (R104, R105, R116, R229): its shot is spoiled, its drill stops, its furrow and stream buffer empty,
what its strip still had to send or to read is discarded, its bias target is kept (R264), and a commit its drill carries loses its records; after a reset its objects and tables
are gone too. LaneRun keeps its value where values are kept (R107); the drill stays stopped until LaneRun is written again (log entry 33). -/
def Dev.voidLane (d : Dev) (l : Nat) (reset : Bool) : Dev :=
  let run := d.val (Obj.laneRun l)
  let d := (d.stopLane l .unitVoid).put (Obj.laneRun l) run
  let c := d.chain l
  let d := d.setChain l { (if reset then c.cleared else c) with
    flight := [], furrow := [], alt0 := none, alt1 := none, timed := [], markers := [], biases := [], frameQ := if reset then [] else c.frameQ }
  let d := d.dropFetches l
  if reset then (d.setDrill l Drill.init).put (Obj.laneResidentUsed l) 0
  else d.setDrill l { (d.drill l).emptyStream with lines := [] }

/-- A strip's user micro-routine gone with the object that names it (R24, R464). -/
def Dev.dropRoutine (d : Dev) (k : Nat) : Dev := { d with store := { d.store with userWords := SMap.del d.store.userWords k } }

/-- Entry of a strip (R104): lanes void, calibration abandoned, its user routine abandoned (R415, R462). -/
def Dev.voidStrip (d : Dev) (k code : Nat) : Dev :=
  let chans := ((stripLanes k).map d.laneChannels).flatten
  let d := (stripLanes k).foldl (fun e l => e.voidLane l (code = 1)) d
  let d := (d.abandonUnit 0 k).voidLines chans
  let d := if (SMap.find d.store.user k).isSome then
      ({ d with store := { d.store with user := SMap.del d.store.user k, userHeld := SMap.del d.store.userHeld k } } : Dev).bump (Obj.csUserAborts k)
    else d
  let d := if code = 1 then d.toDefaults (fun i => i = 0x3840 + k || i = 0x2F40 + k || (0x3000 + 8 * k ≤ i && i < 0x3008 + 8 * k)) |>.dropRoutine k else d
  d.putState k code

/-- Slots of a void tile yield every verdict still owed at once (Table 4-6). -/
def Dev.voidSlots (d : Dev) (k : Nat) : Dev :=
  (List.range 64).foldl (fun e j =>
    e.voidOwed (64 * k + j) .unitVoid) d

/-- The ADCs of a tile stop: a capture from one of its inputs gets no further sample, and one held behind it does not begin (R15; log
entry 50). -/
def Dev.stopTile (d : Dev) (k : Nat) : Dev :=
  let on := fun (r : CapRun) => captureInput r.source / 4 = k
  let stop := fun (r : CapRun) => if on r && r.voided.isNone then { r with voided := some d.now } else r
  { d with captures := d.captures.map (fun p =>
      (p.1, { p.2 with run := p.2.run.map stop, follow := p.2.follow.map stop
                       heldTrigger := if p.2.run.any on then none else p.2.heldTrigger })) }

/-- Entry of a tile (R15, R103, R106): its strips with it; bias outputs and the grid counter stay. -/
def Dev.voidTile (d : Dev) (k code : Nat) : Dev :=
  let d := d.voidLines (d.tileChannels k)
  let d := (tileStrips k).foldl (fun e s => e.voidStrip s code) d
  let d := ((d.voidSlots k).stopTile k).abandonUnit 2 k
  let d := (tileInputs k).foldl (fun e i => e.abandonUnit 1 i) d
  let d := if code != 1 then d else
    let d := d.toDefaults (fun i => i = 0x3880 + k || i = 0x2B10 + k || (0x3400 + 4 * k ≤ i && i < 0x3404 + 4 * k) || (0x3440 + 64 * k ≤ i && i < 0x3480 + 64 * k))
    (List.range 64).foldl (fun e j => e.setSlot (64 * k + j) { e.slot (64 * k + j) with kernel := [] }) d
  d.putState (64 + k) code

/-- Void responses of a unit counted. -/
def Dev.voidSent (d : Dev) (u n : Nat) : Dev := d.bumpBy (if u < 64 then Obj.stripVoidSent u else Obj.tileVoidSent (u - 64)) n
/-- The void responses a unit has given to requests between engines, whose number the spec leaves open (R104; log entry 33). -/
def Dev.voidSentOpen (d : Dev) (u : Nat) : Dev := (d.voidSent u d.freeNow).used

/-- A unit enters the void state with a state code. -/
def Dev.enterVoid (d : Dev) (u code : Nat) : Dev :=
  let d := (if u < 64 then d.voidStrip u code else d.voidTile (u - 64) code).voidSentOpen u
  d.setUnit u { d.unit u with entering := 0, since := d.now }

/-! ### The writes (R108, Table 4-5) -/

/-- A unit is to enter the void state within 1 µs. -/
def Dev.askVoid (d : Dev) (u code : Nat) : Dev := d.setUnit u { d.unit u with entering := code, wakeAt := none }
/-- A reset written: refused while the unit is powered down (R108). -/
def Dev.writeReset (d : Dev) (u : Nat) : Dev × Nat :=
  if d.unitState u = 3 || !(d.powered u) then (d, abortState) else (d.askVoid u 1, 0)
/-- A power object written 0. -/
def Dev.writePowerDown (d : Dev) (u : Nat) : Dev × Nat :=
  let key := if u < 64 then Obj.stripPower u else Obj.tilePower (u - 64)
  if d.powered u then ((d.put key 0).askVoid u 3, 0) else (d, 0)
/-- Time from a power-up to the end of the void state (Table 4-5). -/
def wakeTime (u : Nat) : Nat := if u < 64 then 200 * ticksUs else 2 * ticksMs
/-- The machine-check bit of a unit (R456). -/
def checkBit (u : Nat) : Nat := if 64 ≤ u then 32 + (u - 64) else if u < 48 then 48 + u else 134 + (u - 48)
/-- A power object written 1: the unit is loaded again, which ends a machine check's condition (R457). -/
def Dev.writePowerUp (d : Dev) (u : Nat) : Dev × Nat :=
  let key := if u < 64 then Obj.stripPower u else Obj.tilePower (u - 64)
  let x := d.unit u
  let d := (d.put key 1).unraise (checkBit u)
  if d.unitState u = 3 || x.entering = 3 then (d.setUnit u { x with wakeAt := some (d.now + wakeTime u), checked := false, reloading := false }, 0)
  else (d, 0)

/-- STRIP_RESET (R104, R108). -/
def execStripReset (t : Nat) (path : Path) (strip : Strip) (s : State) : Host.Outcome State Fault Refusal :=
  devStep t (fun _ d => d.gated path (Obj.stripReset strip.val) 1 (fun d => d.writeReset strip.val)) s
/-- TILE_RESET (R104, R108). -/
def execTileReset (t : Nat) (path : Path) (tile : Tile) (s : State) : Host.Outcome State Fault Refusal :=
  devStep t (fun _ d => d.gated path (Obj.tileReset tile.val) 1 (fun d => d.writeReset (64 + tile.val))) s
/-- STRIP_POWER_DOWN (R104). -/
def execStripPowerDown (t : Nat) (path : Path) (strip : Strip) (s : State) : Host.Outcome State Fault Refusal :=
  devStep t (fun _ d => d.gated path (Obj.stripPower strip.val) 0 (fun d => d.writePowerDown strip.val)) s
/-- STRIP_POWER_UP (R104). -/
def execStripPowerUp (t : Nat) (path : Path) (strip : Strip) (s : State) : Host.Outcome State Fault Refusal :=
  devStep t (fun _ d => d.gated path (Obj.stripPower strip.val) 1 (fun d => d.writePowerUp strip.val)) s
/-- TILE_POWER_DOWN (R15, R103). -/
def execTilePowerDown (t : Nat) (path : Path) (tile : Tile) (s : State) : Host.Outcome State Fault Refusal :=
  devStep t (fun _ d => d.gated path (Obj.tilePower tile.val) 0 (fun d => d.writePowerDown (64 + tile.val))) s
/-- TILE_POWER_UP (R104). -/
def execTilePowerUp (t : Nat) (path : Path) (tile : Tile) (s : State) : Host.Outcome State Fault Refusal :=
  devStep t (fun _ d => d.gated path (Obj.tilePower tile.val) 1 (fun d => d.writePowerUp (64 + tile.val))) s

/-! ### Entry, end and return (Table 4-5) -/

/-- UNIT_VOID_ENTRY (R104, R105): the unit told to enters its void state. -/
def execUnitVoidEntry (t : Nat) (unit : EngineUnit) (s : State) : Host.Outcome State Fault Refusal :=
  devStep t (fun _ d =>
    let u := EngineUnit.number unit
    let x := d.unit u
    if x.entering = 0 then d
    else
      let d := d.enterVoid u x.entering
      if x.entering = 2 then d.setUnit u { d.unit u with reloading := true } else d) s

/-- Whether a unit's time in void is over (Table 4-5). A strip waits for its tile. -/
def Dev.voidOver (d : Dev) (u : Nat) : Bool :=
  let x := d.unit u
  let tileFree := 64 ≤ u || d.val (Obj.tileState (u / 4)) = 0 || d.val (Obj.tileState (u / 4)) = 4
  let state := d.unitState u
  tileFree && !x.reloading &&
    (if state = 1 then x.since + (if u < 64 then 100 * ticksUs else 400 * ticksUs) ≤ d.now
     else if state = 2 then true
     else if state = 3 then x.wakeAt.any (fun w => w ≤ d.now)
     else false)

/-- UNIT_VOID_END (R104): the unit starts returning; a tile takes its strips with it, but for those powered down on their own. -/
def execUnitVoidEnd (t : Nat) (unit : EngineUnit) (s : State) : Host.Outcome State Fault Refusal :=
  devStep t (fun _ d =>
    let u := EngineUnit.number unit
    if !(d.voidOver u) then d
    else
      let d := ((d.putState u 4).setUnit u { d.unit u with wakeAt := none }).voidSentOpen u
      if u < 64 then d
      else (tileStrips (u - 64)).foldl (fun e k => e.putState k (if e.powered k then 4 else 3)) d) s

/-- Back in service; a return after a machine check is timed (R457). -/
def Dev.unitBack (d : Dev) (u : Nat) : Dev :=
  let x := d.unit u
  let d := d.putState u 0
  if x.checked then
    { d.setUnit u { x with checked := false } with store := { d.store with checkedAt := SMap.set d.store.checkedAt u d.now } }
  else d

/-- UNIT_RETURN (R107, R424 case 5): the lead plan is recomputed and the unit reports state 0. -/
def execUnitReturn (t : Nat) (unit : EngineUnit) (s : State) : Host.Outcome State Fault Refusal :=
  devStep t (fun _ d =>
    let u := EngineUnit.number unit
    if d.unitState u != 4 then d
    else
      let d := d.recompute 5
      if u < 64 then d.unitBack u
      else
        let d := (tileStrips (u - 64)).foldl (fun e k => if e.unitState k = 4 then e.unitBack k else e) d
        (d.unitBack u).put (Obj.tileReturnTime (u - 64)) d.now) s

end Sys2Proof.Machine
end

