-- ==== Sys2Proof/Machine/Rings.lean ====
section
/-! DEFINITION. Rings (R281, Table 15-4), time-interval digitisers, gleaner rings, capture engines and sheaves (chapter 12). -/

namespace Sys2Proof.Machine

/-! ### Rings -/

/-- Ring object, write-offset and read-offset objects of ring `k` of Table 15-4. -/
def ringKeys (k : Nat) : Nat × Nat × Nat :=
  if k < 64 then (Obj.sheafRing k, Obj.sheafRingWrite k, Obj.sheafRingRead k)
  else if k < 80 then (Obj.glnRing (k - 64), Obj.glnRingWrite (k - 64), Obj.glnRingRead (k - 64))
  else if k < 96 then (Obj.tdcRing (k - 80), Obj.tdcRingWrite (k - 80), Obj.tdcRingRead (k - 80))
  else (Obj.capRing (k - 96), Obj.capRingWrite (k - 96), Obj.capRingRead (k - 96))
/-- Block of a ring. -/
def Dev.ringBlock (d : Dev) (k : Nat) : Nat := d.val (ringKeys k).1
/-- Owner of the region a ring's block lies in. -/
def Dev.ringOwner (d : Dev) (k : Nat) : Nat := regionOwner (d.region (domRegion (d.ringBlock k)))

/-- The partition a capture engine acts for: an unassigned one is partition 0's (R46, R310). -/
def Dev.capPart (d : Dev) (e : Nat) : Nat := if d.capOwner e = 15 then 0 else d.capOwner e
/-- The partition a ring's writer acts for (R310). -/
def Dev.ringPartition (d : Dev) (k : Nat) : Nat := if k < 64 then d.ringOwner k else if k < 96 then 0 else d.capPart (k - 96)
/-- Whether a ring's writer may reach its block (R310). -/
def Dev.ringReach (d : Dev) (k : Nat) : Bool :=
  let v := d.ringBlock k
  d.reach (d.ringPartition k) (domRegion v) (domOffset v) (domLength v)

/-- A record put into ring `k` (R281): it never wraps, and at least one byte stays free before the read offset. None while there is
no room. -/
def Dev.ringPut (d : Dev) (k : Nat) (data : List Byte) : Option (Dev × List MemOp) :=
  let block := d.ringBlock k
  let len := domLength block
  let w := d.val (ringKeys k).2.1
  let r := d.val (ringKeys k).2.2
  let skip := if w + data.length ≤ len then 0 else len - w
  let free := len - (w + len - r) % len
  if len < data.length || free < skip + data.length + 1 then none
  else
    let base := d.domAddr block
    let pos := if skip = 0 then w else 0
    let next := if pos + data.length = len then 0 else pos + data.length
    let mark := if skip = 0 then [] else [MemOp.put (base + w) (zeros (min 2 skip))]
    let d := d.ddrAsk 2 (d.ringPartition k) (domRegion block) (domOffset block + pos) data.length .write
    some (d.put (ringKeys k).2.1 next, mark ++ [MemOp.put (base + pos) data])

/-- A read offset written (R281): inside the block, and not past the write offset. -/
def Dev.setReadOffset (d : Dev) (k v : Nat) : Dev × Nat :=
  let len := domLength (d.ringBlock k)
  let w := d.val (ringKeys k).2.1
  let r := d.val (ringKeys k).2.2
  if len ≤ v || (w + len - r) % len < (v + len - r) % len then (d, abortRange)
  else (d.put (ringKeys k).2.2 v, 0)

/-- Whether a function's ring windows reach a ring: a block in a region its partition owns, and the partition enabled (R354, R359). -/
def Dev.ringOpen (d : Dev) (path : Path) (k : Nat) : Bool := d.pathOpen path && d.val Obj.devState != 0 && d.ringOwner k = Path.partition path
/-- RING_READ_OFFSET_WRITE (R281, R356, R359): an access to a ring window on a PCI Express path, where what is refused is dropped, reads 0 and is
counted; on any other a write of the object. -/
def execRingReadOffsetWrite (t : Nat) (path : Path) (ring : Fin 104) (access : RingAccess) (s : State) : Host.Outcome State Fault Refusal :=
  devStep t (fun _ d =>
    let k := ring.val
    match Path.function path, access with
    | some f, .write o n v =>
      let r := d.setReadOffset k (wrap 32 v)
      if d.val Obj.pcieLinkState != 2 || d.val Obj.pcieNumVfs < f || n != 4 || o != 4 then d
      else if d.ringOpen path k && d.faults.safe != 2 && r.2 = 0 then r.1
      else d.bump Obj.pcieRingRefused
    | some f, .read o n =>
      if d.val Obj.pcieLinkState != 2 || d.val Obj.pcieNumVfs < f then d
      else if n != 4 || o % 4 != 0 then d.emit (.bar f 4 0xFFFFFFFF)
      else if 8 ≤ o then d.emit (.bar f 4 0)
      else if d.ringOpen path k then d.emit (.bar f 4 (d.val (if o = 0 then (ringKeys k).2.1 else (ringKeys k).2.2)))
      else (d.bump Obj.pcieRingRefused).emit (.bar f 4 0)
    | none, .write _ _ v => d.gatedValue path (ringKeys k).2.2 v (fun d => d.setReadOffset k v)
    | none, .read _ _ => d) s

/-! ### Trigger inputs (R282–R288) -/

/-- Highest queue depth since the commit. -/
def Dev.queuePeak (d : Dev) (n : Nat) : Dev :=
  let q := (d.trig n).queue.length
  if d.val (Obj.tdcQueuePeak n) < q then d.put (Obj.tdcQueuePeak n) q else d
/-- Losses of an input queued as gap records while there is room (R287). -/
def Dev.queueGaps (d : Dev) (n : Nat) : Dev :=
  let x := d.trig n
  let fit := x.lost.take (512 - x.queue.length)
  let recs : List TdcRec := fit.map (fun p => { time := p.1, wordA := wrap 32 (p.2.1 - p.1 + 1), low := p.2.2, typ := 2 })
  ((d.setTrig n { x with queue := x.queue ++ recs, lost := x.lost.drop fit.length }).bumpBy (Obj.tdcGaps n) fit.length).queuePeak n
/-- A stamp lost (R287). -/
def Dev.loseStamp (d : Dev) (n time : Nat) : Dev :=
  let x := d.trig n
  (d.setTrig n { x with lost := addLoss x.lost x.fresh time, fresh := false }).bump64 (Obj.tdcLost n)

/-- An accepted edge: stamped, its channel fired, and queued while the stream is enabled (R284–R288). -/
def Dev.acceptEdge (d : Dev) (n : Nat) (e : EvTime) (falling unq : Bool) : Dev :=
  let x := d.trig n
  let d := d.setTrig n { x with lastAccepted := some e, seq := wrap 32 (x.seq + 1) }
  let d := ((d.bump64 (Obj.trigEdges n)).put (Obj.tdcLastTick n) e.tick).put (Obj.tdcLastPs n) e.ps
  let d := d.fireAt (d.val (Obj.trigEventChannel n)) e false
  if !(d.flag (Obj.tdcStreamEnable n)) then d
  else
    let d := d.queueGaps n
    let y := d.trig n
    if 512 ≤ y.queue.length then d.loseStamp n e.tick
    else
      let rec' : TdcRec := { time := e.tick, wordA := x.seq, low := e.ps + 256 * ofBool falling + 512 * ofBool unq, typ := 1 }
      (d.setTrig n { y with queue := y.queue ++ [rec'] }).queuePeak n

/-- TRIG_EDGE (R282–R287, R414): a change of the comparator output at `ps` picoseconds after the tick. In a void tile it is not stamped and
fires nothing (Table 4-6). -/
def execTrigEdge (t : Nat) (input : Fin 16) (ps : Nat) (rising : Bool) (s : State) : Host.Outcome State Fault Refusal :=
  devStep t (fun _ d =>
    let n := input.val
    let unq := d.val Obj.timeRefState != 0
    let e : EvTime := { tick := t, ps := if unq then 0 else ps % 100 }
    let changed := d.val (Obj.trigLevel n) != ofBool rising
    let d := d.put (Obj.trigLevel n) (ofBool rising)
    let void := d.unitState (64 + n) != 0
    let d := if changed && !void then d.glean n 1 n t (ofBool rising + 256 * e.ps) else d
    let x := d.trig n
    let sel := d.val (Obj.trigEdge n)
    if void || !(sel = 2 || (sel = 0 && rising) || (sel = 1 && !rising)) then d
    else if x.interrupted then d.loseStamp n t
    else
      let close := x.lastAccepted.any (fun a =>
        let gap := (e.tick * 100 + e.ps) - (a.tick * 100 + a.ps)
        gap < 5000 || gap < d.val (Obj.trigHoldOff n) * 100)
      if close then d.bump (Obj.trigHeldOff n) else d.acceptEdge n e (!rising) unq) s

/-- The 16 bytes of a time-stamp record (Table 12-1). -/
def tdcBytes (n : Nat) (r : TdcRec) : List Byte :=
  leBytes 8 r.time ++ leBytes 4 r.wordA ++ leBytes 2 r.low ++ leBytes 1 n ++ leBytes 1 r.typ

/-- TDC_RECORD_WRITE (R104, R287): the queue's head goes to the ring when it has room; an empty ring block writes nothing, and a void tile
asks for no write. -/
def execTdcRecordWrite (t : Nat) (input : Fin 16) (s : State) : Host.Outcome State Fault Refusal :=
  memStep t (fun _ d =>
    let n := input.val
    let x := d.trig n
    match x.queue with
    | [] => (d.queueGaps n, [])
    | r :: rest =>
      if d.unitState (64 + n) != 0 then (d, []) else
      let d' := d.setTrig n { x with queue := rest }
      if domLength (d.ringBlock (80 + n)) = 0 then (d'.queueGaps n, [])
      else match d'.ringPut (80 + n) (tdcBytes n r) with
        | some p => (p.1.queueGaps n, p.2)
        | none => (d, [])) s

/-! ### The gleaner's ring (R290–R292) -/

/-- The 16 bytes of a gleaner record (Table 12-3). -/
def glnBytes (r : GlnRec) : List Byte :=
  leBytes 8 r.time ++ leBytes 4 r.value ++ leBytes 2 r.source ++ leBytes 1 r.flags ++ leBytes 1 r.kind

/-- GLEANER_RECORD_WRITE (R104, R291, R292): the oldest record goes to the ring, and losses are reported in the space that returns. A void tile
asks for no write. -/
def execGleanerRecordWrite (t : Nat) (tile : Tile) (s : State) : Host.Outcome State Fault Refusal :=
  memStep t (fun _ d =>
    let k := tile.val
    let g := d.gleaner k
    match g.buffer with
    | [] => (d.reportGaps k, [])
    | r :: rest =>
      if d.unitState (64 + k) != 0 then (d, []) else
      match (d.setGleaner k { g with buffer := rest }).ringPut (64 + k) (glnBytes r) with
      | some p => ((p.1.bump64 (Obj.glnRecords k)).reportGaps k, p.2)
      | none => (d.reportGaps k, [])) s

/-! ### Capture (R293–R296) -/

/-- An engine armed: at once, or when the running capture ends (R294). -/
def Dev.arm (d : Dev) (e : Nat) : Dev :=
  let x := d.capture e
  if x.run.isSome then d.setCapture e { x with armDue := true } else d.setCapture e { x with armed := true }
/-- CapArm written (R294): 1 arms, 0 disarms. -/
def Dev.writeArm (d : Dev) (e value : Nat) : Dev × Nat :=
  if value = 1 then (d.arm e, 0)
  else if value = 0 then (d.setCapture e { d.capture e with armed := false, armDue := false }, 0)
  else (d, abortRange)
/-- CAP_ARM (R294). -/
def execCapArm (t : Nat) (path : Path) (engine : Fin 8) (s : State) : Host.Outcome State Fault Refusal :=
  devStep t (fun _ d => d.gated path (Obj.capArm engine.val) 1 (fun d => d.writeArm engine.val 1)) s
/-- CAP_DISARM (R294). -/
def execCapDisarm (t : Nat) (path : Path) (engine : Fin 8) (s : State) : Host.Outcome State Fault Refusal :=
  devStep t (fun _ d => d.gated path (Obj.capArm engine.val) 0 (fun d => d.writeArm engine.val 0)) s

/-- What a slot is tuned to, from a tick on. -/
def Dev.tuning (d : Dev) (s since : Nat) : Tuning :=
  { since := since, length := d.val (Obj.slotWindowLength s), freq := bits (d.val (Obj.slotFreq s)) 47 0
    phase := bits (d.val (Obj.slotPhase s)) 23 0, origin := d.val (Obj.slotOrigin s) }
/-- The tuning in force at a tick. -/
def CapRun.tunedAt (r : CapRun) (t : Nat) : Option Tuning := r.tunings.find? (fun x => x.since ≤ t)
/-- A slot tuned anew from a tick on: captures of its stream go on with the new values (R179, R198). -/
def Dev.retune (d : Dev) (s tick : Nat) : Dev :=
  let on := fun (r : CapRun) => if r.source = 0x400 + s then { r with tunings := d.tuning s tick :: r.tunings } else r
  { d with captures := d.captures.map (fun p => (p.1, { p.2 with run := p.2.run.map on, follow := p.2.follow.map on })) }
/-- The capture a trigger at grid time `e` starts: its first sample lies on an even tick (R294). -/
def Dev.capRun (d : Dev) (k e : Nat) : CapRun :=
  let at' := e + d.val (Obj.capDelay k)
  { trigger := e, start := at' + at' % 2, requested := d.val (Obj.capLength k), source := d.val (Obj.capSource k), moved := false
    unqualified := d.val Obj.timeRefState != 0, shot := d.val Obj.devShotNumber, cut := false, voided := none
    tunings := if d.val (Obj.capSource k) < 0x400 then [] else [d.tuning (d.val (Obj.capSource k) - 0x400) 0] }
/-- Ticks from one sample to the next, and bytes of one, for a source (R198, R293). -/
def sampleShape (source : Nat) : Nat × Nat := if source < 64 then (2, 2) else (32, 4)
/-- The overrun flag of a channel (R405). -/
def Dev.overrun (d : Dev) (ch : Nat) : Dev :=
  if 128 ≤ ch then d
  else (d.put (Obj.evtFlags ch) (d.val (Obj.evtFlags ch) ||| 1)).bump (Obj.evtOverruns ch)

/-- A trigger at an engine (R294, R295). One whose source lies in a void tile finds no ADC running and starts nothing (R15; log entry 50). -/
def Dev.capTrigger (d : Dev) (k e : Nat) : Dev :=
  let x := d.capture k
  let source := d.val (Obj.capSource k)
  if !x.armed || source = 0xFFF || d.unitState (64 + captureInput source / 4) != 0 then d
  else
    let new := d.capRun k e
    match x.run with
    | none => d.setCapture k { x with run := some new }
    | some r =>
      let policy := d.val (Obj.capPolicy k)
      if policy = 0 then d.bump (Obj.capIgnored k)
      else if policy = 1 then
        (d.setCapture k { x with run := some { r with cut := true }, follow := x.follow.map (fun f => { f with cut := true }) ++ [new] }).bump
          (Obj.capRestarts k)
      else if x.heldTrigger.isSome then (d.bump (Obj.capOverruns k)).overrun (d.val (Obj.capTriggerChannel k))
      else d.setCapture k { x with heldTrigger := some e, heldShots := [(0, d.val Obj.devShotNumber)] }
/-- CAP_TRIGGER (R294, R295): the engine acts on an event of its trigger channel that the router has delivered (log entry 39). -/
def execCapTrigger (t : Nat) (engine : Fin 8) (eventTime : Nat) (s : State) : Host.Outcome State Fault Refusal :=
  devStep t (fun _ d =>
    let k := engine.val
    let x := d.capture k
    if x.asked.contains eventTime then (d.setCapture k { x with asked := x.asked.erase eventTime }).capTrigger k eventTime else d) s

/-- A capture record's header (Table 12-4). -/
def capHeader (k : Nat) (r : CapRun) (seq stored len : Nat) (excess clipped : Bool) : List Byte :=
  leBytes 2 0x5A43 ++ leBytes 1 1
    ++ leBytes 1 (ofBool r.cut + 2 * ofBool excess + 4 * ofBool clipped + 8 * ofBool r.unqualified + 16 * ofBool r.moved)
    ++ leBytes 4 len ++ leBytes 8 r.start ++ leBytes 4 r.requested ++ leBytes 4 stored ++ leBytes 8 r.trigger ++ leBytes 2 r.source
    ++ leBytes 1 k ++ leBytes 1 0 ++ leBytes 4 seq ++ leBytes 8 r.shot ++ zeros 16
/-- Padded with zeros to a multiple of `n` bytes. -/
def padTo (n : Nat) (bs : List Byte) : List Byte := bs ++ zeros (n * ceilDiv bs.length n - bs.length)
/-- A capture record: header and content (Table 12-4). -/
def capRecord (k : Nat) (r : CapRun) (seq stored : Nat) (excess clipped : Bool) (content : List Byte) : List Byte :=
  capHeader k r seq stored (64 + 64 * ceilDiv content.length 64) excess clipped ++ padTo 64 content

/-- Samples of a capture whose instants lie before a tick (R294). -/
def CapRun.before (r : CapRun) (tick : Nat) : Nat := ceilDiv (tick - r.start) (sampleShape r.source).1
/-- Samples a capture takes: those requested, up to the restart that cuts it short (R295) and while its tile's ADCs run (R15). -/
def CapRun.taken (r : CapRun) (follow : Option CapRun) : Nat :=
  let n := match follow with
    | some f => min r.requested (r.before f.start)
    | none => r.requested
  match r.voided with
  | some t => min n (if r.source < 64 then r.before t else (t - r.start) / 32)
  | none => n
/-- Grid time at which the last of `n` samples has been taken. -/
def CapRun.lastAt (r : CapRun) (n : Nat) : Nat :=
  if n = 0 then r.start else r.start + (n - 1) * (sampleShape r.source).1 + (if r.source < 64 then 0 else 32)

/-- Room for samples in an engine's part of its input's capture buffer: 1 MiB, in equal parts for the engines whose sources lie on the
input, less what ended records hold (R13, R293). -/
def Dev.captureRoom (d : Dev) (k : Nat) (r : CapRun) : Nat :=
  let on := fun e =>
    let s := match (d.capture e).run with
      | some x => x.source
      | none => d.val (Obj.capSource e)
    s != 0xFFF && captureInput s = captureInput r.source
  let share := max 1 ((List.range 8).filter on).length
  (2 ^ 20 / share - ((d.capture k).waiting.map (fun x => x.length - 64)).sum) / (sampleShape r.source).2
/-- Samples a capture stores (R296): while its record cannot leave the buffer, no more than the buffer has room for; while it can, class 2
delays decide, but never fewer than the buffer has room for. -/
def Dev.captureStored (d : Dev) (k : Nat) (r : CapRun) (follow : Option CapRun) (stored : Nat) : Nat :=
  let n := r.taken follow
  let room := d.captureRoom k r
  let size := 64 + 64 * ceilDiv (n * (sampleShape r.source).2) 64
  let free := domLength (d.ringBlock (96 + k)) = 0 || ((d.capture k).waiting.isEmpty && (d.ringPut (96 + k) (zeros size)).isSome)
  min n (if free then max stored room else room)

/-- Decimated samples of a slot's stream in the format of R198, from 80 held codes and 16 per sample; with a window length of 0 the
down-converter does not run (R178), and the samples are a free value's. -/
def demodBytes (r : CapRun) (free : Nat) : Nat → Nat → List Int → List Int → List Byte
  | 0, _, _, _ => []
  | n + 1, stop, hist, codes =>
    let all := hist ++ takeCodes 16 codes
    let tuned := fun (t : Nat) => match r.tunedAt t with
      | some x => (x.freq, x.phase, x.origin)
      | none => (0, 0, 0)
    let z := (decimateBy tuned stop all).1
    let bytes := if (r.tunedAt stop).any (fun x => x.length = 0) then leBytes 4 free else leBytes 2 (ofInt 16 z.1) ++ leBytes 2 (ofInt 16 z.2)
    bytes ++ demodBytes r (free / 2 ^ 32) n (stop + 32) (all.drop 16) (codes.drop 16)
/-- The codes the samples of a capture are made of: one per ADC sample; for a slot the 80 its filter holds and 16 per sample (R180, R198). -/
def captureCodes (source stored : Nat) (held adc : List Int) : List Int × List Int :=
  if source < 64 then ([], takeCodes stored adc) else (takeCodes 80 held, takeCodes (16 * stored) adc)
/-- The content of a record (R198): each sample as its slot was tuned when it was taken (R179). -/
def Dev.captureContent (d : Dev) (r : CapRun) (stored : Nat) (held adc : List Int) : List Byte :=
  let c := captureCodes r.source stored held adc
  if r.source < 64 then (c.2.map (fun x => leBytes 2 (ofInt 16 x))).flatten
  else demodBytes r d.freeNow stored (r.start + 32) c.1 c.2

/-- What follows a capture that ended (R294, R295). -/
def Dev.capNext (d : Dev) (k : Nat) (r : CapRun) (stored : Nat) : Dev :=
  let x := d.capture k
  let x := { x with seq := wrap 32 (x.seq + 1) }
  match x.follow, x.heldTrigger with
  | f :: fs, _ => d.setCapture k { x with run := some f, follow := fs }
  | [], some e =>
    let new := d.capRun k e
    let stop := r.start + stored * (sampleShape r.source).1
    let start := max new.start stop
    let shot := ((x.heldShots.find? (fun p => p.1 ≤ start)).map Prod.snd).getD new.shot
    d.setCapture k { x with run := some { new with start := start, moved := new.start < stop, shot := shot, tunings := r.tunings }
                            heldTrigger := none, heldShots := [] }
  | [], none =>
    d.setCapture k { x with run := none, armed := x.armDue || (x.armed && d.val (Obj.capMode k) = 1), armDue := false }

/-- Records that wait go to the ring, oldest first, while it has room; with an empty ring block none is written (R281, R293), and into a region
that the engine's owner does not own each is refused (R310, R316). -/
def Dev.drainRecords (d : Dev) (k : Nat) : List (List Byte) → Dev × List MemOp
  | [] => (d.setCapture k { d.capture k with waiting := [] }, [])
  | x :: xs =>
    if domLength (d.ringBlock (96 + k)) = 0 then (d.setCapture k { d.capture k with waiting := [] }, [])
    else if !(d.ringReach (96 + k)) then Dev.drainRecords (d.ddrRefuse 2 (domRegion (d.ringBlock (96 + k)))) k xs
    else match d.ringPut (96 + k) x with
      | some p =>
        let q := Dev.drainRecords (p.1.bump64 (Obj.capRecords k)) k xs
        (q.1, p.2 ++ q.2)
      | none => (d.setCapture k { d.capture k with waiting := x :: xs }, [])

/-- The capture of an engine ends with `stored` samples: its record joins those its buffer holds, and CapDoneEvent fires (R294, R296). -/
def Dev.capFinish (d : Dev) (k : Nat) (r : CapRun) (stored : Nat) (held adc : List Int) : Dev :=
  let x := d.capture k
  let codes := (captureCodes r.source stored held adc).2
  let excess := stored < r.taken x.follow.head?
  let record := capRecord k r x.seq stored excess (codes.any clippedCode) (d.captureContent r stored held adc)
  let free := r.tunings.any (fun x => x.length = 0)
  let before := if r.source < 64 then [] else (takeCodes 80 held).drop ((160 - r.start) / 2)
  let d := d.countClipped (captureInput r.source) (if r.source < 64 then r.start - 2 else r.start - 160) (before ++ codes) 0
  let d := if free then d.used else d
  let d := d.setCapture k { x with waiting := x.waiting ++ [record] }
  let d := if excess then d.bump (Obj.capOverflows k) else d
  (d.fire (d.val (Obj.capDoneEvent k)) d.now).capNext k r stored

/-- CAP_END (R294–R296): a capture whose last sample has been taken ends, and the records its engine holds go to the ring while that has
room. `stored` is how far class 2 delays let the capture come; `held` holds the codes a slot's filter held at the start (R180) and `adc` the
input's codes of the samples. -/
def execCapEnd (t : Nat) (engine : Fin 8) (stored : Nat) (held adc : List Int) (s : State) : Host.Outcome State Fault Refusal :=
  memStep t (fun _ d =>
    let k := engine.val
    let x := d.capture k
    match x.run with
    | none => d.drainRecords k x.waiting
    | some r =>
      let n := d.captureStored k r x.follow.head? stored
      if d.now < r.lastAt n then d.drainRecords k x.waiting
      else
        let d := d.capFinish k r n held adc
        d.drainRecords k (d.capture k).waiting) s

/-- CapState (Table 12-11). -/
def Dev.capState (d : Dev) (k : Nat) : Nat :=
  let x := d.capture k
  match x.run with
  | none => ofBool x.armed
  | some r => if d.now < r.start then 2 else if x.heldTrigger.isSome then 4 else 3

/-! ### Sheaves (R297–R302) -/

/-- Items of a shot for one fabric ID that stood at the close, latest window end last (R297, R298). -/
def Dev.shotItems (d : Dev) (shot close fid : Nat) : List Item :=
  d.items.filter (fun i => i.id = fid && i.final && i.shot = wrap 32 shot && i.time ≤ close)
/-- The item a sheaf reports. -/
def latestOf (is : List Item) : Option Item :=
  is.foldl (fun b i => match b with
    | some x => if x.windowEnd < i.windowEnd then some i else b
    | none => some i) none
/-- Exceptions of one fabric ID, by kind (R299). -/
def exceptionKinds (fid : Nat) (is : List Item) (grains : Bool) : List Nat :=
  match latestOf is with
  | none => [0]
  | some i =>
    (if i.void then [1] else []) ++ (if fid < 1024 && 1 < is.length then [2] else [])
      ++ (if fid < 1024 && grains && !(bit i.flags 2) then [3] else [])
/-- Bits packed into bytes, `w` bits each, first item lowest. -/
def packBits (w : Nat) (vs : List Nat) : List Byte :=
  leBytes (ceilDiv (vs.length * w) 8) (vs.foldr (fun v acc => acc * 2 ^ w + v % 2 ^ w) 0)
/-- A reported value: 0 when void or absent. -/
def itemValue (o : Option Item) : Nat :=
  match o with
  | some i => if i.void then 0 else i.value
  | none => 0

/-- The sheaf of a shot with its Lost and Check fields still 0 (R299, Tables 12-5 and 12-6). -/
def Dev.sheafBytes (d : Dev) (r : ShotRec) : List Byte :=
  match r.scope with
  | [_, s0, sn, c0, cn, codes, grains] =>
    let close := r.stop + 10000
    let get := d.shotItems r.shot close
    let slots := (List.range sn).map (fun i => s0 + i)
    let cells := (List.range cn).map (fun i => 1024 + c0 + i)
    let codeIds := (setBits 4 codes).map (fun t => 1280 + t)
    let withGrains := grains = 1
    let exc := ((slots ++ cells ++ codeIds).map (fun f => (exceptionKinds f (get f) withGrains).map (fun k => f + 2048 * k))).flatten
    let verdicts := packBits 2 (slots.map (fun f => itemValue (latestOf (get f))))
    let cellBits := packBits 1 (cells.map (fun f => itemValue (latestOf (get f))))
    let codeBytes := if codes = 0 then [] else
      ((List.range 4).map (fun t => leBytes 1 (if bit codes t then itemValue (latestOf (get (1280 + t))) else 0))).flatten
    let grainBytes := if !withGrains then [] else
      (slots.map (fun f => leBytes 9 (match latestOf (get f) with
        | some i => if i.void || !(bit i.flags 2) then 0 else i.grain
        | none => 0))).flatten
    let body := padTo 8 verdicts ++ padTo 8 cellBits ++ padTo 8 codeBytes ++ padTo 8 grainBytes
      ++ padTo 8 ((exc.map (leBytes 2)).flatten)
    let reason := (r.spoil.map Spoil.reason).getD 0
    let cause := (r.spoil.map Spoil.cause).getD 0
    leBytes 2 0x5A48 ++ leBytes 1 1 ++ leBytes 1 (ofBool r.spoil.isSome + 2 * ofBool withGrains + 4 * ofBool d.unqualified)
      ++ leBytes 4 (56 + body.length) ++ leBytes 8 r.shot ++ leBytes 8 r.origin ++ leBytes 8 r.stop ++ leBytes 1 r.group
      ++ leBytes 1 (d.laneOwner (r.members.head?.getD 0)) ++ leBytes 2 reason ++ leBytes 2 s0 ++ leBytes 2 sn ++ leBytes 2 c0
      ++ leBytes 2 cn ++ leBytes 1 codes ++ leBytes 1 0 ++ leBytes 2 exc.length ++ leBytes 2 cause ++ leBytes 6 0 ++ body
  | _ => []

/-- Lost count and check of a sheaf filled in as it goes to its ring (R301, Table 12-6). -/
def sealSheaf (bs : List Byte) (lost : Nat) : List Byte :=
  let flags := (bs.drop 3).take 1
  let flags := if lost = 0 then flags else flags.map (fun b => b ||| 8)
  let b := bs.take 3 ++ flags ++ (bs.drop 4).take 46 ++ leBytes 2 (min lost 65535) ++ zeros 4 ++ bs.drop 56
  b.take 52 ++ leBytes 4 (crc32c b) ++ b.drop 56

/-- A sheaf lost (R301). -/
def Dev.loseSheaf (d : Dev) (g : Nat) : Dev :=
  ({ d with sheafLostNow := SMap.set d.sheafLostNow g (SMap.look d.sheafLostNow g 0 + 1) } : Dev).bump (Obj.sheafLost g)

/-- SHEAF_CLOSE (R298): at *E* + 1 µs the oldest ended shot's sheaf closes. A group with no ring writes none. -/
def execSheafClose (t : Nat) (group : Fin 64) (s : State) : Host.Outcome State Fault Refusal :=
  devStep t (fun _ d =>
    let g := group.val
    match d.shots.find? (fun r => r.group = g) with
    | none => d
    | some r =>
      if d.now < r.stop + 10000 then d
      else
        let bytes := d.sheafBytes r
        let ring := d.ringBlock g
        let d := { d with shots := d.shots.filter (fun x => !(x.group = g && x.shot = r.shot)), closed := d.closed ++ [r] }
        if domLength ring = 0 then d
        else if regionOwner (d.region (domRegion ring)) != d.laneOwner (r.members.head?.getD 0) then (d.ddrRefuse 2 (domRegion ring)).loseSheaf g
        else { d with sheaves := SMap.set d.sheaves g (SMap.look d.sheaves g [] ++ [bytes]) }) s

/-- The DMA channel that follows a ring (R362). -/
def Dev.follower (d : Dev) (k : Nat) : Option Nat :=
  (List.range 16).find? (fun c => d.val (Obj.pcieDmaMode c) = 1 && d.val (Obj.pcieDmaFollow c) = k && d.dmaOwner c != 15)
/-- A sheaf put into its ring with the losses before it (R301); none while the ring lacks room. A ring made empty since writes none, and one in a
region of another owner than the lanes' loses it, its write refused (R316). -/
def Dev.writeSheaf (d : Dev) (g : Nat) (bytes : List Byte) : Option (Dev × List MemOp) :=
  if domLength (d.ringBlock g) = 0 then some (d, [])
  else if d.ringOwner g != field bytes 33 1 then some ((d.ddrRefuse 2 (domRegion (d.ringBlock g))).loseSheaf g, [])
  else (d.ringPut g (sealSheaf bytes (SMap.look d.sheafLostNow g 0))).map (fun p =>
    (({ p.1 with sheafLostNow := SMap.set p.1.sheafLostNow g 0 } : Dev).bump64 (Obj.sheafWritten g), p.2))

/-- A sheaf at its close that finds no room: queued behind those that wait, or lost (R301, R362). -/
def Dev.queueSheaf (d : Dev) (g : Nat) (b : List Byte) : Dev :=
  match d.follower g with
  | none => d.loseSheaf g
  | some c =>
    let x := d.dmaCh c
    if ((x.queue.map List.length).sum + b.length) ≤ 65536 then d.setDma c { x with queue := x.queue ++ [b] } else d.loseSheaf g

/-- The sheaf that waits longest in the following channel's queue goes to the ring, when there is room. -/
def Dev.drainSheaf (d : Dev) (g : Nat) : Dev × List MemOp :=
  match d.follower g with
  | none => (d, [])
  | some c =>
    match (d.dmaCh c).queue with
    | [] => (d, [])
    | q :: qs =>
      match d.writeSheaf g q with
      | some p => (p.1.setDma c { p.1.dmaCh c with queue := qs }, p.2)
      | none => (d, [])

/-- SHEAF_WRITE (R301, R362): sheaves go to the ring in shot order; one that finds no room waits in the following channel's 64 KiB queue,
and is lost when that is full or no channel follows. -/
def execSheafWrite (t : Nat) (group : Fin 64) (s : State) : Host.Outcome State Fault Refusal :=
  memStep t (fun _ d =>
    let g := group.val
    let waiting := (d.follower g).any (fun c => !(d.dmaCh c).queue.isEmpty)
    match SMap.look d.sheaves g [] with
    | [] => d.drainSheaf g
    | b :: bs =>
      let d := { d with sheaves := SMap.set d.sheaves g bs }
      if waiting then (d.queueSheaf g b).drainSheaf g
      else match d.writeSheaf g b with
        | some p => p
        | none => (d.queueSheaf g b, [])) s

end Sys2Proof.Machine
end

