-- ==== Sys2Proof/Machine/Monitor.lean ====
section
/-! DEFINITION. The monitor converter's sequence, triggers, slices and diode readings (R269–R280). -/

namespace Sys2Proof.Machine

/-- A field of sequence entry `i` (Table 11-7). -/
def Dev.monField (d : Dev) (i hi lo : Nat) : Nat := bits (d.val (Obj.monEntry i)) hi lo
/-- Whether an entry is skipped (R271). -/
def Dev.monSkipped (d : Dev) (i : Nat) : Bool := d.monField i 23 10 = 0 || d.monField i 39 24 = 0
/-- Last entry of a pass: the first with End set, or 63 (R271). -/
def Dev.monLast (d : Dev) : Nat := ((List.range 64).find? (fun i => d.monField i 51 51 = 1)).getD 63
/-- The first entry of a pass, from `i` on, that is not skipped. -/
def Dev.monFrom (d : Dev) (i : Nat) : Option Nat := (List.range 64).find? (fun j => i ≤ j && j ≤ d.monLast && !(d.monSkipped j))
/-- Integration length *T* of an entry in ticks, rounded to the nearest (R270). -/
def Dev.monLength (d : Dev) (i : Nat) : Nat := (d.monField i 23 10 * d.val Obj.monLinePeriod + 5) / 10
/-- Whether a conversion runs (R270). -/
def Monitor.runs (m : Monitor) : Bool := m.phase = 1 || m.phase = 2

/-- A conversion of an entry starts at a time: 50 µs of settling come first when the channel differs from the previous one's, or the
converter has been idle (R270). -/
def Dev.monStart (d : Dev) (i time : Nat) : Dev :=
  let m := d.monitor
  let chan := d.monField i 9 0
  let phase := if m.channel = some chan && m.lastActivity = time then 2 else 1
  { d with monitor := { m with phase := phase, entry := i, results := 0, startedAt := time, channel := some chan } }

/-- The converter goes on at a time, its next entry `i` or later: by the run mode (R272); a held trigger starts it (R274). -/
def Dev.monGo (d : Dev) (i time : Nat) (fresh : Bool) : Dev :=
  let m := d.monitor
  let mode := d.val Obj.monRunMode
  let wrapped := (d.monFrom i).isNone
  let next := match d.monFrom i with
    | some j => some j
    | none => d.monFrom 0
  let rest := fun (e : Dev) (phase : Nat) => { e with monitor := { e.monitor with phase := phase, entry := next.getD 0 } }
  match next with
  | none => rest d 0
  | some j =>
    if mode = 0 || (mode = 1 && wrapped && !fresh) then rest d 0
    else if mode = 3 && !m.held then rest d 3
    else ({ d with monitor := { m with held := false } } : Dev).monStart j time

/-- The new values of the monitor group are in force (R275): counts and deadbands start again; a held trigger is kept only in mode 3. -/
def Dev.monCommitted (d : Dev) (time : Nat) : Dev :=
  let m := d.monitor
  let d := { d with monitor := { m with last := [], counts := [], restart := false, held := m.held && d.val Obj.monRunMode = 3 } }
  d.monGo 0 time true

/-- A trigger at the monitor (R272, R274): `ch` is the channel that carried it. -/
def Dev.monTrigger (d : Dev) (ch : Nat) : Dev :=
  let m := d.monitor
  if d.val Obj.monRunMode != 3 then d
  else if m.runs then
    if m.held then (d.bump Obj.monOverruns).overrun ch else { d with monitor := { m with held := true } }
  else match d.monFrom (if (d.monFrom m.entry).isSome then m.entry else 0) with
    | some j => d.monStart j d.now
    | none => d

/-- MON_TRIGGER (R274): the oldest activation that has reached the trigger input, or a trigger of its own channel, acts. -/
def execMonTrigger (t : Nat) (s : State) : Host.Outcome State Fault Refusal :=
  devStep t (fun _ d =>
    match d.monitor.asked with
    | ch :: rest => ({ d with monitor := { d.monitor with asked := rest } } : Dev).monTrigger ch
    | [] => d.monTrigger (d.val Obj.monTriggerChannel)) s

/-- MonRestart written 1 (R275): entry 0 is the next conversion, once a running one has ended. -/
def Dev.writeMonRestart (d : Dev) : Dev × Nat :=
  let m := d.monitor
  if m.runs then ({ d with monitor := { m with restart := true } }, 0) else (d.monGo 0 d.now true, 0)
/-- MON_RESTART (R275). -/
def execMonRestart (t : Nat) (path : Path) (s : State) : Host.Outcome State Fault Refusal :=
  devStep t (fun _ d => d.gated path Obj.monRestart 1 (fun d => d.writeMonRestart)) s

/-- MON_SETTLE_END (R270): 50 µs have passed and the integration begins. -/
def execMonSettleEnd (t : Nat) (s : State) : Host.Outcome State Fault Refusal :=
  devStep t (fun _ d =>
    let m := d.monitor
    if m.phase != 1 || d.now < m.startedAt + 50 * ticksUs then d
    else { d with monitor := { m with phase := 2, startedAt := m.startedAt + 50 * ticksUs } }) s

/-! ### Slices (R278, R279) -/

/-- So many tenths of a line cycle in ticks: MonLinePeriod is in ns. -/
def Dev.monTenths (d : Dev) (n : Nat) : Nat := n * d.val Obj.monLinePeriod
/-- Whether the spare, not lent, has had so many tenths of a cycle for itself since its latest work ended. -/
def Dev.spareHad (d : Dev) (n : Nat) : Bool := !d.monitor.lent && d.monitor.spareBusy + d.monTenths n ≤ d.now

/-- MON_SPARE_CALIBRATED (R278): the spare has converted the zero channel and both references, one cycle each, and is calibrated. -/
def execMonSpareCalibrated (t : Nat) (s : State) : Host.Outcome State Fault Refusal :=
  devStep t (fun _ d =>
    let m := d.monitor
    if !(d.spareHad 30) then d
    else { d with monitor := { m with spareFresh := true, spareBusy := d.now, calTime := SMap.set m.calTime m.spare d.now } }) s

/-- Whether a window of an active slice starts now (R270): the second slice's lie half a length later, and only an interleaved entry has them. -/
def Dev.windowStarts (d : Dev) (second : Bool) : Bool :=
  let m := d.monitor
  let len := d.monLength m.entry
  let woven := d.monField m.entry 40 40 = 1
  let count := d.monField m.entry 39 24
  let first := m.startedAt + (if second then len / 2 else 0)
  let windows := if !woven then (if second then 0 else count) else if second then count / 2 else (count + 1) / 2
  m.phase = 2 && first ≤ d.now && (d.now - first) % max len 1 = 0 && (d.now - first) / max len 1 < windows

/-- MON_ROTATION (R278): the fresh spare takes over from the active slice with the oldest calibration, as that slice's next window starts; the
retired slice becomes the spare, and calibrates before it serves the diodes. -/
def execMonRotation (t : Nat) (s : State) : Host.Outcome State Fault Refusal :=
  devStep t (fun _ d =>
    let m := d.monitor
    let period := d.val Obj.monRotatePeriod
    if period = 0 || m.lent || !m.spareFresh || d.now < d.val Obj.monLastRotation + period * ticksS then d
    else
      let old0 := SMap.look m.calTime m.active0 0 ≤ SMap.look m.calTime m.active1 0
      if !(d.windowStarts (!old0)) then d
      else
        let m := if old0 then { m with active0 := m.spare, spare := m.active0, spareFresh := false, spareBusy := d.now }
          else { m with active1 := m.spare, spare := m.active1, spareFresh := false, spareBusy := d.now }
        ({ d with monitor := m } : Dev).put Obj.monLastRotation d.now) s

/-- MON_DIODE_READING (R279, R432): the spare, calibrated and not lent, has converted the diode whose turn it is for 0.1 cycle, and delivers the
reading, ΔV_BE in nV, to the thermal model. DESIGN CHOICE: a slice that becomes the spare calibrates first (log entry 54). -/
def execMonDiodeReading (t : Nat) (node : Fin 17) (deltaVbe : Nat) (s : State) : Host.Outcome State Fault Refusal :=
  devStep t (fun _ d =>
    let m := d.monitor
    if !m.spareFresh || m.diodeTurn != node.val || !(d.spareHad 1) then d
    else ({ d with monitor := { m with diodeTurn := (node.val + 1) % 17, spareBusy := d.now } } : Dev).diodeReading node.val deltaVbe) s

/-- The range of a channel's results in 0.1 µV: ±6.0 V at the converter, behind a ÷2 divider for VBIAS_P and VBIAS_N, which are reported at
their ball value (R269). -/
def monRange (channel : Nat) : Int := if channel = 0x215 || channel = 0x216 then 120000000 else 60000000

/-- One result of the running conversion, its integration ended at `time` (R269, R273, R276, R277). -/
def Dev.monRecord (d : Dev) (value : Int) (time : Nat) : Dev :=
  let m := d.monitor
  let i := m.entry
  let range := monRange (d.monField i 9 0)
  let v := clampI value (-range) range
  let n := wrap 32 (SMap.look m.counts i 0 + 1)
  let word := ofInt 32 v * 2 ^ 40 + ofBool (v != value) * 2 ^ 39 + ofBool (d.val Obj.timeRefState != 0) * 2 ^ 38
    + d.monField i 40 40 * 2 ^ 37 + n
  let pass := (SMap.find m.last i).all (fun x => d.val (Obj.monDeadband i) < (v - x).natAbs)
  let mode := d.monField i 42 41
  let fires := mode = 1 || (mode = 2 && pass)
  let gleans := d.monField i 50 50 = 1 && pass
  let d := (d.put (Obj.monResult i) word).put (Obj.monResultTime i) time
  let d := { d with monitor :=
    { m with results := m.results + 1, counts := SMap.set m.counts i n, last := if fires || gleans then SMap.set m.last i v else m.last } }
  let d := if fires then d.fire (d.monField i 49 43) time else d
  if gleans then d.glean 0 4 i time (ofInt 32 v) else d

/-- Integration end of the running conversion's next result (R270). -/
def Dev.monNextEnd (d : Dev) : Nat :=
  let m := d.monitor
  let len := d.monLength m.entry
  m.startedAt + len + (if d.monField m.entry 40 40 = 1 then m.results / 2 * len + m.results % 2 * (len / 2) else m.results * len)

end Sys2Proof.Machine
end

