-- ==== Sys2Proof/Machine/Store.lean ====
section
/-! DEFINITION. The control store (chapter 20): images and their slots, strip updates, machine checks, and user micro-routines. -/

namespace Sys2Proof.Machine

/-! ### Images (R458, R459, Table 20-3) -/

/-- Bytes of an image's body. -/
def bodyLength : Nat := 179716
/-- The test of R458 that an image fails, as CsLastCheck reports it (Table 20-6); 1 when it verifies. -/
def Dev.imageCheck (d : Dev) (bs : List Byte) : Nat :=
  let body := (bs.drop 240).take bodyLength
  let key := (bs.drop 48).take 96
  if bs.length != 240 + bodyLength || field bs 0 2 != 0x5A4D || field bs 2 1 != 1 || field bs 40 4 != bodyLength
      || field bs 44 4 != crc32c body then 2
  else if Config.sha384 key != Config.keyDigest then 3
  else if !(Config.ecdsaP384Valid key ((bs.drop 144).take 96) (Config.sha384 (bs.take 144 ++ body))) then 4
  else if field bs 4 1 < d.val Obj.csRollbackCounter then 5
  else 1
/-- What the device keeps of an image in its slot. -/
def slotOfImage (bs : List Byte) : ImageSlot :=
  { valid := true, live := bit (field bs 3 1) 0, security := field bs 4 1, version := ((bs.drop 8).take 32).takeWhile (fun b => b != 0)
    image := some bs }
/-- SoftwareVersion of a slot's image (Table 2-9): bytes 8–39 up to the first 0. -/
def ImageSlot.versionText (x : ImageSlot) : List Byte :=
  if x.image.isSome then x.version else ((List.range 32).map (fun j => BitVec.ofNat 8 (Config.factoryImage (8 + j)))).takeWhile (fun b => b != 0)
/-- Image slot A (0) or B (1). -/
def ControlStore.slot (c : ControlStore) (i : Nat) : ImageSlot := if i = 0 then c.slotA else c.slotB
/-- An image slot replaced. -/
def ControlStore.setSlot (c : ControlStore) (i : Nat) (x : ImageSlot) : ControlStore := if i = 0 then { c with slotA := x } else { c with slotB := x }
/-- Whether a slot's image verifies now (R458, R459). -/
def Dev.slotOk (d : Dev) (i : Nat) : Bool := (d.store.slot i).valid && d.val Obj.csRollbackCounter ≤ (d.store.slot i).security
/-- The slot that is not active. -/
def Dev.otherSlot (d : Dev) : Nat := 1 - d.val Obj.csActiveSlot

/-- CS_SLOT_WRITE_COMPLETE (R459): the committed image stands verified in the inactive slot, which becomes CsNextSlot; the commit is
applied. -/
def execCsSlotWriteComplete (t : Nat) (s : State) : Host.Outcome State Fault Refusal :=
  devStep t (fun _ d =>
    match d.store.writing with
    | none => d
    | some bs =>
      let i := d.otherSlot
      let d := { d with store := { d.store.setSlot i (slotOfImage bs) with writing := none } }
      let d := (d.put Obj.csNextSlot i).bump Obj.csImageWrites
      let d := { d with staged := SMap.del d.staged Obj.csImage }
      d.setCommit Obj.csCommit { d.commitOf Obj.csCommit with status := 3, boundary := 0, loading := false }) s

/-- CS_STRIP_UPDATE (R460): the strip moves to the live next slot. A strip that is powered down is refused as well (log entry 23). -/
def Dev.writeStripUpdate (d : Dev) (k : Nat) : Dev × Nat :=
  let next := d.val Obj.csNextSlot
  if next = d.val Obj.csActiveSlot || !(d.store.slot next).live || !(d.slotOk next) || d.unitState k = 3 || !(d.powered k) then (d, abortState)
  else (d.askVoid k 2, 0)
/-- CS_STRIP_UPDATE (R460). -/
def execCsStripUpdate (t : Nat) (path : Path) (value : Nat) (s : State) : Host.Outcome State Fault Refusal :=
  devStep t (fun _ d => d.gatedValue path Obj.csStripUpdate value (fun d => d.writeStripUpdate value)) s

/-! ### The engines' stores and words (R451–R453, Tables 20-1 and 20-3) -/

/-- A byte of a slot's image. -/
def ImageSlot.byte (x : ImageSlot) (i : Nat) : Nat :=
  match x.image with
  | some bs => ((bs[i]?).map BitVec.toNat).getD 0
  | none => Config.factoryImage i % 256
/-- `n` bytes of a slot's image from byte `o`, little-endian. -/
def ImageSlot.get (x : ImageSlot) (o n : Nat) : Nat := (List.range n).foldr (fun i v => x.byte (o + i) + 256 * v) 0
/-- The slot whose image an engine's stores hold: a tile runs the active slot, a strip its own (R458). -/
def Dev.runSlot (d : Dev) (u : Nat) : ImageSlot := d.store.slot (if u < 64 then d.val (Obj.csStripSlot u) else d.val Obj.csActiveSlot)
/-- H: the lines of an engine's micro-store that are horizontal (R451). -/
def Dev.horizontal (d : Dev) (u : Nat) : Nat := (d.runSlot u).get (if u < 64 then 240 else 242) 2
/-- Line `n` of an engine's micro-store. -/
def Dev.microLine (d : Dev) (u n : Nat) : Nat := (d.runSlot u).get ((if u < 64 then 244 else 244 + 18 * (4096 + 768)) + 18 * n) 18
/-- The word that takes no action: its parity bits alone (R452). -/
def idleWord : Nat := (List.range 8).foldl (fun w g => w + 2 ^ (18 * g + 17)) 0
/-- Entry `n` of an engine's nano-store: a strip's entries from 768 are its user area (R451, R462). -/
def Dev.nanoWord (d : Dev) (u n : Nat) : Nat :=
  if u < 64 then
    if n < 768 then (d.runSlot u).get (244 + 18 * (4096 + n)) 18 else (SMap.look d.store.userWords u []).getD (n - 768) idleWord
  else (d.runSlot u).get (244 + 18 * (4096 + 768 + 4096 + n)) 18

/-- Control bits C[135:0] of a 144-bit word (R452). -/
def controlBits (w : Nat) : Nat := (List.range 8).foldl (fun c g => c + bits w (18 * g + 16) (18 * g) * 2 ^ (17 * g)) 0
/-- Whether every group of a word has odd parity (R452). -/
def parityOk (w : Nat) : Bool := (List.range 8).all (fun g => popCount 18 (bits w (18 * g + 17) (18 * g)) % 2 = 1)

/-- A short word (R453): the nano-store entry it executes and the immediate it presents to the entry's fields. -/
structure ShortWord where
  nano : Nat
  immediate : Nat
deriving DecidableEq, Repr
/-- The short word in a slot of a packed line; none while reserved bit 16 is not 0 (R453). -/
def shortWord (line slot : Nat) : Option ShortWord :=
  let g := bits line (18 * slot + 17) (18 * slot)
  if bit g 16 then none else some { nano := bits g 9 0, immediate := bits g 15 10 }

/-- The sequencing fields of a word (Table 20-1). -/
structure SeqFields where
  next : Nat
  cond : Nat
  line : Nat
  slot : Nat
  poll : Bool
deriving DecidableEq, Repr
/-- The sequencing fields of a word's control bits. -/
def seqFields (w : Nat) : SeqFields :=
  let c := controlBits w
  { next := bits c 2 0, cond := bits c 8 3, line := bits c 23 12, slot := bits c 11 9, poll := bit c 24 }

/-- The word an engine executes at a micro-address, from the line and the nano word it reads: a horizontal line's own, or the nano-store entry
that a short word names, with its immediate (R451–R453). None when a parity is wrong (R456) or reserved bit 16 is set (log entry 23). -/
def fetchWord (h address line nano : Nat) : Option (Nat × Option Nat) :=
  if !(parityOk line) then none
  else if address / 8 < h then some (line, none)
  else (shortWord line (address % 8)).bind (fun x => if parityOk nano then some (nano, some x.immediate) else none)
/-- The word at a micro-address of an engine, as its stores hold it. -/
def Dev.microWord (d : Dev) (u address : Nat) : Option (Nat × Option Nat) :=
  let line := d.microLine u (address / 8)
  fetchWord (d.horizontal u) address line (d.nanoWord u (((shortWord line (address % 8)).map ShortWord.nano).getD 0))

/-! ### Sequencing (R454) -/

/-- Where the sequencer stands after a word. -/
inductive MicroStep where
  | at (address : Nat) (stack : List Nat)
  | ended
  | check
deriving DecidableEq, Repr
/-- The step from micro-address `u` (R454): `q` follows it, `t` is the word's target, `v` the dispatch value. A push on eight entries, a pop of
none, and an address past 32,767 are machine checks. -/
def microStep (u q t next : Nat) (cond : Bool) (v : Nat) (stack : List Nat) : MicroStep :=
  let go := fun (a : Nat) (s : List Nat) => if 32767 < a then MicroStep.check else .at a s
  match next with
  | 0 => go q stack
  | 1 => go (if cond then t else q) stack
  | 2 => go (if cond then q else t) stack
  | 3 => if 8 ≤ stack.length then .check else go t (q :: stack)
  | 4 => match stack with
    | [] => .check
    | a :: r => go a r
  | 5 => go (t + 8 * v) stack
  | 6 => go (if cond then q else u) stack
  | _ => .ended
/-- The step of an engine after the word at a micro-address: target slot bits are ignored where the target is a horizontal line. -/
def Dev.engineStep (d : Dev) (e u : Nat) (cond : Bool) (v : Nat) (stack : List Nat) : MicroStep :=
  match d.microWord e u with
  | none => .check
  | some w =>
    let x := seqFields w.1
    let h := d.horizontal e
    let q := if u / 8 < h then u + 8 else u + 1
    microStep u q (8 * x.line + (if x.line < h then 0 else x.slot)) x.next cond v stack


/-! ### User micro-routines (R452, R454, R462, R463) -/

/-- The words of a routine. -/
def userWords (bs : List Byte) : List Nat := (List.range (bs.length / 18)).map (fun i => field bs (18 * i) 18)

/-- A user word's fields (Tables 20-1 and 20-4). -/
structure UserWord where
  next : Nat
  cond : Nat
  target : Nat
  poll : Bool
  op : Nat
  reg : Nat
deriving DecidableEq, Repr

/-- The fields of a user word. -/
def decodeUser (w : Nat) : UserWord :=
  let c := controlBits w
  { next := bits c 2 0, cond := bits c 8 3, target := bits c 16 9, poll := bit c 24, op := bits c 135 132, reg := bits c 131 128 }

/-- Whether a single word of a routine of `n` words passes the group check (R463). -/
def userWordOk (n w : Nat) : Bool :=
  let c := controlBits w
  let x := decodeUser w
  parityOk w && bits c 127 25 = 0 && x.next != 5 && x.next != 6 && x.cond ≤ 3 && x.op ≤ 13 && bits c 23 17 = 0 && x.target < n

/-- Where a word may go on: micro-address and stack, with the call depth of R463 in the stack's length. -/
def userNexts (x : UserWord) (pc : Nat) (stack : List Nat) : List (Nat × List Nat) :=
  match x.next with
  | 0 => [(pc + 1, stack)]
  | 1 => if x.cond = 0 then [(x.target, stack)] else [(pc + 1, stack), (x.target, stack)]
  | 2 => if x.cond = 0 then [(pc + 1, stack)] else [(pc + 1, stack), (x.target, stack)]
  | 3 => [(x.target, (pc + 1) :: stack)]
  | 4 => match stack with
    | [] => []
    | a :: r => [(a, r)]
  | _ => []

/-- Every path from the words to be looked at: none holds more than 64 words between two safe points (R455) or a call chain deeper
than 4; a recursive call makes such a chain. `seen` holds what has been looked at: word, stack, and words since a safe point. -/
def userPaths (ws : List Nat) : Nat → List (Nat × List Nat × Nat) → List (Nat × List Nat × Nat) → Bool
  | 0, todo, _ => todo.isEmpty
  | fuel + 1, todo, seen =>
    match todo with
    | [] => true
    | (pc, stack, since) :: rest =>
      if seen.contains (pc, stack, since) then userPaths ws fuel rest seen
      else match ws[pc]? with
      | none => userPaths ws fuel rest ((pc, stack, since) :: seen)
      | some w =>
        let x := decodeUser w
        let since' := if x.poll || x.next = 7 then 0 else since + 1
        if 64 < since' || 4 < stack.length then false
        else userPaths ws fuel ((userNexts x pc stack).map (fun p => (p.1, p.2, since')) ++ rest) ((pc, stack, since) :: seen)

/-- The group check of a user routine (R463). -/
def userRoutineOk (bs : List Byte) : Bool :=
  bs.length % 18 = 0 && bs.length ≤ 4608 &&
    (let ws := userWords bs
     ws.all (userWordOk ws.length) && userPaths ws (2 ^ 40) [(0, [], 0)] [])

/-- A routine's scratch registers, accumulator and sequencer as it runs. -/
structure UserCtx where
  pc : Nat
  acc : Nat
  carry : Bool
  stack : List Nat
  scratch : List Nat
deriving DecidableEq, Repr

/-- Input *d* of a routine (Table 20-5). -/
def Dev.userInput (d : Dev) (k : Nat) (u : UserRun) (i : Nat) : Nat :=
  if i < 8 then wrap 32 (d.val (Obj.laneSpoiled (8 * k + i)))
  else if i = 8 then u.reason
  else if i = 9 then wrap 32 u.shot
  else if i = 10 then d.val (Obj.stripStageDelay k)
  else 0

/-- The scratch operation of a word (Table 20-4). -/
def UserCtx.scratchOp (c : UserCtx) (x : UserWord) (input : Nat) : UserCtx :=
  let v := c.scratch.getD x.reg 0
  match x.op with
  | 1 => { c with acc := wrap 32 (c.acc + v), carry := 2 ^ 32 ≤ c.acc + v }
  | 2 => { c with acc := wrap 32 (c.acc + 2 ^ 32 - v), carry := c.acc < v }
  | 3 => { c with acc := v }
  | 4 => { c with scratch := c.scratch.set x.reg c.acc }
  | 5 => { c with acc := c.acc &&& v }
  | 6 => { c with acc := c.acc ||| v }
  | 7 => { c with acc := c.acc ^^^ v }
  | 8 => { c with acc := input }
  | 9 => { c with scratch := c.scratch.set x.reg (wrap 32 (v + 1)) }
  | 10 => { c with scratch := c.scratch.set x.reg 0 }
  | 11 => { c with acc := 0 }
  | 12 => { c with acc := c.acc / 2 }
  | 13 => { c with acc := wrap 32 (c.acc * 2) }
  | _ => c

/-- A condition of a user word (R463). -/
def UserCtx.cond (c : UserCtx) (i : Nat) : Bool :=
  if i = 0 then true else if i = 1 then c.acc = 0 else if i = 2 then bit c.acc 31 else c.carry

/-- How a run of a routine comes out. -/
inductive UserEnd where
  | ended (c : UserCtx) | overran (c : UserCtx) | stuck
deriving DecidableEq, Repr

/-- A routine run for at most so many words (R454, R462), from its place in the user area. A word past the routine takes no action (log entry
23); a step that is a machine check leaves the routine stuck, so that it neither ends nor overruns. -/
def userRun (word : Nat → Nat) (input : Nat → Nat) : Nat → UserCtx → UserEnd
  | 0, c => .overran c
  | fuel + 1, c =>
    let x := decodeUser (word c.pc)
    let c := c.scratchOp x (input x.reg)
    match microStep c.pc (c.pc + 1) x.target x.next (c.cond x.cond) 0 c.stack with
    | .at a stack => userRun word input fuel { c with pc := a, stack := stack }
    | .ended => .ended c
    | .check => .stuck

/-- The whole run of the routine of a strip, from user word 0 (R462; log entry 23). -/
def Dev.userResult (d : Dev) (k : Nat) (u : UserRun) : UserEnd :=
  userRun (fun a => d.nanoWord k (768 + a)) (d.userInput k u) 4096
    { pc := 0, acc := 0, carry := false, stack := [], scratch := (List.range 16).map (fun j => d.val (Obj.csUserScratch k j)) }
/-- A routine's scratch registers as software reads them. -/
def Dev.putScratch (d : Dev) (k : Nat) (c : UserCtx) : Dev :=
  (List.range 16).foldl (fun e j => e.put (Obj.csUserScratch k j) (c.scratch.getD j 0)) d

/-- A start of a strip's routine: it runs, is held one deep, or is dropped and counted (R462). Without a routine nothing starts. -/
def Dev.userGo (d : Dev) (k shot reason : Nat) : Dev :=
  if (SMap.look d.store.userWords k []).isEmpty then d
  else if (SMap.find d.store.user k).isSome then
    if (SMap.find d.store.userHeld k).isSome then d.bump (Obj.csUserOverruns k)
    else { d with store := { d.store with userHeld := SMap.set d.store.userHeld k (shot, reason) } }
  else
    { d with store := { d.store with user := SMap.set d.store.user k { shot := shot, reason := reason } } }
/-- A routine leaves; a held start runs next (R462). -/
def Dev.userNext (d : Dev) (k : Nat) : Dev :=
  let d := { d with store := { d.store with user := SMap.del d.store.user k } }
  match SMap.find d.store.userHeld k with
  | some (shot, reason) => ({ d with store := { d.store with userHeld := SMap.del d.store.userHeld k } } : Dev).userGo k shot reason
  | none => d

/-- CsUserState (Table 20-7). -/
def Dev.userState (d : Dev) (k : Nat) : Nat :=
  if (SMap.find d.store.user k).isNone then 0 else if (SMap.find d.store.userHeld k).isNone then 1 else 2

/-- CsUserStart written 1 (R462): shot number and reason read 0. A strip that is not in service refuses (log entry 23). -/
def Dev.writeUserStart (d : Dev) (k : Nat) : Dev × Nat := if d.unitState k != 0 then (d, abortVoid) else (d.userGo k 0 0, 0)
/-- CS_USER_START (R462). -/
def execCsUserStart (t : Nat) (path : Path) (strip : Strip) (s : State) : Host.Outcome State Fault Refusal :=
  devStep t (fun _ d => d.gated path (Obj.csUserStart strip.val) 1 (fun d => d.writeUserStart strip.val)) s

/-- CS_USER_SHOT_START (R462): the end of a shot of CsUserShotLane starts the routine. -/
def execCsUserShotStart (t : Nat) (strip : Strip) (s : State) : Host.Outcome State Fault Refusal :=
  devStep t (fun _ d =>
    let k := strip.val
    match SMap.find d.store.userDue k with
    | none => d
    | some (shot, reason) => ({ d with store := { d.store with userDue := SMap.del d.store.userDue k } } : Dev).userGo k shot reason) s

/-- CS_USER_ROUTINE_END (R462): the running routine reaches its end word; its scratch registers hold what it computed. -/
def execCsUserRoutineEnd (t : Nat) (strip : Strip) (s : State) : Host.Outcome State Fault Refusal :=
  devStep t (fun _ d =>
    let k := strip.val
    match SMap.find d.store.user k with
    | none => d
    | some u =>
      match d.userResult k u with
      | .ended c => ((d.putScratch k c).bump (Obj.csUserRuns k)).userNext k
      | .overran _ => d
      | .stuck => d) s

/-- CS_USER_ABORT (R462): 4,096 words without an end word; the routine is abandoned and counted. -/
def execCsUserAbort (t : Nat) (strip : Strip) (s : State) : Host.Outcome State Fault Refusal :=
  devStep t (fun _ d =>
    let k := strip.val
    match SMap.find d.store.user k with
    | none => d
    | some u =>
      match d.userResult k u with
      | .overran c => ((d.putScratch k c).bump (Obj.csUserAborts k)).userNext k
      | .ended _ => d
      | .stuck => d) s

/-! ### Machine checks and reloads (R456, R457) -/

/-- A machine check in a unit that is in service: its Severe bit, and its reload; within 1 s of its return from an earlier one it is left
powered down. -/
def Dev.machineCheck (d : Dev) (u : Nat) : Dev :=
  if d.unitState u != 0 && d.unitState u != 4 then d
  else
    let again := (SMap.find d.store.checkedAt u).any (fun c => d.now ≤ c + ticksS)
    let d := (d.bump Obj.csMachineChecks).raise (checkBit u) true
    if again then d.enterVoid u 3
    else
      let d := d.enterVoid u (if u < 64 then 2 else 1)
      d.setUnit u { d.unit u with reloading := true, checked := true }
/-- Whether what an engine met is an error: a parity or reserved bit wrong in what it read, a step of R454 that is a machine check, or such a
step of the strip's user routine. -/
def Dev.engineFails (d : Dev) (u : Nat) (e : EngineError) : Bool :=
  match e with
  | .fetch address line nano => (fetchWord (d.horizontal u) address line nano).isNone
  | .sequence address cond dispatch stack => d.engineStep u address cond dispatch stack = .check
  | .user => (SMap.find d.store.user u).any (fun x => d.userResult u x = .stuck)
/-- MACHINE_CHECK (R456, R457): an engine that meets an error does not act on the failing word. -/
def execMachineCheck (t : Nat) (fault : EngineFault) (s : State) : Host.Outcome State Fault Refusal :=
  devStep t (fun _ d =>
    let u := EngineUnit.number fault.unit
    if d.engineFails u fault.error then d.machineCheck u else d) s

/-- The slot an engine's stores are being loaded from: an updated strip's is the next slot (R456, R460). -/
def Dev.loadSlot (d : Dev) (u : Nat) : Nat :=
  if 64 ≤ u then d.val Obj.csActiveSlot else if (d.unit u).checked then d.val (Obj.csStripSlot u) else d.val Obj.csNextSlot
/-- A unit's stores have verified under R458: the fault's condition ends, and an updated strip runs the next slot (R456, R460). -/
def Dev.reloadVerified (d : Dev) (u : Nat) : Dev :=
  let x := d.unit u
  if !x.reloading || !(d.slotOk (d.loadSlot u)) then d
  else
    let d := (d.setUnit u { x with reloading := false }).unraise (checkBit u)
    if u < 64 && !x.checked then d.put (Obj.csStripSlot u) (d.val Obj.csNextSlot) else d
/-- CS_RELOAD_VERIFIED (R456). -/
def execCsReloadVerified (t : Nat) (unit : EngineUnit) (s : State) : Host.Outcome State Fault Refusal :=
  devStep t (fun _ d => d.reloadVerified (EngineUnit.number unit)) s

end Sys2Proof.Machine
end

