-- ==== Sys2Proof/Machine/Memory.lean ====
section
/-! DEFINITION. The DDR5 controllers and their arbiters (chapter 13): start-up, class 1 fetches, service order, counts, refresh and heat. -/

namespace Sys2Proof.Machine

/-! ### Start-up (R304, R305, R308) -/

/-- Whether a MemChanConfig word is one Table 13-1 supports, and trained: one or two ranks of 16 Gb devices across a channel's 64 data bits, 16 GiB
a rank of ×8 devices and 8 GiB of ×16, which only memory-down has. -/
def channelOk (c : Nat) : Bool :=
  let ranks := bits c 9 8
  let down := bit c 10
  let x16 := bit c 11
  bit c 12 && bits c 31 13 = 0 && (ranks = 1 || ranks = 2) && bits c 7 0 = ranks * (if x16 then 8 else 16) && (down || !x16)
/-- Whether all eight channels are fitted alike and trained (R305). -/
def channelsOk (cs : List Nat) : Bool := cs.length = 8 && cs.all (fun c => channelOk c && some c = cs.head?)
/-- MEMORY_TRAINING_COMPLETE (R305): `channels` are the MemChanConfig words of channels 0–7. -/
def execMemoryTrainingComplete (t : Nat) (channels : List Nat) (s : State) : Host.Outcome State Fault Refusal :=
  devStep t (fun _ d =>
    if d.val Obj.memState != 1 then d
    else
      let d := (List.range 8).foldl (fun e h => e.put (Obj.memChanConfig h) (wrap 32 (channels.getD h 0))) d
      if channelsOk channels then (d.put Obj.memCapacity (8 * 512 * bits (channels.head?.getD 0) 7 0)).put Obj.memState 2
      else (d.put Obj.memState 4).raise 116 true) s

/-- MEMORY_CLEAR_COMPLETE (R308): the whole of memory holds zero. -/
def execMemoryClearComplete (t : Nat) (s : State) : Host.Outcome State Fault Refusal :=
  memStep t (fun _ d =>
    if d.val Obj.memState != 2 then (d, [])
    else (d.put Obj.memState 3, [.clear 0 (d.val Obj.memCapacity * 2 ^ 21)])) s

/-! ### Class 1 fetches (R153, R318, R319) -/

/-- A meter filled up to now, in 10^-4 byte: `rate` MB/s fills `rate` of them in a tick. One never used is full. -/
def Meter.filledTo (m : Option Meter) (rate cap now : Nat) : Meter :=
  match m with
  | none => { credit := cap, filled := now }
  | some m => { credit := min cap (m.credit + rate * (now - m.filled)), filled := now }

/-- A class 1 request of a lane, on `n` bytes from byte `o` of a region: within its meter, or demoted and counted (R319); refused and
counted when its address lies outside its partition's regions (R316). -/
def Dev.classOne (d : Dev) (l r o n : Nat) (line : Option Nat) (place deadline : Nat) : Dev :=
  let p := actsFor (d.laneOwner l)
  if !(d.reach p r o n) then d.ddrRefuse 1 r
  else
    let stream := line.isNone
    let meters := if stream then d.memctl.streamMeter else d.memctl.fetchMeter
    let rate := d.val (if stream then Obj.laneStreamRate l else Obj.laneFetchRate l)
    let x := Meter.filledTo (SMap.find meters l) rate (10000 * if stream then 4608 else 2304) d.now
    let short := x.credit < 10000 * n
    let x := if short then x else { x with credit := x.credit - 10000 * n }
    let meters := SMap.set meters l x
    let d := { d with memctl :=
      { d.memctl with streamMeter := if stream then meters else d.memctl.streamMeter, fetchMeter := if stream then d.memctl.fetchMeter else meters } }
    let d := if short then d.bump (Obj.laneClass1Demoted l) else d
    d.ddrQueue
      { id := 0, cls := 1, partition := p, address := d.regionAddr r o, bytes := n, arrived := d.now, deadline := deadline, use := .fetch
        demoted := short, lane := some l, line := line, place := place, owner := regionOwner (d.region r) }

/-- Class 1 requests of a lane that wait, each once. -/
def Dev.fetches (d : Dev) (l : Nat) : List DdrReq :=
  ((((d.memctl.queues.map Prod.snd).flatten).map DdrPart.req).filter (fun r => r.lane = some l)).eraseDups
/-- The meters of a lane filled up to now at the rates in force, as these are about to change (R319). -/
def Dev.settleMeters (d : Dev) (l : Nat) : Dev :=
  let c := d.memctl
  let stream := (SMap.find c.streamMeter l).map (fun x => Meter.filledTo (some x) (d.val (Obj.laneStreamRate l)) 46080000 d.now)
  let fetch := (SMap.find c.fetchMeter l).map (fun x => Meter.filledTo (some x) (d.val (Obj.laneFetchRate l)) 23040000 d.now)
  let on := fun (m : SMap Meter) (x : Option Meter) => match x with
    | some y => SMap.set m l y
    | none => m
  { d with memctl := { c with streamMeter := on c.streamMeter stream, fetchMeter := on c.fetchMeter fetch } }
/-- The entries of the lane's streamed sequence, in play order (R153). -/
def Drill.streams (r : Drill) : List LibEntry := r.streamSeq.map r.entryOf
/-- The entry and granule at a place of the streamed sequence. -/
def seekStream : List LibEntry → Nat → Option (LibEntry × Nat)
  | [], _ => none
  | e :: es, n => if n < e.length then some (e, n) else seekStream es (n - e.length)

/-- The place after the last granule of the streamed sequence that has come or is on its way (R153). -/
def Dev.streamEnd (d : Dev) (l : Nat) : Nat :=
  let r := d.drill l
  let asked := ((d.fetches l).filter (fun q => q.line.isNone)).map (fun q => q.place + q.bytes / 18)
  (asked ++ r.streamEarly.map (fun b => b.1 + b.2)).foldl max r.streamPos
/-- When the granule at a place of the streamed sequence is needed (R318, R153): its stamp less LaneHorizon. Of a granule that no play has come to
yet it is the earliest that stamp can be. -/
def Dev.streamNeed (d : Dev) (l place : Nat) : Nat :=
  let r := d.drill l
  let stamp := match (r.ready.filter (fun j => j.streamed && j.streamAt ≤ place)).getLast? with
    | some j => j.tsOrigin + 64 * (j.start + (place - j.streamAt))
    | none => d.cursorTime l r.cursor + 64 * (place - r.streamCur)
  stamp - d.val (Obj.laneHorizon l)

/-- STREAM_REFILL (R153): the next refill block of the streamed sequence, 64 granules or an entry's rest, is asked for when the stream buffer
has room for it beside what is there, or on its way, and not played yet. -/
def execStreamRefill (t : Nat) (lane : Lane) (s : State) : Host.Outcome State Fault Refusal :=
  devStep t (fun _ d =>
    let l := lane.val
    let r := d.drill l
    let place := d.streamEnd l
    let total := ((r.streams).map LibEntry.length).sum
    if d.val Obj.memState != 3 || d.val (Obj.laneStreamRate l) = 0 || d.val (Obj.stripState (stripOf l)) != 0 || total = 0 then d
    else match seekStream r.streams (place % total) with
      | some (e, i) =>
        let n := min 64 (e.length - i)
        if d.val (Obj.laneStreamBuffer l) + r.streamWant < place + n then d
        else d.classOne l e.region (e.offset + 18 * i) (18 * n) none place (d.streamNeed l place)
      | none => d) s

/-- Lines of a program. -/
def Drill.lineCount (r : Drill) : Nat := ceilDiv r.length 64
/-- The line the fetch engine reads next (R318): the first, from the program counter's on, that is neither held nor asked for, at most 56
lines ahead. -/
def Dev.nextLine (d : Dev) (l : Nat) : Option Nat :=
  let r := d.drill l
  let asked := (d.fetches l).filterMap DdrReq.line
  ((List.range 56).map (fun i => r.pc / 64 + i)).find? (fun n => n < r.lineCount && (SMap.find r.lines n).isNone && !(asked.contains n))

/-- The cursor after the `n` instructions from an address on, taken in address order, as far as their grains are held. -/
def Drill.cursorPast (r : Drill) : Nat → (address cursor : Nat) → Nat
  | 0, _, c => c
  | n + 1, a, c =>
    Drill.cursorPast r n (a + 1) (match (r.grain a).map decodeGrain with
      | some (.play _ _ hold wave _ _ _) => if hold then c else c + (r.entryOf wave).length
      | some (.wait _ _ k) => c + k
      | some (.atC k) => max c k
      | _ => c)
/-- When a program line is needed (R318): the cursor time of its first instruction less LaneHorizon. DESIGN CHOICE: that cursor is the one at which
the drill comes to it in address order (log entry 24). -/
def Dev.lineNeed (d : Dev) (l n : Nat) : Nat :=
  let r := d.drill l
  d.cursorTime l (r.cursorPast (64 * n - r.pc) r.pc r.cursor) - d.val (Obj.laneHorizon l)

/-- PROGRAM_LINE_FETCH (R318): the next line of a program longer than 3,640 grains is asked for. -/
def execProgramLineFetch (t : Nat) (lane : Lane) (s : State) : Host.Outcome State Fault Refusal :=
  devStep t (fun _ d =>
    let l := lane.val
    let r := d.drill l
    if d.val Obj.memState != 3 || r.length ≤ 3640 || d.val (Obj.laneFetchRate l) = 0 || d.val (Obj.stripState (stripOf l)) != 0 then d
    else match d.nextLine l with
      | some n =>
        let block := d.val (Obj.laneProgram l)
        d.classOne l (domRegion block) (domOffset block + 576 * n) 576 (some n) 0 (d.lineNeed l n)
      | none => d) s

/-! ### The arbiter (R314–R316) -/

/-- Bytes a partition's traffic of a class moved in the last 10 µs. -/
def Dev.recentBytes (d : Dev) (cls p : Nat) : Nat :=
  (((SMap.look d.memctl.recent (16 * cls + p) []).filter (fun x => d.now < x.1 + 10 * ticksUs)).map Prod.snd).sum
/-- Whether class 2 traffic is within share, or class 4 traffic within limit (R314): 10 µs at 1 MB/s is 10 bytes. -/
def Dev.within (d : Dev) (cls p : Nat) : Bool :=
  d.recentBytes cls p < 10 * d.val (if cls = 2 then Obj.memPartClass2Share p else Obj.memPartClass4Limit p)
/-- Whether a request is a commit load (Table 13-3). -/
def DdrReq.commitLoad (r : DdrReq) : Bool := match r.use with
  | .load _ => r.cls = 2
  | _ => false
/-- The tier of a waiting request (Table 13-4). -/
def Dev.tier (d : Dev) (r : DdrReq) : Nat :=
  let wait := d.now - r.arrived
  if r.cls = 4 && d.val Obj.memHostMaxWait * ticksUs ≤ wait then 1
  else if r.cls = 1 && !r.demoted then 2
  else if r.cls = 2 && (r.commitLoad || d.within 2 r.partition) then 3
  else if r.cls = 4 && d.within 4 r.partition && 2 * ticksUs ≤ wait then 4
  else if r.cls = 3 || r.cls = 1 then 5
  else if r.cls = 4 && d.within 4 r.partition then 6
  else 7

/-- The request whose data is needed earliest. -/
def earliestNeed : List DdrPart → Option DdrPart
  | [] => none
  | r :: rs => match earliestNeed rs with
    | some m => if m.req.deadline < r.req.deadline then some m else some r
    | none => some r
/-- The oldest request of the partition whose turn it is, after the one served last. -/
def inTurn (last : Nat) (rs : List DdrPart) : Option DdrPart :=
  ((List.range 9).map (fun i => (last + 1 + i) % 9)).findSome? (fun p => rs.find? (fun r => r.req.partition = p))
/-- The request a channel serves now, with its tier (R314). -/
def Dev.serves (d : Dev) (ch : Nat) : Option (Nat × DdrPart) :=
  let q := SMap.look d.memctl.queues ch []
  ((List.range 8).filter (fun n => q.any (fun r => d.tier r.req = n))).head?.bind (fun n =>
    let rs := q.filter (fun r => d.tier r.req = n)
    let loads := rs.filter (fun r => r.req.commitLoad)
    let last := SMap.look d.memctl.turn (8 * ch + n) 8
    (if n = 2 then earliestNeed rs
     else if n = 3 && !loads.isEmpty then inTurn last loads
     else inTurn last rs).map (fun r => (n, r)))

/-- Bound of a request of a class in ticks (Tables 13-5 and 13-6). -/
def DdrReq.bound (r : DdrReq) : Nat :=
  if r.cls = 1 then (if r.line.isSome then 2400 else 3000) else if r.cls = 3 then 100 * ticksUs else 2 * ticksUs

/-- A refill block come: what has come without a gap goes on with it, or it waits for an earlier block. -/
def Drill.refilled (x : Drill) (block : Nat × Nat) : Drill :=
  let blocks := x.streamEarly.filter (fun b => b.1 < block.1) ++ [block] ++ x.streamEarly.filter (fun b => block.1 < b.1)
  let pos := blocks.foldl (fun n b => if b.1 ≤ n then max n (b.1 + b.2) else n) x.streamPos
  { x with streamPos := pos, streamEarly := blocks.filter (fun b => pos < b.1) }
/-- A class 1 read that has completed: the line or block is in its store, or could not be read (R318, R153, R323). -/
def Dev.fetched (d : Dev) (m : Mem) (l : Nat) (r : DdrReq) (ok : Bool) : Dev :=
  let x := d.drill l
  match r.line with
  | some n =>
    if ok then
      let grains := grainsOf (m.bytes r.address r.bytes) 64
      let kept := x.lines.filter (fun p => x.pc / 64 ≤ p.1 && p.1 < x.pc / 64 + 56)
      d.setDrill l { x with lines := SMap.set kept n grains }
    else if d.laneInShot l then d.lateGranule l (d.shotNo l) (d.cursorTime l x.cursor) x.why false
    else d
  | none =>
    let block := (r.place, r.bytes / 18)
    let x := if ok then x else { x with streamBad := x.streamBad ++ [block] }
    d.setDrill l (x.refilled block)

/-- What the error code found in a burst of channel `ch` (R306, R323). -/
def Dev.eccFound (d : Dev) (ch : Nat) : EccOutcome → Dev
  | .clean => d
  | .corrected => d.bump64 (Obj.memEccCorrected ch)
  | .retried => d.bump (Obj.memEccRetries ch)
  | .uncorrectable => (d.bump (Obj.memEccUncorrected ch)).raise 117 false

/-- An uncorrectable error that the outcome of a command's own reads reports: it counts on the channel of their first byte (R323, log entry
24). -/
def Dev.memFail (d : Dev) (a : Nat) : Dev := d.eccFound (channelOf a) .uncorrectable
/-- What the code can find in a part of a request: nothing in a write, and in a read whose outcome its command carries no error it cannot
correct (R323). -/
def DdrUse.meets (u : DdrUse) (ecc : EccOutcome) : EccOutcome := match u with
  | .write => .clean
  | .read => if ecc = .uncorrectable then .clean else ecc
  | _ => ecc
/-- A commit refused: its staging buffer stays, its status and reason say so (Table 2-4); a lane it held goes on, and no bale waits for it. -/
def Dev.refuseCommit (d : Dev) (key code : Nat) : Dev :=
  let d := d.setCommit key
    { d.commitOf key with status := 4, reason := code % 256, boundary := 0, loading := false, carried := none }
  let d := { d with baleWaits := d.baleWaits.filter (fun w => w.commit != key) }
  match commitAt (keyIndex key) (keySub key) with
  | some (.program, l) => (d.setDrill l { d.drill l with held := false }).dropNext l
  | some (.wave, l) => d.setDrill l { d.drill l with held := false }
  | _ => d
/-- A bale job that meets an uncorrectable error before it ends: status 7, and nothing more written (R323, R348). -/
def Dev.poisonJob (d : Dev) (q o : Nat) : Dev :=
  let poison := fun (j : BaleJob) =>
    if j.offset = o && j.started && !j.ended then { j with status := 7, produced := 0, unverified := false, writes := [] } else j
  { d with bale := SMap.set d.bale q ((SMap.look d.bale q []).map poison) }
/-- A bulk job of a port ends in a state of R389. -/
def Dev.endBulk (d : Dev) (p state : Nat) : Dev :=
  (d.put (Obj.ggBulkState p) state).setPort p { d.port p with bulkOut := none, bulkResends := 0 }
/-- A request whose last part has been served: its data reach the store, or what an uncorrectable error does to it (R323). -/
def Dev.completed (d : Dev) (m : Mem) (r : DdrReq) (ok : Bool) : Dev :=
  match r.lane, r.use with
  | some l, _ => d.fetched m l r ok
  | none, .load key => if ok || (d.commitOf key).status != 2 then d else d.refuseCommit key abortCheck
  | none, .bale q o => if ok then d else d.poisonJob q o
  | none, .bulk p => if ok || d.val (Obj.ggBulkState p) != 1 then d else d.endBulk p 5
  | none, _ => d

/-- Whether parts of a request wait on some channel. -/
def Dev.partsLeft (d : Dev) (id : Nat) : Bool := d.memctl.queues.any (fun q => q.2.any (fun p => p.req.id = id))
/-- A part served at a tier leaves its queue; the parts that still wait know what it met. -/
def Dev.partServed (d : Dev) (ch tier : Nat) (p : DdrPart) (late bad : Bool) : Dev :=
  let c := d.memctl
  let r := p.req
  let key := 16 * r.cls + r.partition
  let recent := ((SMap.look c.recent key []).filter (fun x => d.now < x.1 + 10 * ticksUs)) ++ [(d.now, p.bytes)]
  let queues := SMap.set c.queues ch ((SMap.look c.queues ch []).erase p)
  let told := queues.map (fun q => (q.1, q.2.map (fun x => if x.req.id = r.id then { x with late := late, bad := bad } else x)))
  { d with memctl := { c with queues := told, turn := SMap.set c.turn (8 * ch + tier) r.partition, recent := SMap.set c.recent key recent } }
/-- DDR_TRANSACTION (R306, R307, R314–R316, R319, R323): a channel serves what it has of one request; with the last of its parts the request is
counted once, in its own class, and has its effect. A word that patrol scrub finds in error is written back corrected, which leaves what memory
holds as it is. -/
def execDdrTransaction (t : Nat) (channel : Fin 8) (ecc : EccOutcome) (s : State) : Host.Outcome State Fault Refusal :=
  devStep t (fun m d =>
    let ch := channel.val
    match d.serves ch with
    | none => d
    | some (n, p) =>
      let r := p.req
      let found := r.use.meets ecc
      let late := p.late || r.bound < d.now - r.arrived
      let bad := p.bad || found = .uncorrectable
      let d := d.partServed ch n p late bad
      let d := if n = 1 then d.bump64 Obj.memHostForced else d
      let d := d.eccFound ch found
      if d.partsLeft r.id then d
      else
        let d := d.countClass r.cls r.owner (if late || r.demoted then 1 else 0)
        let d := match r.lane with
          | some l => if late then d.bump (Obj.laneClass1Late l) else d
          | none => d
        d.completed m r (!bad)) s

/-! ### Refresh and heat (R322, R324) -/

/-- Whether a part of a request on a channel touches a bank: some 64-byte burst of it lies there (R322). -/
def DdrPart.touches (p : DdrPart) (ch bank : Nat) : Bool :=
  let first := p.req.address / 64
  (List.range ((p.req.address + p.req.bytes - 1) / 64 - first + 1)).any (fun i =>
    channelOf (64 * (first + i)) = ch && Config.bankOf (64 * (first + i)) % 64 = bank % 64)
/-- Whether a class 1 request to a bank of a channel waits. -/
def Dev.bankWanted (d : Dev) (ch bank : Nat) : Bool := (SMap.look d.memctl.queues ch []).any (fun p => p.req.cls = 1 && p.touches ch bank)
/-- DRAM_REFRESH (R322): a refresh of a bank that falls due while a class 1 request to that bank waits is postponed; at the standard's limit the
owed ones are issued whatever waits. -/
def execDramRefresh (t : Nat) (channel : Fin 8) (bank : Nat) (atLimit : Bool) (s : State) : Host.Outcome State Fault Refusal :=
  devStep t (fun _ d =>
    let ch := channel.val
    let key := 64 * ch + bank % 64
    let waits := d.bankWanted ch bank
    let owed := fun (n : Nat) => ({ d with memctl := { d.memctl with owed := SMap.set d.memctl.owed key n } } : Dev)
    if !waits then owed 0
    else if atLimit then (owed 0).bump (Obj.memRefreshForced ch)
    else owed (SMap.look d.memctl.owed key 0 + 1)) s

/-- The 64-byte bursts of a channel that patrol scrub should have read so many ticks after it began: all of them in 24 hours (R306). -/
def Dev.scrubDue (d : Dev) (ticks : Nat) : Nat := d.val Obj.memCapacity * 2 ^ 12 * ticks / (86400 * ticksS)
/-- The owner code of the region that holds an address, 15 where none does. -/
def Dev.ownerAt (d : Dev) (a : Nat) : Nat :=
  (((List.range 1024).map d.region).find? (fun v => regionBase v ≤ a && a < regionBase v + regionBytes v)).elim 15 regionOwner
/-- Patrol scrub goes on (R306): what has fallen due of a channel's bursts, up to the end of a stripe, is asked for as class 3. DESIGN CHOICE: it asks
as often as MR4 is polled, and the whole channel comes round evenly in its 24 hours (log entry 24). -/
def Dev.scrub (d : Dev) (ch : Nat) : Dev :=
  let x := SMap.look d.memctl.scrubs ch (d.now, 0)
  let n := min (d.scrubDue (d.now - x.1) - x.2) (64 - x.2 % 64)
  let i := x.2 % (d.val Obj.memCapacity * 2 ^ 12)
  let a := (8 * (i / 64) + ch) * 4096 + 64 * (i % 64)
  let d := { d with memctl := { d.memctl with scrubs := SMap.set d.memctl.scrubs ch (x.1, x.2 + n) } }
  if n = 0 then d
  else d.ddrQueue
    { id := 0, cls := 3, partition := 0, address := a, bytes := 64 * n, arrived := d.now, deadline := d.now, use := .scrub, demoted := false
      lane := none, line := none, place := 0, owner := d.ownerAt a }

/-- MR4_POLL (R322, R324): `worst` is what the channel's hottest rank reports, as MemDramTemp. -/
def execMr4Poll (t : Nat) (channel : Fin 8) (worst : Fin 3) (s : State) : Host.Outcome State Fault Refusal :=
  devStep t (fun _ d =>
    let ch := channel.val
    let was := SMap.look d.memctl.hot ch false
    let since := SMap.look d.memctl.mr4Time ch d.now
    let d := if was then d.bumpBy (Obj.memHotTime ch) ((d.now - since) / ticksMs) else d
    let hot := SMap.set d.memctl.hot ch (decide (worst.val = 2))
    let d := { d with memctl := { d.memctl with hot := hot, mr4Time := SMap.set d.memctl.mr4Time ch d.now } }
    let d := if d.val Obj.memState = 3 then d.scrub ch else d
    let d := d.put (Obj.memDramTemp ch) worst.val
    if worst.val = 2 && !was then d.raise 118 true
    else if hot.any (fun p => p.2) then d else d.unraise 118) s

end Sys2Proof.Machine
end

