-- ==== Sys2Proof/Machine/Bale.lean ====
section
/-! DEFINITION. Bales (R326–R336) and the bale engine (R338–R349). -/

namespace Sys2Proof.Machine

/-! ### The token stream (R331–R334, Table 14-2) -/

/-- A run length: the code, or 63 with a 16-bit extension that `base` is added to; and what follows it. -/
def runLength (c plus base : Nat) (body : List Byte) : Option (Nat × List Byte) :=
  if c < 63 then some (c + plus, body)
  else if body.length < 2 then none else some (field body 0 2 + base, body.drop 2)
/-- Bytes copied one at a time from `dist` bytes back (R332). -/
def copyBack (dist : Nat) : Nat → List Byte → List Byte
  | 0, out => out
  | n + 1, out => copyBack dist n (out ++ [out.getD (out.length - dist) 0])
/-- The four fields of a grain from the two before it (R333): `d j` is the grain's delta `j`. -/
def deltaFields (prev : Nat × Nat) (d : Nat → Int) : List Nat :=
  let f0 := ofInt 18 (prev.1 + d 0)
  let f1 := ofInt 18 (prev.2 + d 1)
  [f0, f1, ofInt 18 (f0 + d 2), ofInt 18 (f1 + d 3)]
/-- Grains of a sample delta: `data` holds the deltas of `w` bits, `i` is the grain's number in the token. -/
def deltaGrains (w data : Nat) : Nat → Nat → Nat × Nat → List Byte
  | 0, _, _ => []
  | n + 1, i, prev =>
    let f := deltaFields prev (fun j => toInt w (bits data ((4 * i + j) * w + w - 1) ((4 * i + j) * w)))
    leBytes 9 (f.foldr (fun x acc => acc * 2 ^ 18 + x) 0) ++ deltaGrains w data n (i + 1) (f.getD 2 0, f.getD 3 0)
/-- Fields 2 and 3 of the last grain produced, 0 at the start of a bale. -/
def lastFields (out : List Byte) : Nat × Nat :=
  if out.isEmpty then (0, 0) else let g := field out (out.length - 9) 9; (bits g 53 36, bits g 71 54)
/-- One token: the content with what it produces, and the body after it; none when Table 14-3 holds of it. `n` is the Content length. -/
def oneToken (n : Nat) (out : List Byte) (body : List Byte) : Option (List Byte × List Byte) :=
  match body with
  | [] => none
  | tag :: rest =>
    let t := tag.toNat
    let c := bits t 5 0
    match bits t 7 6 with
    | 0 =>
      (runLength c 1 64 rest).bind (fun (len, r) =>
        if r.length < len || n < out.length + len then none else some (out ++ r.take len, r.drop len))
    | 1 =>
      (runLength c 4 67 rest).bind (fun (len, r) =>
        let dist := field r 0 2
        if r.length < 2 || dist = 0 || out.length < dist || n < out.length + len then none
        else some (copyBack dist len out, r.drop 2))
    | 2 =>
      let w := bits t 4 0 + 1
      let count := field rest 0 2 + 1
      let bytes := ceilDiv (4 * count * w) 8
      let data := field rest 2 bytes
      if bit t 5 || 18 < w || rest.length < 2 + bytes || out.length % 9 != 0 || n < out.length + 9 * count || 2 ^ (4 * count * w) ≤ data then none
      else some (out ++ deltaGrains w data count 0 (lastFields out), rest.drop (2 + bytes))
    | _ => none
/-- Tokens until `limit` bytes have been produced, and the body that is left. -/
def runTokens (n limit : Nat) : Nat → List Byte → List Byte → Option (List Byte × List Byte)
  | 0, out, body => if limit ≤ out.length then some (out, body) else none
  | fuel + 1, out, body =>
    if limit ≤ out.length then some (out, body)
    else (oneToken n out body).bind (fun p => runTokens n limit fuel p.1 p.2)
/-- Where tokens end: body bytes read and content bytes produced after each. -/
def tokenEnds (n total : Nat) : Nat → List Byte → List Byte → List (Nat × Nat)
  | 0, _, _ => []
  | fuel + 1, out, body =>
    match oneToken n out body with
    | none => []
    | some (o, r) => (total - r.length, o.length) :: tokenEnds n total fuel o r

/-- Whether a body of tokens holds no sample delta (Table 14-2). -/
def plainTokens (n : Nat) : Nat → List Byte → List Byte → Bool
  | 0, _, _ => true
  | fuel + 1, out, body =>
    match body, oneToken n out body with
    | tag :: _, some (o, r) => bits tag.toNat 7 6 != 2 && plainTokens n fuel o r
    | _, _ => true

/-! ### The bale (R326–R330, Table 14-3) -/

/-- Rounded up to a multiple of 4. -/
def up4 (n : Nat) : Nat := 4 * ceilDiv n 4
/-- Size of a bale with a body of so many bytes. -/
def baleSize (body : Nat) : Nat := up4 (20 + body)
/-- Content length of a bale (Table 14-1). -/
def baleContent (bs : List Byte) : Nat := field bs 4 4
/-- Body length of a bale. -/
def baleBody (bs : List Byte) : Nat := field bs 8 4
/-- Whether the header passes (Table 14-3); `bs` is the whole input block. -/
def baleHeaderOk (bs : List Byte) : Bool :=
  16 ≤ bs.length && field bs 0 2 = 0x5A42 && field bs 2 1 = 1 && field bs 3 1 ≤ 1 && baleContent bs ≤ 65536
    && (field bs 3 1 = 1 || baleBody bs = baleContent bs) && baleSize (baleBody bs) ≤ baleContent bs + 24 && baleSize (baleBody bs) ≤ bs.length
/-- What decoding a bale gives: content, or status 4 or 5 (Table 14-6). -/
inductive BaleResult where
  | content (bs : List Byte)
  | bad (status : Nat)
deriving DecidableEq, Repr
/-- Where a decoder stands in a bale (R345): body bytes behind it up to the token it is in, content bytes that token has given, the content
produced, and the running CRC-32C of it. In a stored body there are no tokens. -/
structure BalePoint where
  body : Nat
  inToken : Nat
  produced : Nat
  crc : Nat
deriving DecidableEq, Repr
/-- The start of a bale. -/
def BalePoint.start : BalePoint := { body := 0, inToken := 0, produced := 0, crc := 0 }
/-- The bale's content from a point on, with the body after it: at least up to `limit` bytes of content, with what was produced before it in
front; none when a condition of Table 14-3 holds on the way. -/
def decodeFrom (bs : List Byte) (p : BalePoint) (before : List Byte) (limit : Nat) : Option (List Byte × List Byte) :=
  let body := (bs.drop 16).take (baleBody bs)
  if field bs 3 1 = 0 then some (before ++ (body.drop p.body).take (limit - before.length), body.drop (p.body + (limit - before.length)))
  else (runTokens (baleContent bs) limit body.length (before.take (p.produced - p.inToken)) (body.drop p.body)).map (fun r =>
    (before ++ r.1.drop p.produced, r.2))
/-- Where a decoder that goes on from a point stands when it has produced `limit` bytes of content, `out` being those it has produced by the end of
the token it is in. -/
def pointAt (bs : List Byte) (p : BalePoint) (before : List Byte) (limit : Nat) : BalePoint :=
  let body := (bs.drop 16).take (baleBody bs)
  let from' := before.take (p.produced - p.inToken)
  let ends := if field bs 3 1 = 0 then [] else tokenEnds (baleContent bs) body.length body.length from' (body.drop p.body)
  let last := ((ends.filter (fun e => e.2 ≤ limit)).getLast?).getD (p.body, from'.length)
  let out := ((decodeFrom bs p before limit).map Prod.fst).getD before
  let fresh := (out.take limit).drop before.length
  { body := if field bs 3 1 = 0 then limit else last.1, inToken := if field bs 3 1 = 0 then 0 else limit - last.2, produced := limit
    crc := (fresh.foldl crcByte (p.crc ^^^ 0xFFFFFFFF)) ^^^ 0xFFFFFFFF }
/-- The rest of a bale decoded from a point and verified against its trailer (R335, R346): the content after that point. -/
def baleFinish (bs : List Byte) (p : BalePoint) (before : List Byte) : BaleResult :=
  let n := baleContent bs
  let body := baleBody bs
  let size := baleSize body
  match decodeFrom bs p before n with
  | some (out, []) =>
    let fresh := out.drop before.length
    if field bs (16 + body) (size - 20 - body) != 0 || out.length != n then .bad 4
    else if field bs (size - 4) 4 != ((fresh.foldl crcByte (p.crc ^^^ 0xFFFFFFFF)) ^^^ 0xFFFFFFFF) then .bad 5
    else .content fresh
  | _ => .bad 4
/-- A whole bale decoded and verified (R335). -/
def baleDecode (bs : List Byte) : BaleResult :=
  if !(baleHeaderOk bs) then .bad 4
  else baleFinish bs BalePoint.start []
/-- A bale of a form around a body (R326). -/
def baleOf (form label : Nat) (content body : List Byte) : List Byte :=
  leBytes 2 0x5A42 ++ leBytes 1 1 ++ leBytes 1 form ++ leBytes 4 content.length ++ leBytes 4 body.length ++ leBytes 4 label ++ body
    ++ zeros (baleSize body.length - 20 - body.length) ++ leBytes 4 (crc32c content)

/-- What a compress job writes, and how much input it covers with which status (R343). A token stream counts only when it decodes to the
input, as every bale the engine writes is valid, and holds sample deltas only where the job allows them (R339). -/
def baleEncode (delta storedOnly : Bool) (effort label cap : Nat) (input : List Byte) : Option (List Byte × Nat × Nat) :=
  let n := input.length
  let body := Config.encodeTokens delta effort input
  let good := !storedOnly && runTokens n n body.length [] body = some (input, []) && (delta || plainTokens n body.length [] body)
  if cap < 24 then none
  else if good && baleSize body.length ≤ baleSize n && baleSize body.length ≤ cap then some (baleOf 1 label input body, n, 1)
  else if baleSize n ≤ cap then some (baleOf 0 label input input, n, 1)
  else
    let part := (if good then (tokenEnds n body.length body.length [] body).filter (fun p => baleSize p.1 ≤ cap) else []).getLast?.getD (0, 0)
    let stored := min n (4 * ((cap - 20) / 4))
    if stored ≤ part.2 then some (baleOf 1 label (input.take part.2) (body.take part.1), part.2, 3)
    else some (baleOf 0 label (input.take stored) (input.take stored), stored, 3)

/-! ### Queues and jobs (R339–R342, R349) -/

/-- Jobs of a queue that its head has not passed, oldest first. -/
def Dev.jobs (d : Dev) (q : Nat) : List BaleJob := SMap.look d.bale q []
/-- The jobs of a queue replaced. -/
def Dev.setJobs (d : Dev) (q : Nat) (x : List BaleJob) : Dev := { d with bale := SMap.set d.bale q x }
/-- Offsets of descriptors from `a` on, `n` of them, in a ring. -/
def ringSteps (len : Nat) : Nat → Nat → List Nat
  | 0, _ => []
  | n + 1, a => a :: ringSteps len n ((a + 64) % len)
/-- A job as it is submitted. -/
def BaleJob.submit (o : Nat) : BaleJob :=
  { offset := o, started := false, ended := false, unit := 0, status := 0, consumed := 0, produced := 0, unverified := false, regions := []
    event := none, writes := [] }
/-- A tail write (R349). -/
def Dev.writeBaleTail (d : Dev) (q v : Nat) : Dev × Nat :=
  let len := domLength (d.val (Obj.baleQueueRing q))
  let head := d.val (Obj.baleQueueHead q)
  let tail := d.val (Obj.baleQueueTail q)
  if v % 64 != 0 || len ≤ v || (v + len - head) % len < (tail + len - head) % len then (d, abortRange)
  else
    let fresh := (ringSteps len ((v + len - tail) % len / 64) tail).map BaleJob.submit
    ((d.put (Obj.baleQueueTail q) v).setJobs q (d.jobs q ++ fresh), 0)
/-- BALE_QUEUE_TAIL_WRITE (R349). -/
def execBaleQueueTailWrite (t : Nat) (path : Path) (queue : Part) (value : Nat) (s : State) : Host.Outcome State Fault Refusal :=
  devStep t (fun _ d => d.gatedValue path (Obj.baleQueueTail queue.val) value (fun d => d.writeBaleTail queue.val value)) s

/-- A job descriptor (Table 14-5). -/
structure Descriptor where
  op : Nat
  delta : Bool
  storedOnly : Bool
  fence : Bool
  event : Bool
  reserved : Bool
  effort : Nat
  channel : Nat
  label : Nat
  input : Nat
  output : Nat
  state : Nat
deriving DecidableEq, Repr
/-- The descriptor at an offset of a queue's ring. -/
def Dev.descriptor (d : Dev) (m : Mem) (q o : Nat) : Descriptor :=
  let b := m.bytes (d.domAddr (d.val (Obj.baleQueueRing q)) + o) 56
  let flags := field b 1 1
  let dom := fun (i : Nat) => field b i 16
  let reserved := bits flags 7 4 != 0 || ((dom 8 ||| dom 24 ||| dom 40) &&& Ty.domain.reserved) != 0
  { op := field b 0 1, delta := bit flags 0, storedOnly := bit flags 1, fence := bit flags 2, event := bit flags 3, reserved := reserved
    effort := field b 2 1, channel := field b 3 1, label := field b 4 4, input := dom 8, output := dom 24, state := dom 40 }
/-- Whether a descriptor is good (status 11 otherwise). -/
def Dev.descriptorOk (d : Dev) (q : Nat) (x : Descriptor) : Bool :=
  1 ≤ x.op && x.op ≤ 4 && !x.reserved && x.effort ≤ 3 && (!x.event || (x.channel < 128 && d.chanOwner x.channel = q))
/-- Whether a block lies in the regions of a queue's partition; an empty one reaches nothing. -/
def Dev.blockOk (d : Dev) (q v : Nat) : Bool := domLength v = 0 || d.reach q (domRegion v) (domOffset v) (domLength v)

/-- How a job goes: its status and counts, the bytes it reads of its input and of its state block, and what it writes: the block, and bytes from
its start. -/
structure JobResult where
  status : Nat
  consumed : Nat
  produced : Nat
  unverified : Bool
  read : Nat
  readState : Nat
  writes : List (Nat × List Byte)
deriving DecidableEq, Repr
/-- A job that ends with a status and moves nothing. -/
def JobResult.plain (status : Nat) : JobResult :=
  { status := status, consumed := 0, produced := 0, unverified := false, read := 0, readState := 0, writes := [] }
/-- A job that has read so much of its bale and ends with a status. -/
def JobResult.after (status read : Nat) : JobResult := { JobResult.plain status with consumed := read, read := read }

/-- A compress job (R340, R343). -/
def Dev.compressJob (d : Dev) (m : Mem) (x : Descriptor) : JobResult :=
  let cap := domLength x.output
  let n := domLength x.input
  if 65536 < n then .plain 9
  else if n = 0 then
    if cap < 20 then .plain 1
    else { JobResult.plain 1 with produced := 20, writes := [(x.output, baleOf (if x.storedOnly then 0 else Config.emptyBaleForm % 2) x.label [] [])] }
  else match baleEncode x.delta x.storedOnly x.effort x.label cap (d.domBytes m x.input) with
    | none => .plain 8
    | some (out, covered, status) => { JobResult.plain status with consumed := covered, produced := out.length, read := n, writes := [(x.output, out)] }

/-- Bale bytes read where the spec does not say how many (log entry 25): a free value, no more than the header of a bale whose header is bad, or
than the bale. -/
def Dev.someRead (d : Dev) (bs : List Byte) : Nat := d.freeNow % (min bs.length (if baleHeaderOk bs then baleSize (baleBody bs) else 16) + 1)
/-- Bytes laid out one after another, the `n`-th before the place that the layout gives among those before it. -/
def layOut (bs : List Byte) : List Byte :=
  ((List.range bs.length).zip bs).foldl (fun out b => out.insertIdx (Config.recordOrder b.1 % (out.length + 1)) b.2) []
/-- The places of the bytes that a layout of `n` gives. -/
def layPlaces (n : Nat) : List Nat := (List.range n).foldl (fun out i => out.insertIdx (Config.recordOrder i % (out.length + 1)) i) []
/-- The bytes that a layout holds, in their own order. -/
def readOut (bs : List Byte) : List Byte :=
  (List.range bs.length).map (fun i => (((layPlaces bs.length).zip bs).find? (fun p => p.1 = i)).elim 0 Prod.snd)
/-- The fields of a state block's record but for its own check (R345): the bale header, the point, and what is left of the token the decoder is
in, a match's length and distance or a sample delta's bits. -/
def recordFields (bs : List Byte) (p : BalePoint) : List Byte :=
  let token := ((bs.drop 16).take (baleBody bs)).drop p.body
  let t := field token 0 1
  let kind := if p.inToken = 0 then 3 else bits t 7 6
  let long := bits t 5 0 = 63
  let length := if long then field token 1 2 + 67 else bits t 5 0 + 4
  let match' := if kind = 1 then leBytes 4 (length - p.inToken) ++ leBytes 2 (field token (if long then 3 else 1) 2) else zeros 6
  let delta := if kind = 2 then leBytes 4 (4 * (p.inToken / 9) * (bits t 4 0 + 1)) else zeros 4
  bs.take 16 ++ leBytes 4 p.body ++ leBytes 4 p.inToken ++ leBytes 4 p.produced ++ leBytes 4 p.crc ++ match' ++ delta ++ zeros 18
/-- The record of a state block (R345), with the CRC-32C over it and the history. -/
def stateRecord (bs : List Byte) (p : BalePoint) (history : List Byte) : List Byte :=
  let fields := recordFields bs p
  layOut (fields ++ leBytes 4 (crc32c (fields ++ history)))
/-- Decoding from a point on into an output block, with a state block for a part (R344–R346). `from_` is what has been produced before it. -/
def Dev.decodeJob (d : Dev) (m : Mem) (x : Descriptor) (p : BalePoint) (before : List Byte) : JobResult :=
  let bs := d.domBytes m x.input
  let n := baleContent bs
  let cap := domLength x.output
  let stop := p.produced + cap
  if !(baleHeaderOk bs) then JobResult.after 4 (d.someRead bs)
  else if n - p.produced ≤ cap then
    match baleFinish bs p before with
    | .bad status => JobResult.after status (d.someRead bs)
    | .content out =>
      { JobResult.after 1 (if p.produced = 0 then baleSize (baleBody bs) else d.someRead bs) with produced := out.length, writes := [(x.output, out)] }
  else if domLength x.state < 65600 then .plain 8
  else match decodeFrom bs p before stop with
    | none => JobResult.after 4 (d.someRead bs)
    | some (out, _) =>
      let history := out.take stop
      { JobResult.after 2 (d.someRead bs) with
        produced := cap, unverified := true
        writes := [(x.output, history.drop p.produced), (x.state, stateRecord bs (pointAt bs p before stop) history ++ history)] }
/-- A decompress job (R340, R344). -/
def Dev.decompressJob (d : Dev) (m : Mem) (x : Descriptor) : JobResult :=
  if domLength x.input = 0 then .plain 1 else d.decodeJob m x BalePoint.start []
/-- The point a state block saves, with the content before it: none when its own check fails, or its header is not the bale's (R345). -/
def Dev.savedPoint (d : Dev) (m : Mem) (x : Descriptor) : Option (BalePoint × List Byte) :=
  if domLength x.state < 65600 then none
  else
    let at' := d.domAddr x.state
    let r := readOut (m.bytes at' 64)
    let p : BalePoint := { body := field r 16 4, inToken := field r 20 4, produced := field r 24 4, crc := field r 28 4 }
    let before := m.bytes (at' + 64) (min p.produced 65536)
    if field r 60 4 = crc32c (r.take 60 ++ before) && r.take 16 = (d.domBytes m x.input).take 16 then some (p, before) else none
/-- A resume job (R345, R346): it reads the whole state block first. -/
def Dev.resumeJob (d : Dev) (m : Mem) (x : Descriptor) : JobResult :=
  if domLength x.input = 0 then .plain 1
  else match d.savedPoint m x with
    | none => { JobResult.plain 10 with readState := min (domLength x.state) 65600 }
    | some (p, before) => { d.decodeJob m x p before with readState := 65600 }
/-- A check-only job (R347). -/
def Dev.checkJob (d : Dev) (m : Mem) (x : Descriptor) : JobResult :=
  if domLength x.input = 0 then .plain 1
  else
    let bs := d.domBytes m x.input
    match baleDecode bs with
    | .content _ => JobResult.after 1 (baleSize (baleBody bs))
    | .bad status => JobResult.after status (d.someRead bs)
/-- What a job does whose reads meet an uncorrectable error (R348): status 7, after a part of what it would have read. -/
def JobResult.poisoned (r : JobResult) (free : Nat) : JobResult :=
  { JobResult.plain 7 with consumed := if r.read = 0 then 0 else min r.consumed (free % (r.read + 1)), read := r.read, readState := r.readState }

/-- Units of a kind that hold a job: decode units 0–3, encode units 4 and 5. -/
def Dev.unitsHeld (d : Dev) : List Nat :=
  ((d.bale.map Prod.snd).flatten.filter (fun j => j.started && !j.ended)).map BaleJob.unit
/-- The lowest free unit of a kind. -/
def Dev.freeUnit (d : Dev) (encode : Bool) : Option Nat :=
  (if encode then [4, 5] else [0, 1, 2, 3]).find? (fun u => !(d.unitsHeld.contains u))
/-- The job of a queue that a unit of a kind would take: the oldest that has not started and whose Fence allows it (R341). -/
def Dev.oldestJob (d : Dev) (m : Mem) (q : Nat) (kind : Nat → Bool) : Option Nat :=
  let js := d.jobs q
  let allowed := fun (j : BaleJob) =>
    !j.started && (!(d.descriptor m q j.offset).fence || (js.takeWhile (fun k => k.offset != j.offset)).all BaleJob.ended)
  (js.filter (fun j => allowed j && kind (d.descriptor m q j.offset).op)).head?.map BaleJob.offset
/-- Whether a unit may take a job now: its queue is the next in turn that has one to take, and it is the one (R341). -/
def Dev.mayStart (d : Dev) (m : Mem) (q o : Nat) (kind : Nat → Bool) : Bool :=
  ((List.range 9).map (fun i => (d.baleTurn + 1 + i) % 9)).find? (fun x => (d.oldestJob m x kind).isSome) = some q && d.oldestJob m q kind = some o

/-- The DDR5 requests of a job (R313): the reads and writes of its blocks, class 3. -/
def Dev.askJob (d : Dev) (q o : Nat) (x : Descriptor) (r : JobResult) : Dev :=
  let read := fun (e : Dev) (v n : Nat) => if n = 0 then e else e.ddrAsk 3 q (domRegion v) (domOffset v) n (.bale q o)
  r.writes.foldl (fun e w => e.ddrAsk 3 q (domRegion w.1) (domOffset w.1) w.2.length .write) (read (read d x.input r.read) x.state r.readState)
/-- A unit takes a job of a queue and runs it: `op` is the operation it serves, `kind` the operations that kind of unit takes; a job with an
operation that does not exist goes to any unit. A decode unit takes none while a bale of a commit load waits (R338). -/
def Dev.takeJob (d : Dev) (m : Mem) (q o op : Nat) (memOk : Bool) (run : Dev → Mem → Descriptor → JobResult) : Dev × List MemOp :=
  let encode := op = 1
  let bad := fun (n : Nat) => n = 0 || 4 < n
  let kind := fun (n : Nat) => bad n || (if encode then n = 1 else n != 1)
  let x := d.descriptor m q o
  match d.freeUnit encode with
  | none => (d, [])
  | some u =>
    if !(x.op = op || bad x.op) || !(d.mayStart m q o kind) || (!encode && !d.baleWaits.isEmpty) then (d, [])
    else
      let blocks := if op = 1 then [x.input, x.output] else if op = 4 then [x.input] else [x.input, x.output, x.state]
      let used := blocks.filter (fun v => domLength v != 0)
      let good := d.descriptorOk q x
      let missed := used.find? (fun v => !(d.blockOk q v))
      let whole := run d m x
      let r := if !good then JobResult.plain 11 else if missed.isSome then .plain 6 else if !memOk then whole.poisoned d.freeNow else whole
      let ring := d.val (Obj.baleQueueRing q)
      let job : BaleJob :=
        { offset := o, started := true, ended := false, unit := u, status := r.status, consumed := r.consumed, produced := r.produced
          unverified := r.unverified, regions := used.map domRegion, event := if x.event then some x.channel else none
          writes := r.writes.map (fun w => (d.domAddr w.1, w.2)) }
      let d := { d.setJobs q ((d.jobs q).map (fun j => if j.offset = o then job else j)) with baleTurn := q }
      let d := d.ddrAsk 3 q (domRegion ring) (domOffset ring + o) 56 .read
      let d := match good, missed with
        | true, some v => d.ddrRefuse 3 (domRegion v)
        | _, _ => d.askJob q o x r
      let d := if good && missed.isNone && !memOk then d.memFail (d.domAddr x.input) else d
      (((d.bump64By Obj.baleBytesIn (r.read + r.readState)).bump64By Obj.baleBytesOut (r.writes.map (fun w => w.2.length)).sum).used, [])

/-- BALE_COMPRESS (R343). -/
def execBaleCompress (t : Nat) (queue : Part) (offset : Nat) (memOk : Bool) (s : State) : Host.Outcome State Fault Refusal :=
  memStep t (fun m d => d.takeJob m queue.val offset 1 memOk Dev.compressJob) s
/-- BALE_DECOMPRESS (R344). -/
def execBaleDecompress (t : Nat) (queue : Part) (offset : Nat) (memOk : Bool) (s : State) : Host.Outcome State Fault Refusal :=
  memStep t (fun m d => d.takeJob m queue.val offset 2 memOk Dev.decompressJob) s
/-- BALE_RESUME_DECOMPRESS (R345, R346). -/
def execBaleResumeDecompress (t : Nat) (queue : Part) (offset : Nat) (memOk : Bool) (s : State) : Host.Outcome State Fault Refusal :=
  memStep t (fun m d => d.takeJob m queue.val offset 3 memOk Dev.resumeJob) s
/-- BALE_CHECK_ONLY (R347). -/
def execBaleCheckOnly (t : Nat) (queue : Part) (offset : Nat) (memOk : Bool) (s : State) : Host.Outcome State Fault Refusal :=
  memStep t (fun m d => d.takeJob m queue.val offset 4 memOk Dev.checkJob) s

/-- The counter a status belongs to (Table 14-6). -/
def Dev.countJob (d : Dev) (q status : Nat) : Dev :=
  if status = 1 || status = 3 then d.bump64 (Obj.baleJobsDone q)
  else if status = 2 then d.bump (Obj.baleJobsSuspended q)
  else if status = 4 || status = 5 then d.bump (Obj.baleJobsBad q)
  else if status = 7 then d.bump (Obj.baleJobsMemError q)
  else d.bump (Obj.baleJobsRefused q)
/-- The status word a job writes (Table 14-5). -/
def BaleJob.word (j : BaleJob) : Nat := j.status + j.consumed * 2 ^ 16 + j.produced * 2 ^ 33 + ofBool j.unverified * 2 ^ 50
/-- BALE_JOB_END (R339, R341, R342, R344, R346): what the job writes is written, then its status. -/
def execBaleJobEnd (t : Nat) (queue : Part) (offset : Nat) (s : State) : Host.Outcome State Fault Refusal :=
  memStep t (fun _ d =>
    let q := queue.val
    match (d.jobs q).find? (fun j => j.offset = offset && j.started && !j.ended) with
    | none => (d, [])
    | some j =>
      let ring := d.val (Obj.baleQueueRing q)
      let js := (d.jobs q).map (fun k => if k.offset = offset then { k with ended := true } else k)
      let left := js.dropWhile BaleJob.ended
      let head := match left with
        | k :: _ => k.offset
        | [] => d.val (Obj.baleQueueTail q)
      let d := ((d.setJobs q left).put (Obj.baleQueueHead q) head).countJob q j.status
      let d := match j.event with
        | some ch => d.fire ch d.now
        | none => d
      let d := d.ddrAsk 3 q (domRegion ring) (domOffset ring + offset + 56) 8 .write
      (d, j.writes.map (fun w => MemOp.put w.1 w.2) ++ [.put (d.domAddr ring + offset + 56) (leBytes 8 j.word)])) s

/-- The bytes at a bale's place: its size, as far as its region goes. -/
def Dev.baleAt (d : Dev) (m : Mem) (region offset : Nat) : List Byte :=
  let head := m.bytes (d.regionAddr region offset) 16
  m.bytes (d.regionAddr region offset) (min (baleSize (baleBody head)) (min 65560 (regionBytes (d.region region) - offset)))

end Sys2Proof.Machine
end

