-- ==== Sys2Proof/Machine/Pcie.lean ====
section
/-! DEFINITION. The PCI Express port (R350–R365, R372): link events, DMA channels, the BAR2 aperture, MSI-X. -/

namespace Sys2Proof.Machine

/-! ### Link events and resets (R351–R353) -/

/-- DMA channels a function owns. -/
def Dev.channelsOf (d : Dev) (f : Nat) : List Nat := (List.range 16).filter (fun c => d.dmaOwner c = f)
/-- Entries of a channel's descriptor ring. -/
def Dev.dmaEntries (d : Dev) (c : Nat) : Nat := d.val (Obj.pcieDmaRingBytes c) / 32
/-- Descriptors submitted and not ended, as entry numbers. -/
def dmaSteps (n : Nat) : Nat → Nat → List Nat
  | 0, _ => []
  | k + 1, a => a :: dmaSteps n k ((a + 1) % n)
/-- Host address of a channel's descriptor. -/
def Dev.descriptorAddr (d : Dev) (c i : Nat) : Nat := d.val (Obj.pcieDmaRingAddr c) + 32 * i
/-- A channel whose function is reset: unfinished descriptors end with status 4, and it stays halted until its tail is written (R352). A status
reaches the host only over a link that is up. -/
def Dev.haltDma (d : Dev) (c : Nat) : Dev :=
  if d.val (Obj.pcieDmaRingBytes c) = 0 then d
  else
    let x := d.dmaCh c
    let n := d.dmaEntries c
    let open' := if d.val (Obj.pcieDmaMode c) = 0 && n != 0 then dmaSteps n ((x.tail + n - x.head) % n) x.head else []
    let d := if d.val Obj.pcieLinkState = 2 then open'.foldl (fun e i => e.emit (.hostWrite (e.dmaOwner c) (e.descriptorAddr c i + 2) (leBytes 1 4))) d else d
    d.setDma c { x with head := x.tail, halted := true, taskEntry := none }
/-- The PCIe state of a function reset (R352): its BAR assignments, its mailbox, whose outstanding request completes unanswered, its DMA channels
and its MSI-X vectors. -/
def Dev.clearFn (d : Dev) (f : Nat) : Dev :=
  let x := d.fn f
  let d := d.setFn f
    { x with mailbox := 0, request := [], response := [], stale := if x.mailbox = 1 then x.stale ++ [x.request] else x.stale
             masked := 2 ^ 64 - 1, pending := 0, bars := [0, 0, 0] }
  (d.channelsOf f).foldl Dev.haltDma d
/-- The PCIe state of one function reset (R352): PF0's configuration space holds SR-IOV, so that every virtual function goes with it. -/
def Dev.resetFn (d : Dev) (f : Nat) : Dev :=
  if f = 0 then ((List.range (d.val Obj.pcieNumVfs + 1)).foldl Dev.clearFn d).put Obj.pcieNumVfs 0 else d.clearFn f
/-- The PCIe state of every function reset. -/
def Dev.resetPcie (d : Dev) : Dev := ((List.range 9).foldl Dev.clearFn d).put Obj.pcieNumVfs 0

/-- PCIE_LINK_UP (R350, R351): the link trains at a rate (1–5) and width. A link that was up has retrained, which resets the PCIe state of its
functions (R352). DEDUCED: every function is affected (log entry 26). -/
def execPcieLinkUp (t : Nat) (rate width : Nat) (s : State) : Host.Outcome State Fault Refusal :=
  devStep t (fun _ d =>
    if !(1 ≤ rate && rate ≤ 5 && (width = 1 || width = 2 || width = 4 || width = 8)) then d
    else
      let degraded := rate < 5 || width < 8
      let recovered := bit d.faults.active 129
      let d := if d.val Obj.pcieLinkState = 2 then d.resetPcie else d
      let d := ((d.put Obj.pcieLinkState 2).put Obj.pcieLinkRate rate).put Obj.pcieLinkWidth width
      let d := ((d.put Obj.pcieDegraded (ofBool degraded)).unraise 129).unraise 128
      let d := if degraded then d.raise 128 true else d
      if degraded || recovered then d.msix 0 19 else d) s

/-- The link goes down (R352, R353). -/
def Dev.linkDown (d : Dev) : Dev :=
  if d.val Obj.pcieLinkState = 0 then d
  else
    let d := ((d.put Obj.pcieLinkState 0).put Obj.pcieLinkRate 0).put Obj.pcieLinkWidth 0
    let d := ((d.resetPcie).bump Obj.pcieLinkDownCount).raise 129 true
    if d.val Obj.pcieLinkDownAction = 1 then d.rfOff .stopped else d
/-- PCIE_LINK_DOWN (R353). -/
def execPcieLinkDown (t : Nat) (s : State) : Host.Outcome State Fault Refusal := devStep t (fun _ d => d.linkDown) s
/-- PCIE_HOT_RESET (R352). -/
def execPcieHotReset (t : Nat) (s : State) : Host.Outcome State Fault Refusal :=
  devStep t (fun _ d => if d.val Obj.pcieLinkState = 2 then d.resetPcie else d) s
/-- FUNCTION_LEVEL_RESET (R352). -/
def execFunctionLevelReset (t : Nat) (fn : Fn) (s : State) : Host.Outcome State Fault Refusal :=
  devStep t (fun _ d => if d.val Obj.pcieLinkState = 2 && fn.val ≤ d.val Obj.pcieNumVfs then d.resetFn fn.val else d) s
/-- PE_PERST_ASSERT (R483): as a link-down. -/
def execPePerstAssert (t : Nat) (s : State) : Host.Outcome State Fault Refusal := devStep t (fun _ d => d.linkDown) s

/-- Size of BAR0, BAR2 and BAR4 (Tables 15-2 to 15-4). -/
def barSize (bar : Fin 3) : Nat := if bar = 1 then 2 ^ 28 else 2 ^ 16
/-- Vendor ID, Device ID and class code of a function (Table 15-1). -/
def pcieIdentity (f : Nat) : Nat × Nat × Nat := (0x1FA7, if f = 0 then 0x5120 else 0x5121, 0x120000)
/-- SRIOV_VF_ENABLE (R354, Table 15-1): an access to the configuration space. Virtual functions past a new number lose their paths and their PCIe
state; an address assigned to a BAR is a multiple of its size. -/
def execSriovVfEnable (t : Nat) (access : ConfigAccess) (s : State) : Host.Outcome State Fault Refusal :=
  devStep t (fun _ d =>
    let there := fun (f : Fn) => d.val Obj.pcieLinkState = 2 && f.val ≤ d.val Obj.pcieNumVfs
    match access with
    | .setVfs n =>
      if d.val Obj.pcieLinkState != 2 || 8 < n then d
      else (((List.range 9).filter (fun f => n < f && f ≤ d.val Obj.pcieNumVfs)).foldl Dev.clearFn d).put Obj.pcieNumVfs n
    | .setBar fn bar a =>
      if !(there fn) then d
      else d.setFn fn.val { d.fn fn.val with bars := (d.fn fn.val).bars.set bar.val (a - a % barSize bar) }
    | .read fn =>
      let id := pcieIdentity fn.val
      if there fn then d.emit (.config fn.val id.1 id.2.1 id.2.2 (d.fn fn.val).bars) else d) s

/-- MSIX_VECTOR_UNMASK (R364, Table 15-2): a write to an entry of the MSI-X table: its address, its data or its mask bit. A pending message is
sent as its vector is unmasked. -/
def execMsixVectorUnmask (t : Nat) (fn : Fn) (write : MsixWrite) (s : State) : Host.Outcome State Fault Refusal :=
  devStep t (fun _ d =>
    let f := fn.val
    let x := d.fn f
    let v := write.vector.val
    let n := wrap 32 write.value
    let e := SMap.look x.messages v (0, 0)
    let entry := fun (e : Nat × Nat) => d.setFn f { x with messages := SMap.set x.messages v e }
    if d.val Obj.pcieLinkState != 2 || d.val Obj.pcieNumVfs < f || write.bytes != 4 then d
    else match write.offset with
      | 0 => entry (e.1 / 2 ^ 32 * 2 ^ 32 + n, e.2)
      | 4 => entry (n * 2 ^ 32 + wrap 32 e.1, e.2)
      | 8 => entry (e.1, n)
      | 12 =>
        if bit n 0 then d.setFn f { x with masked := putBit x.masked v true }
        else
          let d := d.setFn f { x with masked := putBit x.masked v false, pending := putBit x.pending v false }
          if bit x.pending v then d.emit (.msix f v) else d
      | _ => d) s

/-! ### What a function reaches (R354, R355, R475) -/

/-- Whether a function exists, on a link that is up, and the device serves what it asks. -/
def Dev.hostThere (d : Dev) (f : Nat) : Bool :=
  d.val Obj.pcieLinkState = 2 && f ≤ d.val Obj.pcieNumVfs && (d.val Obj.devState != 0 || (f = 0 && d.imageOpen))
/-- Whether its DMA and BAR2 accesses are served: the accesses of a disabled partition's function are refused (R354). -/
def Dev.hostOpen (d : Dev) (f : Nat) : Bool := d.hostThere f && (f = 0 || bit (d.val Obj.devPartitionsEnabled) f)

/-! ### DMA channels (R360–R363) -/

/-- PcieDmaState (Table 15-10). -/
def Dev.dmaState (d : Dev) (c : Nat) : Nat :=
  let x := d.dmaCh c
  if x.halted then 2
  else if d.val (Obj.pcieDmaRingBytes c) = 0 then 0
  else if d.val (Obj.pcieDmaMode c) = 0 then ofBool (x.tail != x.head)
  else ofBool (x.followed != d.val (ringKeys (d.val (Obj.pcieDmaFollow c))).2.1)

/-- A tail written in BAR0 by the channel's function (R360): one outside the ring is dropped. -/
def Dev.writeDmaTail (d : Dev) (c v : Nat) : Dev :=
  let x := d.dmaCh c
  if d.val (Obj.pcieDmaMode c) = 0 && d.dmaEntries c ≤ v then d
  else d.setDma c { x with tail := if d.val (Obj.pcieDmaMode c) = 0 then v else x.tail, halted := false }
/-- DMA_TAIL_WRITE (R360). -/
def execDmaTailWrite (t : Nat) (fn : Fn) (channel : Fin 16) (value : Nat) (s : State) : Host.Outcome State Fault Refusal :=
  devStep t (fun _ d => if d.hostOpen fn.val && d.dmaOwner channel.val = fn.val then d.writeDmaTail channel.val value else d) s

/-- A descriptor ends (R360): its status goes back, the head advances, and the vector is signalled when asked for. -/
def Dev.endDescriptor (d : Dev) (c flags status done : Nat) : Dev :=
  let x := d.dmaCh c
  let a := d.descriptorAddr c x.head
  let d := (d.emit (.hostWrite (d.dmaOwner c) (a + 2) (leBytes 1 status))).emit (.hostWrite (d.dmaOwner c) (a + 4) (leBytes 4 done))
  let d := d.setDma c { x with head := (x.head + 1) % d.dmaEntries c, taskEntry := if x.taskEntry = some x.head then none else x.taskEntry }
  if bit flags 0 then d.msix (d.dmaOwner c) (1 + c) else d

/-- Whether a channel has a descriptor to execute in copy mode. -/
def Dev.dmaReady (d : Dev) (c : Nat) : Bool :=
  let x := d.dmaCh c
  d.val (Obj.pcieDmaMode c) = 0 && d.dmaEntries c != 0 && !x.halted && x.head != x.tail && d.hostThere (d.dmaOwner c)
/-- Whether a copy descriptor is well formed (Table 15-5). -/
def copyOk (b : List Byte) : Bool :=
  (field b 0 1 = 1 || field b 0 1 = 2) && bits (field b 1 1) 7 2 = 0 && field b 3 1 = 0 && (field b 16 16 &&& Ty.domain.reserved) = 0
/-- A copy descriptor up to its access: it ends at once when bad (5), empty (1) or refused (2). -/
def Dev.copyStatus (d : Dev) (c : Nat) (b : List Byte) : Nat :=
  let v := field b 16 16
  if !(copyOk b) then 5
  else if domLength v = 0 then 1
  else if !(d.hostOpen (d.dmaOwner c)) || !(d.hostReach (d.dmaOwner c) (domRegion v) (domOffset v) (domLength v) (field b 0 1 = 2)) then 2
  else 0

/-- DMA_COPY_TO_HOST (R360, R361, R363). Bytes moved before a failing access are a free value (log entry 26). -/
def execDmaCopyToHost (t : Nat) (channel : Fin 16) (descriptor : List Byte) (hostOk memOk : Bool) (s : State) :
    Host.Outcome State Fault Refusal :=
  devStep t (fun m d =>
    let c := channel.val
    if !(d.dmaReady c) || field descriptor 0 1 = 2 then d
    else
      let flags := field descriptor 1 1
      let v := field descriptor 16 16
      match d.copyStatus c descriptor with
      | 0 =>
        let d := d.ddrAsk 4 (d.dmaOwner c) (domRegion v) (domOffset v) (domLength v) .read
        let d := if memOk then d else d.memFail (d.domAddr v)
        let status := if !memOk then 3 else if !hostOk then 6 else 1
        let done := if status = 1 then domLength v else d.freeNow % domLength v
        let d := d.used.emit (.hostWrite (d.dmaOwner c) (field descriptor 8 8) (m.bytes (d.domAddr v) done))
        d.endDescriptor c flags status done
      | 2 => (d.ddrRefuse 4 (domRegion v)).endDescriptor c flags 2 0
      | n => d.endDescriptor c flags n 0) s

/-- DMA_COPY_FROM_HOST (R360, R361, R363): `data` is what the host's completions carried. -/
def execDmaCopyFromHost (t : Nat) (channel : Fin 16) (descriptor : List Byte) (data : List Byte) (hostOk : Bool) (s : State) :
    Host.Outcome State Fault Refusal :=
  memStep t (fun _ d =>
    let c := channel.val
    if !(d.dmaReady c) || field descriptor 0 1 = 1 then (d, [])
    else
      let flags := field descriptor 1 1
      let v := field descriptor 16 16
      match d.copyStatus c descriptor with
      | 0 =>
        if hostOk && data.length != domLength v then (d, [])
        else
          let moved := data.take (domLength v)
          let d := d.ddrAsk 4 (d.dmaOwner c) (domRegion v) (domOffset v) moved.length .write
          (d.endDescriptor c flags (if hostOk then 1 else 6) moved.length, [.put (d.domAddr v) moved])
      | 2 => ((d.ddrRefuse 4 (domRegion v)).endDescriptor c flags 2 0, [])
      | n => (d.endDescriptor c flags n 0, [])) s

/-- Records of ring `k` from offset `a` up to the write offset `w` as blocks (offset, length); a wrap marker is a block of its own (R281, R362). -/
def ringBlocks (m : Mem) (base len k w : Nat) : Nat → Nat → List (Nat × Nat)
  | 0, _ => []
  | fuel + 1, a =>
    if a = w then []
    else
      let head := m.bytes (base + a) 8
      let fixed := 64 ≤ k && k < 96
      let size := if fixed then 16 else field head 4 4
      if w < a && (len < a + size || (!fixed && field head 0 2 = 0)) then (a, min 2 (len - a)) :: ringBlocks m base len k w fuel 0
      else if size = 0 then []
      else (a, size) :: ringBlocks m base len k w fuel (if a + size = len then 0 else a + size)

/-- DMA_FOLLOW_COPY (R362, R363). -/
def execDmaFollowCopy (t : Nat) (channel : Fin 16) (s : State) : Host.Outcome State Fault Refusal :=
  devStep t (fun m d =>
    let c := channel.val
    let x := d.dmaCh c
    let k := d.val (Obj.pcieDmaFollow c)
    let f := d.dmaOwner c
    let ring := d.ringBlock k
    let w := d.val (ringKeys k).2.1
    if d.val (Obj.pcieDmaMode c) != 1 || 104 ≤ k || x.halted || !(d.hostThere f) || d.val (Obj.pcieDmaRingBytes c) = 0 || x.followed = w then d
    else if !(d.hostOpen f) || !(d.hostReach f (domRegion ring) (domOffset ring) (domLength ring) false) then d.ddrRefuse 4 (domRegion ring)
    else
      let base := d.domAddr ring
      let blocks := ringBlocks m base (domLength ring) k w (domLength ring) x.followed
      let host := d.val (Obj.pcieDmaRingAddr c)
      let d := blocks.foldl (fun e b => e.emit (.hostWrite f (host + b.1) (m.bytes (base + b.1) b.2))) d
      let d := d.ddrAsk 4 f (domRegion ring) (domOffset ring + x.followed) ((blocks.map Prod.snd).sum) .read
      let d := (d.setDma c { d.dmaCh c with followed := w }).emit (.hostWrite f (d.val (Obj.pcieDmaWriteBack c)) (leBytes 4 w))
      d.msix f (1 + c)) s

/-- PcieDmaOwner written (R372): only while the channel is idle; a change returns its group to defaults. -/
def Dev.writeDmaOwner (d : Dev) (c v : Nat) : Dev × Nat :=
  if d.dmaState c != 0 then (d, abortBusy)
  else if d.dmaOwner c = v then (d, 0)
  else
    let keys := groupFields .dmaChannel c
    let d := keys.foldl (fun e k => ({ e with staged := SMap.del e.staged k } : Dev).unset k) d
    let d := { d with commits := SMap.del d.commits (Obj.pcieDmaCommit c) }
    ((d.setDma c DmaCh.init).put (Obj.pcieDmaOwner c) v, 0)
/-- PCIE_DMA_OWNER_WRITE (R372). -/
def execPcieDmaOwnerWrite (t : Nat) (path : Path) (channel : Fin 16) (value : Nat) (s : State) : Host.Outcome State Fault Refusal :=
  devStep t (fun _ d => d.gatedValue path (Obj.pcieDmaOwner channel.val) value (fun d => d.writeDmaOwner channel.val value)) s

/-! ### The BAR2 aperture (R358) -/

/-- Region and first byte of a BAR2 access. -/
def Dev.aperture (d : Dev) (f offset : Nat) : Nat × Nat :=
  let v := d.val (Obj.pcieAperture f)
  (bits v 9 0, bits v 47 16 * 2 ^ 20 + offset)
/-- A BAR2 access refused (R358). -/
def Dev.refuseAperture (d : Dev) (r : Nat) : Dev := (d.bump Obj.pcieApertureRefused).ddrRefuse 4 r

/-- BAR2_READ (R358). -/
def execBar2Read (t : Nat) (fn : Fn) (offset length : Nat) (memOk : Bool) (s : State) : Host.Outcome State Fault Refusal :=
  devStep t (fun m d =>
    let f := fn.val
    let a := d.aperture f offset
    if d.val Obj.pcieLinkState != 2 || d.val Obj.pcieNumVfs < f || 2 ^ 28 < offset + length then d
    else if d.hostOpen f && d.hostReach f a.1 a.2 length false then
      let d := d.ddrAsk 4 f a.1 a.2 length .read
      (if memOk then d else d.memFail (d.regionAddr a.1 a.2)).emit (.bar2 f (some (m.bytes (d.regionAddr a.1 a.2) length)) (!memOk))
    else (d.refuseAperture a.1).emit (.bar2 f none false)) s

/-- BAR2_WRITE (R358). -/
def execBar2Write (t : Nat) (fn : Fn) (offset : Nat) (data : List Byte) (s : State) : Host.Outcome State Fault Refusal :=
  memStep t (fun _ d =>
    let f := fn.val
    let a := d.aperture f offset
    if d.val Obj.pcieLinkState != 2 || d.val Obj.pcieNumVfs < f || 2 ^ 28 < offset + data.length then (d, [])
    else if d.hostOpen f && d.hostReach f a.1 a.2 data.length true then
      (d.ddrAsk 4 f a.1 a.2 data.length .write, [.put (d.regionAddr a.1 a.2) data])
    else (d.refuseAperture a.1, [])) s

end Sys2Proof.Machine
end

