-- ==== Sys2Proof/Machine/Can.lean ====
section
/-! DEFINITION. The CAN FD port (R366–R371): network management, heartbeat, emergency messages, bus-off. -/

namespace Sys2Proof.Machine

/-- NMT states as CanNmtState reports them (Table 15-10). -/
def nmtStopped : Nat := 4
/-- Operational. -/
def nmtOperational : Nat := 5
/-- Pre-operational. -/
def nmtPreOperational : Nat := 127

/-- Whether the port takes part in bus traffic: past its initialisation and not bus-off. -/
def Dev.canOn (d : Dev) : Bool := d.val Obj.canNmtState != 0 && d.val Obj.canBusState != 2
/-- Whether an NMT command addresses this node: 0 addresses every node. -/
def Dev.nmtMine (d : Dev) (node : Nat) : Bool := d.canOn && (node = 0 || node = d.can.nodeId)
/-- A state change commanded by NMT (R368). -/
def Dev.nmtGo (d : Dev) (node state : Nat) : Dev := if d.nmtMine node && bit (d.val Obj.devCanWriteMask) 1 then d.put Obj.canNmtState state else d
/-- The port starts anew (R367, R372): node and rates are taken, the boot-up message goes out, and it is pre-operational. -/
def Dev.canReset (d : Dev) : Dev :=
  let can := { d.can with
    transfer := none, lastBeat := none, nodeId := d.val Obj.canNodeId, arbRate := d.val Obj.canArbRate, dataRate := d.val Obj.canDataRate }
  let d := { d with can := can, outstanding := SMap.del d.outstanding (Path.number .can) }
  (d.emit (.can (0x700 + can.nodeId) [0])).put Obj.canNmtState nmtPreOperational

/-- NMT_START (R368). -/
def execNmtStart (t : Nat) (node : Nat) (s : State) : Host.Outcome State Fault Refusal :=
  devStep t (fun _ d => d.nmtGo node nmtOperational) s
/-- NMT_STOP (R368). -/
def execNmtStop (t : Nat) (node : Nat) (s : State) : Host.Outcome State Fault Refusal :=
  devStep t (fun _ d => d.nmtGo node nmtStopped) s
/-- NMT_ENTER_PRE_OPERATIONAL (R368). -/
def execNmtEnterPreOperational (t : Nat) (node : Nat) (s : State) : Host.Outcome State Fault Refusal :=
  devStep t (fun _ d => d.nmtGo node nmtPreOperational) s
/-- NMT_RESET_NODE (R368): acts as reset communication and never resets the device. DESIGN CHOICE: both resets act whatever bit 1 of
DevCanWriteMask says, which R55 sets over the NMT state (log entry 52). -/
def execNmtResetNode (t : Nat) (node : Nat) (s : State) : Host.Outcome State Fault Refusal :=
  devStep t (fun _ d => if d.nmtMine node then d.canReset else d) s
/-- NMT_RESET_COMMUNICATION (R367, R368). DESIGN CHOICE: it acts whatever bit 1 of DevCanWriteMask says (log entry 52). -/
def execNmtResetCommunication (t : Nat) (node : Nat) (s : State) : Host.Outcome State Fault Refusal :=
  devStep t (fun _ d => if d.nmtMine node then d.canReset else d) s

/-- CLASSICAL_CAN_FRAME (R366): received and discarded. -/
def execClassicalCanFrame (t : Nat) (_cobId : Nat) (_data : List Byte) (s : State) : Host.Outcome State Fault Refusal :=
  devStep t (fun _ d => d) s

/-- HEARTBEAT (R368, R369): every HeartbeatTime, in every state but stopped; a time of 0 sends none. -/
def execHeartbeat (t : Nat) (s : State) : Host.Outcome State Fault Refusal :=
  devStep t (fun _ d =>
    let period := d.val Obj.heartbeatTime * ticksMs
    let state := d.val Obj.canNmtState
    if !d.canOn || period = 0 || state = nmtStopped || d.can.lastBeat.any (fun b => d.now < b + period) then d
    else ({ d with can := { d.can with lastBeat := some d.now } } : Dev).emit (.can (0x700 + d.can.nodeId) (leBytes 1 state))) s

/-- EMCY_SEND (R369, R370): the oldest message, at most one per 10 ms. -/
def execEmcySend (t : Nat) (s : State) : Host.Outcome State Fault Refusal :=
  devStep t (fun _ d =>
    match d.can.emcy with
    | [] => d
    | (code, register, source, time) :: rest =>
      if !d.canOn || d.val Obj.canNmtState = nmtStopped || d.can.lastEmcy.any (fun b => d.now < b + 10 * ticksMs) then d
      else ({ d with can := { d.can with emcy := rest, lastEmcy := some d.now } } : Dev).emit (.emcy (0x080 + d.can.nodeId) code register source time)) s

/-- CAN_BUS_OFF (R371). -/
def execCanBusOff (t : Nat) (s : State) : Host.Outcome State Fault Refusal :=
  devStep t (fun _ d => if d.val Obj.canBusState = 2 then d else (d.put Obj.canBusState 2).bump Obj.canBusOffCount) s
/-- CAN_BUS_OFF_RECOVERY (R371). -/
def execCanBusOffRecovery (t : Nat) (s : State) : Host.Outcome State Fault Refusal :=
  devStep t (fun _ d => if d.val Obj.canBusState = 2 then d.put Obj.canBusState 0 else d) s

end Sys2Proof.Machine
end

