-- ==== Sys2Proof/Machine/Gargor.lean ====
section
/-! DEFINITION. Gargor ports (chapter 16): blocks, credit, frames received, remote requests, bulk jobs, bring-up, retraining and rest. -/

namespace Sys2Proof.Machine

/-! ### The active state (R381, R393) -/

/-- Stripes sent on a port (log entry 4). -/
def Dev.stripes (d : Dev) (p ty n : Nat) : Dev := d.emit (.stripes p ty n)
/-- A port in another state of Table 16-10. -/
def Dev.setPortState (d : Dev) (p state : Nat) : Dev :=
  let d := if d.val (Obj.ggPortState p) = 8 then d.unraise (130 + p) else d
  (d.put (Obj.ggPortState p) state).setPort p { d.port p with stateSince := d.now }
/-- GgStateEvent fires on entering and on leaving the active state (R393). -/
def Dev.portEvent (d : Dev) (p : Nat) : Dev := d.fire (d.val (Obj.ggStateEvent p)) d.now
/-- A port becomes active at a rate: credits are granted, waiting frames go out. -/
def Dev.enterActive (d : Dev) (p rate : Nat) : Dev :=
  let d := (d.setPortState p 4).put (Obj.ggRate p) rate
  let d := d.setPort p
    { d.port p with tx := [], skipUntil := 0, skipBy := 0, training := rate, credit4 := 1, credit5 := 8, lastSent := d.now, lastHeard := d.now, refreshes := 0, partnerIdle := false }
  (d.portEvent p).drainPort p
/-- An epoch exchange that ran over a port that is no longer trained is given up, and starts anew once it is (R66). -/
def Dev.dropExchange (d : Dev) (p : Nat) : Dev :=
  if d.clock.epoch.port = p then { d with clock := { d.clock with epoch := { d.clock.epoch with running := false, samples := [] } } } else d
/-- A port leaves the active state: frames in progress break off, waiting frames of classes 1–3 are lost, credits lapse (R381, R393). Nothing
for a port not active. -/
def Dev.leaveActive (d : Dev) (p : Nat) : Dev :=
  if !(d.portActive p) then d
  else
    let x := d.port p
    let lost := (x.waiting.filter (fun w => w.1 ≤ 3)).length
    let d := (x.tx.filter (fun f => 10 * d.now < f.until')).foldl (fun e f => e.emit (.broken p f.cls)) d
    let d := d.setPort p { x with tx := [], skipUntil := 0, skipBy := 0, waiting := x.waiting.filter (fun w => 3 < w.1), credit4 := 0, credit5 := 0, build := none, verdictUntil := 0 }
    (((d.dropExchange p).bumpBy (Obj.ggFramesLost p) lost).put (Obj.ggRate p) 0).portEvent p

/-! ### Taps (R392) -/

/-- Preset taps of a rate code: pre, main, post. -/
def presetTaps (rate : Nat) : Nat × Nat × Nat :=
  if rate = 4 then (4, 48, 12) else if rate = 3 then (2, 54, 8) else if rate = 2 then (0, 60, 4) else (0, 64, 0)
/-- Whether taps keep the limits. -/
def tapsOk (t : Nat × Nat × Nat) : Bool := t.1 ≤ 12 && 32 ≤ t.2.1 && t.2.1 ≤ 64 && t.2.2 ≤ 24 && t.1 + t.2.1 + t.2.2 ≤ 64
/-- The 16-bit layout of one lane's taps. -/
def packTaps (t : Nat × Nat × Nat) : Nat := t.1 + t.2.2 * 2 ^ 4 + t.2.1 * 2 ^ 9
/-- Taps of a 16-bit field. -/
def unpackTaps (v : Nat) : Nat × Nat × Nat := (bits v 3 0, bits v 15 9, bits v 8 4)
/-- Fixed taps of a lane, 0 when it adapts. -/
def Dev.fixedTaps (d : Dev) (p lane : Nat) : Nat := bits (d.val (Obj.ggTxTapsFixed p)) (16 * lane + 15) (16 * lane)
/-- Taps of a lane at a rate. -/
def Dev.tapsAt (d : Dev) (p rate lane : Nat) : Nat × Nat × Nat :=
  if d.fixedTaps p lane != 0 then unpackTaps (d.fixedTaps p lane)
  else (SMap.find (d.port p).taps (4 * rate + lane)).getD (presetTaps rate)
/-- GgTxTaps shows the taps in use. -/
def Dev.showTaps (d : Dev) (p rate : Nat) : Dev :=
  d.put (Obj.ggTxTaps p) ((List.range 4).foldl (fun a lane => a + packTaps (d.tapsAt p rate lane) * 2 ^ (16 * lane)) 0)

/-- The state a port starts in at a rate of training: its earlier taps there, or the presets (Table 16-11). -/
def Dev.trainAt (d : Dev) (p rate : Nat) : Dev :=
  let d := d.setPortState p 3
  (d.setPort p { d.port p with training := rate, partnerReady := false, tapReqs := [], tapStatus := [] }).showTaps p rate
/-- A port starts at detect, at rate 1 on preset taps. -/
def Dev.detect (d : Dev) (p : Nat) : Dev :=
  let d := (d.leaveActive p).setPortState p 1
  let d := d.setPort p { d.port p with laneNumbers := [], arrivals := [], deskew := [], training := 1, agreed := 0, capSeen := [], capLast := none, ackSent := false, partnerReady := false }
  d.showTaps p 1
/-- A port disabled: its lanes idle, its training forgotten. -/
def Dev.disablePort (d : Dev) (p : Nat) : Dev :=
  let d := (d.leaveActive p).setPortState p 0
  d.setPort p { d.port p with training := 0, agreed := 0, taps := [], laneNumbers := [], arrivals := [], deskew := [], capSeen := [], capLast := none, ackSent := false }

/-! ### Blocks received (R373–R377, R381, R390, R391) -/

/-- MARKER_BLOCK_RECEIVE (R374–R376, R394): the lane's number and its marker's arrival, in UI, are noted. -/
def execMarkerBlockReceive (t : Nat) (port : Port) (lane : Fin 4) (laneNumber : Nat) (parity : MarkerParity) (arrival : Nat) (s : State) :
    Host.Outcome State Fault Refusal :=
  devStep t (fun _ d =>
    let p := port.val
    let x := d.port p
    if d.val (Obj.ggPortState p) = 0 then d
    else
      let d := d.setPort p { x with
        laneNumbers := SMap.set x.laneNumbers lane.val (laneNumber % 4), arrivals := SMap.set x.arrivals lane.val arrival
        frozen := !x.heard, heard := false }
      if parity.bip = parity.computed then d else d.bump (Obj.ggBipErrors p)) s

/-- SKIP_BLOCK_RECEIVE (R377): a Skip stripe is deleted from a full buffer and repeated into an empty one. -/
def execSkipBlockReceive (t : Nat) (port : Port) (fill : Int) (s : State) : Host.Outcome State Fault Refusal :=
  devStep t (fun _ d =>
    let p := port.val
    let held := if 0 < fill then fill - 1 else if fill < 0 then fill + 1 else 0
    if d.val (Obj.ggPortState p) = 0 then d else d.setPort p { d.port p with elastic := held }) s

/-- CREDIT_BLOCK_RECEIVE (R381). -/
def execCreditBlockReceive (t : Nat) (port : Port) (cls frames : Nat) (s : State) : Host.Outcome State Fault Refusal :=
  devStep t (fun _ d =>
    let p := port.val
    let x := d.port p
    if !(d.portActive p) then d
    else if cls = 4 then (d.setPort p { x with credit4 := x.credit4 + frames }).drainPort p
    else if cls = 5 then (d.setPort p { x with credit5 := x.credit5 + frames }).drainPort p
    else d) s

/-- A port that cannot work with its partner (R390). -/
def Dev.portFails (d : Dev) (p : Nat) : Dev := (d.setPortState p 8).raise (130 + p) true
/-- CAPABILITY_BLOCK_RECEIVE (R390): a loopback or another version fails the port; the same capability three times on every lane sends Ack;
with Ack both ways the port goes on. -/
def execCapabilityBlockReceive (t : Nat) (port : Port) (lane : Fin 4) (block : CapabilityBlock) (s : State) : Host.Outcome State Fault Refusal :=
  devStep t (fun _ d =>
    let p := port.val
    let x := d.port p
    if d.val (Obj.ggPortState p) != 2 then d
    else if block.version != 1 || block.serial = wrap 24 Config.serialNumber then d.portFails p
    else
      let plain := { block with ack := false }
      let same := x.capLast = some plain
      let seen := if same then x.capSeen else []
      let seen := SMap.set seen lane.val (SMap.look seen lane.val 0 + 1)
      let ack := (List.range 4).all (fun l => 3 ≤ SMap.look seen l 0)
      let agreed := min (d.val (Obj.ggMaxRate p)) block.maxRate
      let d := (d.setPort p
        { x with capSeen := seen, capLast := some plain, ackSent := ack, partnerRest := block.rest, agreed := agreed }).put
          (Obj.ggPartnerSerial p) (wrap 24 block.serial)
      if !(ack && block.ack) || agreed = 0 then d
      else if agreed = 1 then d.enterActive p 1
      else d.trainAt p 2) s

/-- One tap moved as requested (R391, R392): the new value and the status, 0 no change, 1 updated, 2 at limit. -/
def tapRequest (req rate : Nat) (sel : Nat) (fixed : Bool) (t : Nat × Nat × Nat) : (Nat × Nat × Nat) × Nat :=
  let get := fun (x : Nat × Nat × Nat) => if sel = 0 then x.1 else if sel = 1 then x.2.1 else x.2.2
  let set := fun (v : Nat) => if sel = 0 then (v, t.2.1, t.2.2) else if sel = 1 then (t.1, v, t.2.2) else (t.1, t.2.1, v)
  if req = 0 then (t, 0)
  else if fixed then (t, 2)
  else
    let u := if req = 1 then set (get t + 1) else if req = 2 then set (get t - 1) else set (get (presetTaps rate))
    if (req = 2 && get t = 0) || !(tapsOk u) then (t, 2) else (u, 1)
/-- TRAINING_BLOCK_RECEIVE (R391, R392, R394): each new request moves a tap one step; a request that is held moves it no further. -/
def execTrainingBlockReceive (t : Nat) (port : Port) (lane : Fin 4) (block : TrainingBlock) (s : State) : Host.Outcome State Fault Refusal :=
  devStep t (fun _ d =>
    let p := port.val
    let x := d.port p
    let l := lane.val
    let state := d.val (Obj.ggPortState p)
    if !(state = 3 || state = 7) || block.rate != x.training then d
    else
      let old := SMap.look x.tapReqs l 0
      let fresh := fun (i r : Nat) => if bits old (2 * i + 1) (2 * i) = r % 4 then 0 else r % 4
      let fixed := d.fixedTaps p l != 0
      let a := tapRequest (fresh 0 block.reqPre) block.rate 0 fixed (d.tapsAt p block.rate l)
      let b := tapRequest (fresh 1 block.reqMain) block.rate 1 fixed a.1
      let c := tapRequest (fresh 2 block.reqPost) block.rate 2 fixed b.1
      let before := SMap.look x.tapStatus l 0
      let kept := fun (i r st : Nat) => if fresh i r = 0 && r % 4 != 0 then bits before (2 * i + 1) (2 * i) else st
      let status := kept 0 block.reqPre a.2 + 4 * kept 1 block.reqMain b.2 + 16 * kept 2 block.reqPost c.2
      let y := { x with
        taps := if fixed then x.taps else SMap.set x.taps (4 * block.rate + l) c.1
        tapReqs := SMap.set x.tapReqs l (block.reqPre % 4 + 4 * (block.reqMain % 4) + 16 * (block.reqPost % 4))
        tapStatus := SMap.set x.tapStatus l status, partnerReady := block.ready, heard := true, frozen := false }
      (d.setPort p y).showTaps p block.rate) s

/-- An active port goes to retraining at its rate, sending Retrain stripes: their number is not stated (log entry 27). -/
def Dev.retrain (d : Dev) (p : Nat) : Dev :=
  let rate := d.val (Obj.ggRate p)
  let d := (d.leaveActive p).setPortState p 7
  let d := d.setPort p { d.port p with training := rate, partnerReady := false, tapReqs := [], tapStatus := [] }
  (d.stripes p 0x69 d.freeNow).used
/-- RETRAIN_BLOCK_RECEIVE (R393). -/
def execRetrainBlockReceive (t : Nat) (port : Port) (_rate : Nat) (s : State) : Host.Outcome State Fault Refusal :=
  devStep t (fun _ d => if d.portActive port.val then d.retrain port.val else d) s

/-- REST_BLOCK_RECEIVE (R397): the partner goes to electrical idle. -/
def execRestBlockReceive (t : Nat) (port : Port) (s : State) : Host.Outcome State Fault Refusal :=
  devStep t (fun _ d =>
    let p := port.val
    if d.portActive p || d.val (Obj.ggPortState p) = 5 then d.setPort p { d.port p with partnerIdle := true, frozen := true } else d) s

/-- A marker stripe and its owed skip group among the frames in progress (R375, R379): the marker delays every frame, the skip group those of
classes 4 and 5, and the frames of classes 1–3 in progress stand before it. -/
def PortSt.marker (x : PortSt) (per time : Nat) : PortSt :=
  let now := x.tx.filter (fun f => time < f.until')
  let head := ((now.filter (fun f => f.cls ≤ 3)).map TxFrame.until').foldl max time
  { x with markersSent := x.markersSent + 1
           tx := now.map (fun f => { f with until' := f.until' + (if f.cls ≤ 3 then per else 9 * per) })
           skipUntil := head + 9 * per
           skipBy := time + 1024 * per }
/-- GG_MARKER_STRIPE_DUE (R375, R377): a marker stripe and its skip group, on a port that transmits. -/
def execGgMarkerStripeDue (t : Nat) (port : Port) (s : State) : Host.Outcome State Fault Refusal :=
  devStep t (fun _ d =>
    let p := port.val
    let state := d.val (Obj.ggPortState p)
    if state = 0 || state = 5 then d
    else
      let per := stripeTime (if state = 4 then d.val (Obj.ggRate p) else (d.port p).training)
      (((d.drainPort p).setPort p (((d.drainPort p).port p).marker per (10 * d.now))).stripes p 0x4B 1).stripes p 0x2D 8) s

/-! ### The lanes' scrambler (R373) -/

/-- The bits of a payload in the order in which they are sent: byte 0 first, each byte from its least significant bit (R373). -/
def payloadBits (bs : List Byte) : List Bool := (bs.map (fun b => (List.range 8).map b.getLsbD)).flatten
/-- The bit that 1 + x³⁹ + x⁵⁸ takes from the bits a lane carried last, newest first. -/
def scrambleTap (s : List Bool) : Bool := s.getD 38 false ^^ s.getD 57 false
/-- Payload bits scrambled behind the bits the lane carried last; headers are not (R373). -/
def scramble : List Bool → List Bool → List Bool
  | _, [] => []
  | s, b :: r => (b ^^ scrambleTap s) :: scramble ((b ^^ scrambleTap s) :: s.take 57) r
/-- The payload bits of what a lane carries (R373). -/
def descramble : List Bool → List Bool → List Bool
  | _, [] => []
  | s, b :: r => (b ^^ scrambleTap s) :: descramble (b :: s.take 57) r

/-! ### Frames received (R382, R385, R386, R388) -/

/-- A Start block (Table 16-3). -/
structure StartBlock where
  cls : Nat
  length : Nat
  seq : Nat
  /-- Its check, class and length hold (R382, Table 16-4). -/
  good : Bool
deriving DecidableEq, Repr
/-- Whether a payload length lies in its class's range (Table 16-4). -/
def lengthOk (cls n : Nat) : Bool :=
  if cls = 1 then 16 ≤ n && n ≤ 140 && n % 4 = 0 else if cls = 2 then n = 56 else if cls = 3 then n = 16 else 16 ≤ n && n ≤ 4096
/-- The fields of a Start block's eight bytes. -/
def startBlock (bs : List Byte) : StartBlock :=
  let cls := field bs 1 1 % 8
  let n := field bs 2 2
  { cls := cls, length := n, seq := field bs 4 2, good := field bs 6 2 = crc32c (bs.take 6) % 65536 && 1 ≤ cls && cls ≤ 5 && lengthOk cls n }
/-- The blocks of a frame as they are sent (R378): the Start block, the data blocks with zeros and the payload's CRC-32C behind it, and Idle
blocks for the rest of the last stripe. -/
def frameBlocks (cls seq : Nat) (payload : List Byte) : List RxBlock :=
  let n := ceilDiv (payload.length + 4) 8
  let head := leBytes 1 0x78 ++ leBytes 1 cls ++ leBytes 2 payload.length ++ leBytes 2 seq
  let body := payload ++ zeros (8 * n - 4 - payload.length) ++ leBytes 4 (crc32c payload)
  [.control (head ++ leBytes 2 (crc32c head % 65536))] ++ (List.range n).map (fun i => RxBlock.data ((body.drop (8 * i)).take 8))
    ++ List.replicate (4 * frameStripes payload.length - 1 - n) (.control (leBytes 1 0x1E ++ zeros 7))
/-- A frame being received: its class, its payload's length, the data blocks that have come, and whether it is bad already. -/
structure RxFrame where
  cls : Nat
  length : Nat
  got : List Byte
  bad : Bool
deriving DecidableEq, Repr
/-- The receiver within a run of blocks: the frames in progress, innermost first; whether the rest of the stripe is what fills up a frame; and
the bad frames and header errors found. -/
structure Receiver where
  frames : List RxFrame
  fill : Bool
  bad : Nat
  header : Nat
deriving DecidableEq, Repr
/-- Whether a control block is of a type of Table 16-1. -/
def knownType (ty : Nat) : Bool := [0x1E, 0x2D, 0x4B, 0x78, 0x2A, 0x33, 0x3C, 0x55, 0x66, 0x69].contains ty
/-- The innermost frame is bad, to its last data block. -/
def Receiver.spoil (r : Receiver) : Receiver :=
  match r.frames with
  | [] => r
  | f :: fs => { r with frames := { f with bad := true } :: fs }
/-- A data block goes to the innermost frame, which is judged with its last one (R378, R382). -/
def Receiver.data (r : Receiver) (bs : List Byte) : Receiver :=
  match r.frames with
  | [] => r
  | f :: fs =>
    let got := f.got ++ bs
    let size := 8 * ceilDiv (f.length + 4) 8
    if got.length < size then { r with frames := { f with got := got } :: fs }
    else
      let ok := !f.bad && field got (size - 4) 4 = crc32c (got.take f.length)
      { r with frames := fs, fill := true, bad := r.bad + ofBool (!ok) }
/-- A Start block at a place of a stripe: alone it begins a frame; inside another it may only as R380 has it, and otherwise both are bad. -/
def Receiver.start (r : Receiver) (place : Nat) (s : StartBlock) : Receiver :=
  let new := fun (bad : Bool) => ({ cls := s.cls, length := s.length, got := [], bad := bad } : RxFrame)
  match r.frames with
  | [] => if s.good then { r with frames := [new false] } else { r with bad := r.bad + 1 }
  | f :: fs =>
    if place = 0 && s.good && preempts s.cls f.cls then { r with frames := new false :: f :: fs }
    else if s.good then { r with frames := new true :: { f with bad := true } :: fs }
    else { r.spoil with bad := r.bad + 1 }
/-- One block of a stripe taken (R373, R380): marker and skip blocks are removed; any other control block before a frame's last data block makes
it bad. -/
def Receiver.take (r : Receiver) (place : Nat) (b : RxBlock) : Receiver :=
  let r := if place = 0 then { r with fill := false } else r
  match b with
  | .data bs => r.data bs
  | .invalid => { r.spoil with header := r.header + 1 }
  | .control bs =>
    let ty := field bs 0 1
    if !(knownType ty) then { r.spoil with header := r.header + 1 }
    else if ty = 0x4B || ty = 0x2D then r
    else if ty = 0x78 then r.start place (startBlock bs)
    else if r.fill then r
    else r.spoil
/-- The receiver over the blocks of whole stripes, lane 0 first. -/
def receive : Receiver → Nat → List RxBlock → Receiver
  | r, _, [] => r
  | r, i, b :: bs => receive (r.take (i % 4) b) (i + 1) bs

/-- GG_FRAME_ERROR (R380, R382): the blocks from the Start block of a frame on which a fault lies, and the sequence numbers with which the next
frames of some classes come. Bad frames, header errors and the frames missing in the sequences are counted. -/
def execGgFrameError (t : Nat) (port : Port) (frames : FaultyFrames) (s : State) : Host.Outcome State Fault Refusal :=
  devStep t (fun _ d =>
    let p := port.val
    if !(d.portActive p) then d
    else
      let r := receive { frames := [], fill := false, bad := 0, header := 0 } 0 frames.blocks
      let d := (d.bumpBy (Obj.ggFrameErrors p) r.bad).bumpBy (Obj.ggHeaderErrors p) r.header
      frames.next.foldl (fun e x =>
        let y := e.port p
        let gap := wrap 16 (x.2 + 65536 - SMap.look y.rxSeqs x.1 0)
        (e.setPort p { y with rxSeqs := SMap.set y.rxSeqs x.1 x.2 }).bumpBy (Obj.ggFramesLost p) gap) d) s

/-- EVENT_FRAME_RECEIVE (R385, R386). -/
def execEventFrameReceive (t : Nat) (port : Port) (frame : EventFrame) (s : State) : Host.Outcome State Fault Refusal :=
  devStep t (fun _ d =>
    let p := port.val
    if !(d.portActive p) || frame.kind = 1 || frame.kind = 2 then d
    else if frame.kind != 0 || 32 ≤ frame.line then d.bump (Obj.ggFrameErrors p)
    else
      let d := d.received p 3
      let ch := d.val (Obj.ggEventIn p frame.line)
      if frame.void then d.bump (Obj.ggEventVoid p)
      else if 128 ≤ ch then d
      else if frame.aligned && d.aligned then d.fireAt ch { tick := frame.time, ps := frame.ps } true
      else (d.fireAt ch { tick := d.now, ps := 0 } true).bump (Obj.ggEventUnaligned p)) s

/-- NOTICE_FRAME_RECEIVE (R386): the channel fires at the notice's arrival (log entry 27). -/
def execNoticeFrameReceive (t : Nat) (port : Port) (frame : EventFrame) (s : State) : Host.Outcome State Fault Refusal :=
  devStep t (fun _ d =>
    if d.portActive port.val && (frame.kind = 1 || frame.kind = 2) then
      (d.received port.val 3).fireAt (d.val Obj.ggNoticeChannel) { tick := d.now, ps := 0 } true
    else d) s

/-- A frame of class 4 or 5 has been passed on: its credit goes back (R381). -/
def Dev.returnCredit (d : Dev) (p : Nat) : Dev := d.stripes p 0x55 1

/-- DICTIONARY_FRAME_RECEIVE (R388): a request waits on the Gargor path, or is discarded when one is outstanding there (R52), and one of no operation
of R48 is answered with an abort; a response goes to the remote buffer while one is awaited. -/
def execDictionaryFrameReceive (t : Nat) (port : Port) (response : Bool) (record : List Byte) (s : State) : Host.Outcome State Fault Refusal :=
  memStep t (fun _ d =>
    let p := port.val
    if !(d.portActive p) then (d, [])
    else if record.length < 16 || 4096 < record.length then (d.bump (Obj.ggFrameErrors p), [])
    else
      let d := (d.received p 4).returnCredit p
      if response then
        if d.val (Obj.ggRemoteStatus p) != 1 then (d, [])
        else
          ((d.put (Obj.ggRemoteStatus p) 2).setPort p { d.port p with remoteSince := none },
           [.put (d.domAddr (d.val (Obj.ggRemoteBuffer p)) + 4096) record])
      else
        let n := Path.number (.gargor port)
        if (SMap.find d.outstanding n).isSome then (d.bump Obj.devMailboxDiscards, [])
        else
          let d := { d with outstanding := SMap.set d.outstanding n record }
          let op := field record 0 1
          if 1 ≤ op && op ≤ 5 then (d, [])
          else (d.respond (.gargor port) op (field record 1 1) (field record 2 2) (field record 4 1) 0 [] abortOperation, [])) s

/-- GgRemoteDoorbell written (R388, R398). -/
def Dev.writeRemoteDoorbell (d : Dev) (m : Mem) (p : Nat) : Dev × Nat :=
  let block := d.val (Obj.ggRemoteBuffer p)
  if d.val (Obj.ggRemoteStatus p) = 1 || domLength block = 0 then (d, abortState)
  else if !(d.portActive p) then (d.put (Obj.ggRemoteStatus p) 4, 0)
  else
    let base := d.domAddr block
    let size := min 4096 (16 + field (m.bytes base 16) 8 4)
    let d := (d.put (Obj.ggRemoteStatus p) 1).setPort p { d.port p with remoteSince := some d.now }
    (d.sendFrame p 4 (m.bytes base size), 0)
/-- GG_REMOTE_DOORBELL (R388). -/
def execGgRemoteDoorbell (t : Nat) (path : Path) (port : Port) (s : State) : Host.Outcome State Fault Refusal :=
  devStep t (fun m d => d.gated path (Obj.ggRemoteDoorbell port.val) 1 (fun d => d.writeRemoteDoorbell m port.val)) s
/-- GG_REMOTE_TIMEOUT (R388). -/
def execGgRemoteTimeout (t : Nat) (port : Port) (s : State) : Host.Outcome State Fault Refusal :=
  devStep t (fun _ d =>
    let p := port.val
    if d.val (Obj.ggRemoteStatus p) = 1 && (d.port p).remoteSince.any (fun b => b + 10 * ticksMs ≤ d.now) then
      (d.put (Obj.ggRemoteStatus p) 3).setPort p { d.port p with remoteSince := none }
    else d) s

/-! ### Bulk memory (R389) -/

/-- A bulk frame (Table 16-7). -/
def bulkFrame (op status region offset : Nat) (length : Nat) (data : List Byte) : List Byte :=
  leBytes 1 op ++ leBytes 1 status ++ leBytes 2 region ++ leBytes 4 length ++ leBytes 8 offset ++ data
/-- Whether this device serves a peer's bulk request. -/
def Dev.servesBulk (d : Dev) (region offset n : Nat) : Bool := d.flag Obj.devGargorRemoteWrite && d.reach 0 region offset n

/-- BULK_WRITE_DATA (R389): served as class 3 traffic of partition 0 and acknowledged. -/
def execBulkWriteData (t : Nat) (port : Port) (region offset : Nat) (data : List Byte) (memOk : Bool) (s : State) : Host.Outcome State Fault Refusal :=
  memStep t (fun _ d =>
    let p := port.val
    if !(d.portActive p) then (d, [])
    else
      let d := (d.received p 5).returnCredit p
      let answer := fun (e : Dev) (status : Nat) => e.sendFrame p 5 (bulkFrame 4 status region offset data.length [])
      if !(d.servesBulk region offset data.length) then (answer (d.ddrRefuse 3 region) 1, [])
      else
        let d := d.ddrAsk 3 0 region offset data.length .write
        if memOk then (answer d 0, [.put (d.regionAddr region offset) data]) else (answer d 2, [])) s
/-- BULK_READ_REQUEST (R389). -/
def execBulkReadRequest (t : Nat) (port : Port) (region offset length : Nat) (memOk : Bool) (s : State) : Host.Outcome State Fault Refusal :=
  devStep t (fun m d =>
    let p := port.val
    if !(d.portActive p) then d
    else
      let d := (d.received p 5).returnCredit p
      if !(d.servesBulk region offset length) then (d.ddrRefuse 3 region).sendFrame p 5 (bulkFrame 3 1 region offset 0 [])
      else
        let d := d.ddrAsk 3 0 region offset length .read
        let d := if memOk then d else d.memFail (d.regionAddr region offset)
        if memOk then d.sendFrame p 5 (bulkFrame 3 0 region offset length (m.bytes (d.regionAddr region offset) length))
        else d.sendFrame p 5 (bulkFrame 3 2 region offset 0 [])) s

/-- The frame of a job in flight, sent now: `rel` and `n` give its part of the block. -/
def Dev.sendBulk (d : Dev) (m : Mem) (p rel n : Nat) : Dev :=
  let block := d.val (Obj.ggBulkLocal p)
  let region := d.val (Obj.ggBulkRemoteRegion p)
  let offset := d.val (Obj.ggBulkRemoteOffset p) + rel
  let d := d.setPort p { d.port p with bulkOut := some (rel, n), bulkSent := d.now }
  if d.val (Obj.ggBulkOp p) = 1 then
    let d := d.ddrAsk 3 0 (domRegion block) (domOffset block + rel) n (.bulk p)
    d.sendFrame p 5 (bulkFrame 1 0 region offset n (m.bytes (d.domAddr block + rel) n))
  else d.sendFrame p 5 (bulkFrame 2 0 region offset n [])
/-- The next frame of a job, or its end. -/
def Dev.nextBulk (d : Dev) (m : Mem) (p : Nat) : Dev :=
  let total := domLength (d.val (Obj.ggBulkLocal p))
  let acked := (d.port p).bulkAcked
  let d := (d.put (Obj.ggBulkBytes p) acked).setPort p { d.port p with bulkResends := 0 }
  if total ≤ acked then d.endBulk p 2 else d.sendBulk m p acked (min 4080 (total - acked))

/-- The frame in flight that an answer at this peer offset is for. -/
def Dev.bulkAnswer (d : Dev) (p offset : Nat) : Option (Nat × Nat) :=
  if d.val (Obj.ggBulkState p) != 1 then none
  else (d.port p).bulkOut.bind (fun b => if offset = d.val (Obj.ggBulkRemoteOffset p) + b.1 then some b else none)

/-- BULK_READ_DATA (R389): read data of a pull job goes to its local block. -/
def execBulkReadData (t : Nat) (port : Port) (status offset : Nat) (data : List Byte) (s : State) : Host.Outcome State Fault Refusal :=
  memStep t (fun m d =>
    let p := port.val
    if !(d.portActive p) then (d, [])
    else
      let d := (d.received p 5).returnCredit p
      match d.bulkAnswer p offset with
      | none => (d, [])
      | some (rel, n) =>
        if d.val (Obj.ggBulkOp p) != 2 then (d, [])
        else if status = 1 then (d.endBulk p 3, [])
        else if status = 2 then (d.endBulk p 5, [])
        else
          let block := d.val (Obj.ggBulkLocal p)
          let at' := d.domAddr block + rel
          let part := data.take n
          let d := d.ddrAsk 3 0 (domRegion block) (domOffset block + rel) part.length .write
          let d := d.setPort p { d.port p with bulkAcked := rel + part.length }
          (d.nextBulk m p, [.put at' part])) s

/-- BULK_WRITE_ACK (R389). -/
def execBulkWriteAck (t : Nat) (port : Port) (status offset _length : Nat) (s : State) : Host.Outcome State Fault Refusal :=
  devStep t (fun m d =>
    let p := port.val
    if !(d.portActive p) then d
    else
      let d := (d.received p 5).returnCredit p
      match d.bulkAnswer p offset with
      | none => d
      | some (rel, n) =>
        if d.val (Obj.ggBulkOp p) != 1 then d
        else if status = 1 then d.endBulk p 3
        else if status = 2 then d.endBulk p 5
        else (d.setPort p { d.port p with bulkAcked := rel + n }).nextBulk m p) s

/-- GgBulkStart written (R389, R398). -/
def Dev.writeBulkStart (d : Dev) (m : Mem) (p : Nat) : Dev × Nat :=
  if d.val (Obj.ggBulkState p) = 1 || d.val (Obj.ggBulkOp p) = 0 then (d, abortState)
  else (((d.put (Obj.ggBulkState p) 1).setPort p { d.port p with bulkAcked := 0, bulkResends := 0 }).nextBulk m p, 0)
/-- GG_BULK_START (R389). -/
def execGgBulkStart (t : Nat) (path : Path) (port : Port) (s : State) : Host.Outcome State Fault Refusal :=
  devStep t (fun m d => d.gated path (Obj.ggBulkStart port.val) 1 (fun d => d.writeBulkStart m port.val)) s
/-- GG_BULK_RESEND (R389): 100 µs without an answer; after the third resend the job ends with a link error. -/
def execGgBulkResend (t : Nat) (port : Port) (s : State) : Host.Outcome State Fault Refusal :=
  devStep t (fun m d =>
    let p := port.val
    let x := d.port p
    match x.bulkOut with
    | none => d
    | some (rel, n) =>
      if d.val (Obj.ggBulkState p) != 1 || d.now < x.bulkSent + 100 * ticksUs then d
      else if 3 ≤ x.bulkResends then d.endBulk p 4
      else (d.setPort p { x with bulkResends := x.bulkResends + 1 }).sendBulk m p rel n) s

/-! ### Bring-up (R390, R391, R393) -/

/-- Lane-to-lane skew of the latest markers, in UI. -/
def PortSt.skew (x : PortSt) : Nat :=
  let at' := x.arrivals.map Prod.snd
  at'.foldl max 0 - at'.foldl min (at'.foldl max 0)
/-- Whether a port gains marker lock (R374, R376): each lane has shown a marker, their numbers are the four, and the skew is at most 64 UI. -/
def PortSt.markerLock (x : PortSt) : Bool :=
  (List.range 4).all (fun l => (SMap.find x.arrivals l).isSome && x.laneNumbers.any (fun n => n.2 = l)) && x.skew ≤ 64
/-- The lanes of a port aligned on their markers: each waits for the latest (R376). -/
def PortSt.align (x : PortSt) : PortSt :=
  let last := (x.arrivals.map Prod.snd).foldl max 0
  { x with deskew := x.arrivals.map (fun a => (a.1, last - a.2)) }
/-- GG_LANE_LOCK (R376, R390, R393): with lock and its lanes aligned, a port in detect goes to capability, and a waking port is active again. -/
def execGgLaneLock (t : Nat) (port : Port) (s : State) : Host.Outcome State Fault Refusal :=
  devStep t (fun _ d =>
    let p := port.val
    let state := d.val (Obj.ggPortState p)
    if !((d.port p).markerLock) then d
    else
    let d := d.setPort p (d.port p).align
    if state = 1 then (d.setPortState p 2).setPort p { (d.setPortState p 2).port p with capSeen := [], capLast := none, ackSent := false }
    else if state = 6 then d.enterActive p (d.port p).training
    else d) s
/-- GG_CAPABILITY_TIMEOUT (R390). -/
def execGgCapabilityTimeout (t : Nat) (port : Port) (s : State) : Host.Outcome State Fault Refusal :=
  devStep t (fun _ d =>
    let p := port.val
    if d.val (Obj.ggPortState p) = 2 && (d.port p).stateSince + 10 * ticksMs ≤ d.now then d.detect p else d) s

/-- GG_TRAINING_SUCCESS (R391, R393): within 10 ms of the switch. -/
def execGgTrainingSuccess (t : Nat) (port : Port) (s : State) : Host.Outcome State Fault Refusal :=
  devStep t (fun _ d =>
    let p := port.val
    let x := d.port p
    if d.val (Obj.ggPortState p) != 3 || !x.partnerReady || x.stateSince + 10 * ticksMs < d.now then d
    else
      let d := ((d.bump (Obj.ggTrainings p)).stripes p 0x4B 1).stripes p 0x2D 8
      if x.training < x.agreed then d.trainAt p (x.training + 1) else d.enterActive p x.training) s
/-- A rate given up: the fallback is counted and noticed. -/
def Dev.fallBack (d : Dev) (p : Nat) : Dev := (d.bump (Obj.ggFallbacks p)).raise (130 + p) false
/-- GG_TRAINING_TIMEOUT (R391, R393). -/
def execGgTrainingTimeout (t : Nat) (port : Port) (s : State) : Host.Outcome State Fault Refusal :=
  devStep t (fun _ d =>
    let p := port.val
    let x := d.port p
    if d.val (Obj.ggPortState p) != 3 || d.now < x.stateSince + 10 * ticksMs then d
    else
      let r := x.training
      let d := (d.setPort p { x with agreed := r - 1 }).fallBack p
      if r ≤ 2 then (d.enterActive p 1).showTaps p 1 else d.trainAt p (r - 1)) s

/-! ### Retraining and rest (R393, R395–R397) -/

/-- GG_RETRAIN_TRIGGER (R396): 16 header errors are counted with their cause. -/
def execGgRetrainTrigger (t : Nat) (port : Port) (cause : RetrainCause) (s : State) : Host.Outcome State Fault Refusal :=
  devStep t (fun _ d =>
    let p := port.val
    if !(d.portActive p) then d
    else
      let d := match cause with
        | .headerErrors n => d.bumpBy (Obj.ggHeaderErrors p) n
        | .lowMargin | .missedMarkers => d
      d.retrain p) s
/-- GG_RETRAIN_SUCCESS (R393). -/
def execGgRetrainSuccess (t : Nat) (port : Port) (s : State) : Host.Outcome State Fault Refusal :=
  devStep t (fun _ d =>
    let p := port.val
    let x := d.port p
    if d.val (Obj.ggPortState p) = 7 && d.now ≤ x.stateSince + 2 * ticksMs then (d.bump (Obj.ggRetrains p)).enterActive p x.training else d) s
/-- GG_RETRAIN_FAIL (R393). -/
def execGgRetrainFail (t : Nat) (port : Port) (s : State) : Host.Outcome State Fault Refusal :=
  devStep t (fun _ d =>
    let p := port.val
    let x := d.port p
    if d.val (Obj.ggPortState p) != 7 then d
    else
      let d := d.fallBack p
      if x.training ≤ 1 then d.detect p else d.trainAt p (x.training - 1)) s

/-- Whether an export entry or an enabled remote register names a port (R397). -/
def Dev.portNamed (d : Dev) (p : Nat) : Bool :=
  (List.range 32).any (fun j => d.val (Obj.fbExport p j) != 0xFFFF)
    || (List.range 64).any (fun r => let v := d.val (Obj.fbRemoteIn r); bit v 13 && bits v 12 11 = p)
/-- GG_REST_ENTRY (R397): four Rest stripes, then electrical idle. -/
def execGgRestEntry (t : Nat) (port : Port) (s : State) : Host.Outcome State Fault Refusal :=
  devStep t (fun _ d =>
    let p := port.val
    let x := d.port p
    let delay := d.val (Obj.ggRestDelay p) * ticksUs
    if !(d.portActive p) || !(d.flag (Obj.ggRestEnable p)) || !x.partnerRest || d.portNamed p || d.now < max x.lastSent x.lastHeard + delay then d
    else
      let rate := d.val (Obj.ggRate p)
      let d := ((d.leaveActive p).setPortState p 5).bump (Obj.ggRestEntries p)
      (d.setPort p { d.port p with training := rate, frozen := true }).stripes p 0x66 4) s
/-- GG_WAKE (R397): 119 Idle stripes, a marker stripe and a skip group. -/
def execGgWake (t : Nat) (port : Port) (s : State) : Host.Outcome State Fault Refusal :=
  devStep t (fun _ d =>
    let p := port.val
    if d.val (Obj.ggPortState p) != 5 then d
    else
      let d := d.setPortState p 6
      (((d.setPort p { d.port p with arrivals := [] }).stripes p 0x1E 119).stripes p 0x4B 1).stripes p 0x2D 8) s
/-- GG_WAKE_TIMEOUT (R393): no lock 1 µs after the burst's 128 stripes. -/
def execGgWakeTimeout (t : Nat) (port : Port) (s : State) : Host.Outcome State Fault Refusal :=
  devStep t (fun _ d =>
    let p := port.val
    let x := d.port p
    if d.val (Obj.ggPortState p) != 6 || 10 * d.now < 10 * (x.stateSince + ticksUs) + 128 * stripeTime x.training then d
    else
      let d := d.setPortState p 7
      d.setPort p { d.port p with partnerReady := false, tapReqs := [], tapStatus := [] }) s
/-- GG_REFRESH_DUE (R395): a further 1 ms without a frame; 32 Refresh stripes. -/
def execGgRefreshDue (t : Nat) (port : Port) (s : State) : Host.Outcome State Fault Refusal :=
  devStep t (fun _ d =>
    let p := port.val
    let x := d.port p
    if !(d.portActive p) || d.now < x.lastSent + (x.refreshes + 1) * ticksMs then d
    else (d.setPort p { x with refreshes := x.refreshes + 1 }).stripes p 0x3C 32) s

end Sys2Proof.Machine
end

