-- ==== Sys2Proof/Machine/Events.lean ====
section
/-! DEFINITION. The event router (chapter 17): producers' firings, waves with their listeners and tasks, timers, flags. -/

namespace Sys2Proof.Machine

/-- EvtFire written (R404): the channel fires at the time of the write, for its owner, or for partition 0. -/
def Dev.writeEvtFire (d : Dev) (part ch : Nat) : Dev × Nat :=
  if part != 0 && (d.chanOwner ch != part || d.chanInstall ch) then (d, abortAccess) else (d.fire ch d.now, 0)
/-- EVT_FIRE (R404). -/
def execEvtFire (t : Nat) (path : Path) (channel : Nat) (s : State) : Host.Outcome State Fault Refusal :=
  devStep t (fun _ d => d.gatedValue path Obj.evtFire channel (fun d => d.writeEvtFire (Path.partition path) channel)) s

/-- EVENT_FIRE (R400): a producer's firing begins a new wave. -/
def execEventFire (t : Nat) (channel : Chan) (time ps : Nat) (s : State) : Host.Outcome State Fault Refusal :=
  devStep t (fun _ d => d.fireAt channel.val { tick := time, ps := ps } false) s

/-! ### Waves (R400–R405) -/

/-- The wave in hand: firings still to act with their step along their path (R401), channels that have fired (R402), and the consumer
inputs it has reached (R405): 0–7 capture arm, 8 monitor, 16–31 DMA, 32–35 timer, 64–319 fault bit. -/
structure WaveRun where
  todo : List (Nat × Nat)
  fired : List Nat
  hit : List Nat
deriving DecidableEq, Repr

/-- A channel's flag bit set, with its counter. -/
def Dev.flagEvent (d : Dev) (ch b : Nat) (counter : Nat → Nat) : Dev :=
  (d.put (Obj.evtFlags ch) (d.val (Obj.evtFlags ch) ||| 2 ^ b)).bump (counter ch)

/-- A firing caused inside the wave: five steps from the first it is dropped (R401). -/
def WaveRun.push (r : WaveRun) (d : Dev) (ch depth : Nat) : Dev × WaveRun :=
  if 128 ≤ ch then (d, r)
  else if 4 < depth then (d.flagEvent ch 2 Obj.evtDropped, r)
  else (d, { r with todo := r.todo ++ [(ch, depth)] })

/-- An activation of a consumer input: the second of one wave merges (R405). -/
def WaveRun.reach (r : WaveRun) (d : Dev) (ch key : Nat) (act : Dev → WaveRun → Dev × WaveRun) : Dev × WaveRun :=
  if r.hit.contains key then (d.bump (Obj.evtMerges ch), r) else act d { r with hit := key :: r.hit }

/-- Drill latches of running lanes (R135), and a drill at rest whose last shot's watch the event may still count for (R134); a full latch is
an overrun, and a void strip's is not reached (R105, Table 17-3). -/
def Dev.latchAll (d : Dev) (ch : Nat) (e : EvTime) : Dev :=
  let resting := (d.drills.filter (fun p => p.2.tail.isSome && (p.2.run = .stopped || p.2.run = .halted))).map Prod.fst
  (d.runningLanes ++ resting).foldl (fun x l =>
    if x.unitState (stripOf l) != 0 then x
    else
      let full := (x.drill l).shotEnd ≤ e.tick && (SMap.find (x.drill l).latches ch).isSome
      let x := x.latchEvent l ch e
      if full then x.overrun ch else x) d

/-- A monitor activation waits for the trigger input to act on it (R274). -/
def Dev.askMonitor (d : Dev) (ch : Nat) : Dev := { d with monitor := { d.monitor with asked := d.monitor.asked ++ [ch] } }

/-- A capture trigger waits for its engine to act on it (R294). -/
def Dev.askCapture (d : Dev) (e tick : Nat) : Dev := d.setCapture e { d.capture e with asked := (d.capture e).asked ++ [tick] }

/-- A DMA start (R403 kind 4): the tail moves one entry on, unless the descriptor released by the last start has not ended. -/
def Dev.startDma (d : Dev) (ch c : Nat) : Dev :=
  let x := d.dmaCh c
  if d.val (Obj.pcieDmaMode c) != 0 || d.dmaEntries c = 0 then d
  else if x.taskEntry.isSome then d.overrun ch
  else d.setDma c { x with tail := (x.tail + 1) % d.dmaEntries c, halted := false, taskEntry := some x.tail }

/-- Fields of EvtTimer. -/
def Dev.timerDelay (d : Dev) (n : Nat) : Nat := bits (d.val (Obj.evtTimer n)) 39 0
/-- Channel of a timer. -/
def Dev.timerChannel (d : Dev) (n : Nat) : Nat := bits (d.val (Obj.evtTimer n)) 47 41
/-- When a timer fires next, while it runs. -/
def Dev.timerDue (d : Dev) (n : Nat) : Option Nat := (SMap.find d.router.timers n).bind TimerSt.due
/-- A timer set running to a time, or stopped. -/
def Dev.setTimer (d : Dev) (n : Nat) (due : Option Nat) : Dev :=
  { d with router := { d.router with timers := SMap.set d.router.timers n { due := due } } }

/-- A timer start (R407): a disabled timer does nothing, and a running one runs on. -/
def WaveRun.startTimer (r : WaveRun) (d : Dev) (ch depth n tick : Nat) : Dev × WaveRun :=
  if !(bit (d.val (Obj.evtTimer n)) 48) then (d, r)
  else r.reach d ch (32 + n) (fun d r =>
    if (d.timerDue n).isSome then (d.overrun ch, r)
    else if d.timerDelay n = 0 then r.push d (d.timerChannel n) (depth + 1)
    else (d.setTimer n (some (tick + d.timerDelay n)), r))

/-- A fault injection (R403 kind 6): the bit acts as a fault of its class, whose channel fires inside the wave when the bit is newly set. -/
def WaveRun.inject (r : WaveRun) (d : Dev) (depth b : Nat) : Dev × WaveRun :=
  match faultClass b with
  | none => (d, r)
  | some c =>
    if bit d.faults.sticky b then (d.raiseIn b false false, r)
    else r.push (d.raiseIn b false false) (d.val (Obj.evtFaultChannel c)) (depth + 1)

/-- Task `k` of a firing channel (R403). -/
def WaveRun.task (r : WaveRun) (d : Dev) (ch depth tick k : Nat) : Dev × WaveRun :=
  let v := d.val (Obj.evtTask (ch / 16) (8 * (ch % 16) + k))
  let target := bits v 10 3
  if !(bit (d.val (Obj.evtChannelCfg ch)) k) then (d, r)
  else match bits v 2 0 with
  | 1 => r.push d target (depth + 1)
  | 2 => r.reach d ch target (fun d r => (d.arm target, r))
  | 3 => r.reach d ch 8 (fun d r => (d.askMonitor ch, r))
  | 4 => r.reach d ch (16 + target) (fun d r => (d.startDma ch target, r))
  | 5 => r.startTimer d ch depth target tick
  | 6 => r.reach d ch (64 + target) (fun d r => r.inject d depth target)
  | _ => (d, r)

/-- Gargor lines and MSI-X vectors that name a channel (R365, R385): a wave that began on a Gargor line is sent on none. -/
def Dev.tellOutside (d : Dev) (ch : Nat) (w : Wave) : Dev :=
  let d := if w.fromLink then d else
    (List.range 4).foldl (fun e p => (List.range 32).foldl (fun e j =>
      if e.val (Obj.ggEventOut p j) = ch then e.sendFrame p 3 (eventPayload 0 j false e.aligned w.time) else e) e) d
  (List.range (d.val Obj.pcieNumVfs + 1)).foldl (fun e f => (List.range 32).foldl (fun e j =>
    if e.val (Obj.pcieVectorEvent f j) = ch then e.msix f (32 + j) else e) e) d

/-- A firing of the wave delivered: counted, heard by its listeners, then its tasks in rising order (R401, R403). A capture engine and the
monitor act on their triggers in commands of their own (R274, R294; log entry 39). -/
def WaveRun.deliver (r : WaveRun) (d : Dev) (w : Wave) (ch depth : Nat) : Dev × WaveRun :=
  let d := (d.bump64 (Obj.evtFired ch)).latchAll ch w.time
  let d := d.tellOutside ch w
  let armed := (List.range 8).filter (fun e => d.val (Obj.capArmChannel e) = ch)
  let p := armed.foldl (fun (p : Dev × WaveRun) e => p.2.reach p.1 ch e (fun d r => (d.arm e, r))) (d, { r with fired := ch :: r.fired })
  let triggered := (List.range 8).filter (fun e => d.val (Obj.capTriggerChannel e) = ch)
  let p := (triggered.foldl (fun e k => e.askCapture k w.time.tick) p.1, p.2)
  let p := if p.1.val Obj.monTriggerChannel = ch then p.2.reach p.1 ch 8 (fun d r => (d.askMonitor ch, r)) else p
  (List.range 8).foldl (fun (p : Dev × WaveRun) k => p.2.task p.1 ch depth w.time.tick k) p

/-- The wave's firings in order, each channel at most once (R402). Each of the 128 channels starts at most 8 tasks, so that 1,200 firings end
any wave. -/
def waveGo (w : Wave) : Nat → Dev → WaveRun → Dev
  | 0, d, _ => d
  | fuel + 1, d, r =>
    match r.todo with
    | [] => d
    | (ch, depth) :: rest =>
      let r := { r with todo := rest }
      if r.fired.contains ch then waveGo w fuel (d.flagEvent ch 1 Obj.evtLoops) r
      else
        let p := r.deliver d w ch depth
        waveGo w fuel p.1 p.2

/-- WAVE_DELIVER (R400–R405): the router takes the wave that arrived first and finishes it. -/
def execWaveDeliver (t : Nat) (s : State) : Host.Outcome State Fault Refusal :=
  devStep t (fun _ d =>
    match d.router.waves with
    | [] => d
    | w :: rest => waveGo w 1200 { d with router := { d.router with waves := rest } } { todo := [(w.channel, 0)], fired := [], hit := [] }) s

/-- EVT_TIMER_EXPIRE (R407): a running timer that is due fires a new wave; a periodic one runs on. -/
def execEvtTimerExpire (t : Nat) (timer : Fin 4) (s : State) : Host.Outcome State Fault Refusal :=
  devStep t (fun _ d =>
    let n := timer.val
    match d.timerDue n with
    | none => d
    | some due =>
      if d.now < due then d
      else
        let again := bit (d.val (Obj.evtTimer n)) 40 && d.timerDelay n != 0
        (d.setTimer n (if again then some (due + d.timerDelay n) else none)).fire (d.timerChannel n) due) s

/-- EVT_FLAGS_CLEAR (R409): bits written 1 clear. -/
def Dev.clearEvtFlags (d : Dev) (ch mask : Nat) : Dev × Nat :=
  let v := d.val (Obj.evtFlags ch)
  (d.put (Obj.evtFlags ch) (v - (v &&& mask)), 0)
/-- EVT_FLAGS_CLEAR (R409). -/
def execEvtFlagsClear (t : Nat) (path : Path) (channel : Chan) (mask : Nat) (s : State) : Host.Outcome State Fault Refusal :=
  devStep t (fun _ d => d.gatedValue path (Obj.evtFlags channel.val) mask (fun d => d.clearEvtFlags channel.val mask)) s

end Sys2Proof.Machine
end

