-- ==== Sys2Proof/Machine/Paths.lean ====
section
/-! DEFINITION. What the loader reads of a lane (R109, R137, R141–R144, R165): image, library entries and segment table; and the paths
of a program (R111–R136), each shot with what it plays, decides and opens. Times of a path are ticks from *T*ₛ. -/

namespace Sys2Proof.Machine

/-! ### The library (R141–R144) -/

/-- A sequence of bales decoded (R143): each gives whole granules, at most 3,640. -/
def baleSeq : Nat → List Byte → Option (List Byte)
  | 0, bs => if bs.isEmpty then some [] else none
  | fuel + 1, bs =>
    if bs.isEmpty then some []
    else match baleDecode bs with
      | .content out =>
        if out.length % 18 != 0 || 65520 < out.length then none
        else (baleSeq fuel (bs.drop (baleSize (baleBody bs)))).map (fun r => out ++ r)
      | .bad _ => none

/-- Where the bales of a sequence start, the last one at what is no bale or is bad. -/
def baleStarts : Nat → (at' : Nat) → List Byte → List Nat
  | 0, _, _ => []
  | fuel + 1, a, bs =>
    if bs.isEmpty then []
    else a :: (match baleDecode bs with
      | .content _ => baleStarts fuel (a + baleSize (baleBody bs)) (bs.drop (baleSize (baleBody bs)))
      | .bad _ => [])

/-- Whether a resident entry's figures bound its data (R144). -/
def figuresHold (data : List Byte) (n energy peak : Nat) : Bool :=
  let sums := (List.range n).map (granuleSum data)
  sums.all (fun x => x ≤ peak) && sums.sum ≤ energy

/-- The library entry of a waveform (R141–R144), and whether it is stored as bales; none is no entry. -/
def Dev.libEntry (d : Dev) (m : Mem) (part dir w : Nat) : Option (LibEntry × Bool) :=
  (d.libDescriptor m part dir w).bind (fun b =>
    let off := field b 0 8
    let word := field b 8 4
    let n := bits word 23 0
    let form := bits word 25 24
    let stream := bit word 26
    let stored := field b 12 4
    let energy := field b 16 8
    let peak := field b 24 8
    let region := domRegion dir
    if (form != 1 && form != 2) || off % 64 != 0 || bits word 31 27 != 0 || 2 ^ 38 ≤ peak || !(d.reach part region off stored)
        || (form = 1 && stored != 18 * n) then none
    else
      let raw := m.bytes (d.regionAddr region off) stored
      let plain := if form = 1 then some raw else baleSeq (stored + 1) raw
      match plain with
      | none => none
      | some data =>
        if data.length != 18 * n || (!stream && !(figuresHold data n energy peak)) then none
        else some ({ length := n, stream := stream, offset := off, region := region, energySum := energy, peak := peak
                     data := if stream then [] else data }, form = 2))

/-! ### What is loaded for a lane -/

/-- A program with everything its checks read. -/
structure Plan where
  lane : Nat
  /-- Owner of the lane, 0 for an unassigned one (R46). -/
  part : Nat
  block : Nat
  mode : Nat
  length : Nat
  entry : Nat
  horizon : Nat
  group : Nat
  grains : List Nat
  library : SMap LibEntry
  /-- Entries that are both streamed and stored as bales (R148). -/
  bales : List Nat
  tableBlock : Nat
  table : List Nat
  rate : Nat
  buffer : Nat
  fetchRate : Nat

/-- The instruction at an address. -/
def Plan.op (p : Plan) (a : Nat) : Option Op := if p.length ≤ a then none else (p.grains[a]?).map decodeGrain
/-- Addresses of the instructions. -/
def Plan.addrs (p : Plan) : List Nat := (List.range p.length).drop 2
/-- Addresses at which an instruction of some kind stands. -/
def Plan.where' (p : Plan) (f : Op → Bool) : List Nat := p.addrs.filter (fun a => (p.op a).any f)
/-- Length of a waveform in granules, 0 when the library has no entry. -/
def Plan.len (p : Plan) (w : Nat) : Nat := ((SMap.find p.library w).map LibEntry.length).getD 0
/-- Whether a waveform is streamed. -/
def Plan.streams (p : Plan) (w : Nat) : Bool := (SMap.find p.library w).any LibEntry.stream
/-- Entries of the segment table. -/
def Plan.segCount (p : Plan) : Nat := tableCount ((p.table[0]?).getD 0)
/-- Entry `i` of the segment table. -/
def Plan.seg (p : Plan) (i : Nat) : SegEntry := decodeSeg ((p.table[i + 2]?).getD 0)
/-- The `seg` instructions of the program. -/
def Plan.segs (p : Plan) : List Nat := p.where' (fun o => match o with
  | .seg _ => true
  | _ => false)
/-- Waveforms that `play` instructions name, with their addresses. -/
def Plan.plays (p : Plan) : List (Nat × Nat) :=
  p.addrs.filterMap (fun a => match p.op a with
    | some (.play _ _ _ w _ _ _) => some (a, w)
    | _ => none)
/-- Waveforms that entries of the table name. -/
def Plan.tableWaves (p : Plan) : List Nat := if p.segs.isEmpty then [] else (List.range p.segCount).map (fun i => (p.seg i).wave)
/-- Lead class of the program's own stretches (R110). -/
def Plan.cls (p : Plan) : Nat := if 3640 < p.length then 1 else 0
/-- Loops as (address, end), in rising address. -/
def Plan.ranges (p : Plan) : List (Nat × Nat) :=
  p.addrs.filterMap (fun a => match p.op a with
    | some (.loop _ e _) => some (a, e)
    | _ => none)
/-- The loops whose body or end holds an address, outermost first. -/
def Plan.enclosing (p : Plan) (t : Nat) : List Nat := (p.ranges.filter (fun r => r.1 < t && t ≤ r.2)).map Prod.fst

/-- Waveforms that a program and its table name. -/
def Plan.names (p : Plan) : List Nat := ((p.plays.map Prod.snd) ++ p.tableWaves).eraseDups
/-- Whether two library entries agree in their figures. -/
def LibEntry.like (a b : LibEntry) : Bool := decide ({ a with data := [] } = { b with data := [] })
/-- A plan with the entries it names read from a library directory; a resident entry already held is not read again (R146, R147). -/
def Dev.readLibrary (d : Dev) (m : Mem) (dir : Nat) (kept : SMap LibEntry) (p : Plan) : Plan :=
  let found := p.names.filterMap (fun w => (d.libEntry m p.part dir w).map (fun e =>
    (w, ((SMap.find kept w).filter (fun k => k.like e.1)).getD e.1, e.2)))
  { p with library := found.foldl (fun b e => SMap.set b e.1 e.2.1) []
           bales := (found.filter (fun e => e.2.1.stream && e.2.2)).map Prod.fst }
/-- Data of a library entry in DDR5, and whether it is stored as bales (Table 6-1). -/
structure Stored where
  region : Nat
  offset : Nat
  bytes : Nat
  bales : Bool
deriving DecidableEq, Repr
/-- The data a waveform's descriptor names. -/
def Dev.storedAt (d : Dev) (m : Mem) (part dir w : Nat) : Option Stored :=
  (d.libDescriptor m part dir w).map (fun b =>
    { region := domRegion dir, offset := field b 0 8, bytes := field b 12 4, bales := bits (field b 8 4) 25 24 = 2 })
/-- The data of the resident entries a plan names and the lane does not hold (R147). -/
def Dev.missing (d : Dev) (m : Mem) (dir : Nat) (kept : SMap LibEntry) (p : Plan) : List Stored :=
  (p.library.filter (fun e => !e.2.stream && !((SMap.find kept e.1).any (fun k => k.like e.2)))).filterMap (fun e => d.storedAt m p.part dir e.1)
/-- Offsets in their region of the bales that an entry is stored as. -/
def Dev.balesAt (d : Dev) (m : Mem) (x : Stored) : List Nat :=
  if x.bales then baleStarts (x.bytes + 1) x.offset (m.bytes (d.regionAddr x.region x.offset) x.bytes) else []
/-- Whether one bale at an offset of an entry's data is bad (R335). -/
def Dev.baleBad (d : Dev) (m : Mem) (x : Stored) (o : Nat) : Bool :=
  match baleDecode (m.bytes (d.regionAddr x.region o) (x.offset + x.bytes - o)) with
  | .content _ => false
  | .bad _ => true

/-- A lane's plan under a valuation of its objects: active values, or those a commit would bring. What the strip holds of it is taken from
`held`; anything else is read from DDR5. -/
def Dev.planWith (d : Dev) (m : Mem) (l : Nat) (val : Nat → Nat) (held : Option Image) : Plan :=
  let block := val (Obj.laneProgram l)
  let bytes := d.domBytes m block
  let tb := val (Obj.laneSegTable l)
  let tbytes := d.domBytes m tb
  let grains := match held with
    | some x => x.grains
    | none => grainsOf bytes (min (headLength (grainOf bytes 0)) (bytes.length / 9))
  let g0 := (grains.head?).getD 0
  let bare : Plan :=
    { lane := l, part := if d.laneOwner l = 15 then 0 else d.laneOwner l, block := block, mode := headMode g0, length := headLength g0
      entry := headEntry g0, horizon := val (Obj.laneHorizon l), group := val (Obj.laneShotGroup l), grains := grains, library := [], bales := []
      tableBlock := tb
      table := match held with
        | some x => x.table
        | none => grainsOf tbytes (tbytes.length / 9)
      rate := val (Obj.laneStreamRate l), buffer := val (Obj.laneStreamBuffer l), fetchRate := val (Obj.laneFetchRate l) }
  match held with
  | some x => { bare with library := x.library }
  | none => d.readLibrary m (val (Obj.laneLibrary l)) (d.drill l).library bare

/-! ### Paths -/

/-- What a path does in a shot. -/
inductive Act where
  /-- Granules from a time: instruction, waveform, amplitude, how many; the alternate slot; whether the first is urgent (R98); stages R119
  adds for it; lead class; and whether the waveform is streamed. -/
  | play (t addr wave : Nat) (amp : Int) (n : Nat) (slot : Option Nat) (urgent : Bool) (extra cls : Nat) (stream : Bool)
  /-- A decision (R129): its time, source and whether it is an alternate's or speculative. -/
  | dec (t addr kind source : Nat) (alt spec : Bool)
  /-- An effect R220 bars from a speculative span. -/
  | point (t addr : Nat)
  /-- A window opened. -/
  | win (slot start stop : Nat)
  /-- A `sync` left: by an event at a time on a channel, or by its limit. -/
  | sync (time : Int) (chan : Option Nat) (addr : Nat)
  /-- The end of an alternate group's span with its slots. -/
  | close (slots : List Nat) (stop : Nat)
  /-- Program lines that have to be held by a time (R318). -/
  | lines (n : Nat) (t : Int)
deriving DecidableEq, Repr

/-- Shortest separation of a shot from the next on a path, in the next one's mode (R153): `ends` are the ends of the group's other members. -/
def separation (mode gap stop : Nat) (ends : List Nat) : Nat :=
  let e := ends.foldl max stop
  max 64 (if mode = 0 then e + 64 * gap else if mode = 2 then 64 * gap else e)

/-- The shot before another on a path: its `shot.begin`, the loops and calls it ends in, its end on this lane, the class of the stretch in
which it ends, and per alternate slot the end of the latest span on the path with the shots (mode, gap, end of the one before) since (R216). -/
structure PrevShot where
  begin' : Nat
  loops : List (Nat × Nat × Bool)
  calls : List (Nat × Nat × Nat)
  stop : Nat
  cls : Nat
  spans : SMap (Nat × List (Nat × Nat × Nat))
deriving DecidableEq, Repr

/-- A shot on a path: its `shot.begin`, the loops and calls it ends in, its acts, its end on this lane (R115), and the stretch in which it
ends. An endless one repeats its last acts with a period. -/
structure ShotPath where
  begin' : Nat
  loops : List (Nat × Nat × Bool)
  calls : List (Nat × Nat × Nat)
  mode : Nat
  chan : Nat
  gap : Nat
  acts : List Act
  stop : Nat
  /-- The shot before it; none for the first of a run (R493). -/
  after : Option PrevShot
  cls : Nat
  block : Option (List Act × Nat)
deriving DecidableEq, Repr

/-- What a place gone back to in a shot looks like, times counted from the cursor, as far as the checks tell it apart (a segment of two
granules is like any longer one): where two visits agree, the path repeats itself. -/
structure Round where
  loops : List (Nat × Nat × Bool)
  calls : List (Nat × Nat × Nat)
  atStart : Bool
  busy : Nat
  segment : Nat
  segDue : Bool
  frame : Nat
  since : Nat
  urgent : Bool
  spec : Option Nat
  watch : Option (Nat × Nat × Nat × Nat × Nat × Nat)
  timedOut : Option Bool
  cls : Nat
  line : Nat
deriving DecidableEq, Repr

/-- Where a path stands. Acts are newest first. -/
structure PathSt where
  pc : Nat
  /-- Loop stack, innermost first: address, remaining count, forever. -/
  loops : List (Nat × Nat × Bool)
  /-- Call stack: return, loop depth, target. -/
  calls : List (Nat × Nat × Nat)
  inShot : Bool
  cursor : Nat
  busy : Nat
  segStart : Nat
  segDue : Bool
  /-- Effect time of the latest frame instruction (R158). -/
  frameAt : Nat
  /-- Instructions since the last granule, none before the first (R119): past 2^20 no lead covers the next. -/
  since : Nat
  played : Bool
  urgent : Bool
  /-- Time of the latest speculative branch. -/
  spec : Option Nat
  /-- An open alternate group: release, and length per slot opened, newest first. -/
  alt : Option (Nat × List (Nat × Nat))
  /-- The watch: address, mask, target, pop, loop depth, call depth. -/
  watch : Option (Nat × Nat × Nat × Nat × Nat × Nat)
  timedOut : Option Bool
  /-- Table entry to play next. -/
  table : Option Nat
  begin' : Nat
  mode : Nat
  chan : Nat
  gap : Nat
  acts : List Act
  cls : Nat
  /-- Ends of windows and spans so far. -/
  ends : Nat
  /-- The shot that ended last on the path. -/
  prev : Option PrevShot
  /-- Per place gone back to in the shot: how it looked, cursor then, acts then. -/
  rounds : SMap (List (Round × Nat × Nat))
  /-- Places whose rounds have gone on past every time a program names. -/
  far : List Nat
  /-- Program line in hand, and lines fetched since the shot before. -/
  line : Nat
  pendingLines : Nat
deriving DecidableEq, Repr

/-- The start of a program. -/
def Plan.start (p : Plan) : PathSt :=
  { pc := p.entry, loops := [], calls := [], inShot := false, cursor := 0, busy := 0, segStart := 0, segDue := false, frameAt := 0, since := 0
    played := false, urgent := false, spec := none, alt := none, watch := none, timedOut := none, table := none, begin' := 0, mode := 0, chan := 0, gap := 0
    acts := [], cls := p.cls, ends := 0, prev := none, rounds := [], far := [], line := p.entry / 64, pendingLines := 1 }

/-- What one instruction of a path gives: the paths on, failed checks with their grain, and shots that end. -/
structure Trace where
  next : List PathSt
  errs : List (Nat × Nat)
  shots : List ShotPath

/-- A path that goes on. -/
def goOn (s : PathSt) : Trace := { next := [s], errs := [], shots := [] }
/-- A path ended by a failed check. -/
def failAt (check addr : Nat) : Trace := { next := [], errs := [(check, addr)], shots := [] }
/-- Two outcomes of one instruction. -/
def Trace.both (a b : Trace) : Trace := { next := a.next ++ b.next, errs := a.errs ++ b.errs, shots := a.shots ++ b.shots }
/-- A failed check on a path that goes on. -/
def Trace.note (a : Trace) (bad : Bool) (check addr : Nat) : Trace := if bad then { a with errs := a.errs ++ [(check, addr)] } else a

/-- The shot of a path as it stands. -/
def PathSt.shot (s : PathSt) (block : Option (List Act × Nat)) : ShotPath :=
  { begin' := s.begin', loops := s.loops, calls := s.calls, mode := s.mode, chan := s.chan, gap := s.gap, acts := s.acts.reverse
    stop := max (64 * max s.cursor s.busy) s.ends, after := s.prev, cls := s.cls, block := block }

/-- How the path looks where it stands. -/
def PathSt.round (s : PathSt) : Round :=
  let far := fun (t : Nat) => if 64 * s.cursor < t + 1024 then some (64 * s.cursor - t) else none
  { loops := s.loops, calls := s.calls, atStart := s.cursor = 0, busy := s.busy - s.cursor, segment := min 2 (s.cursor - s.segStart), segDue := s.segDue
    frame := 64 * s.cursor + 2 ^ 32 - s.frameAt, since := s.since, urgent := s.urgent, spec := s.spec.bind far, watch := s.watch
    timedOut := s.timedOut, cls := s.cls, line := s.line }

/-- Whether a round repeats an earlier one: the latest frame instruction may only lie further back, which no check minds (R158). -/
def Round.repeats (new old : Round) : Bool := old.frame ≤ new.frame && decide ({ new with frame := old.frame } = old)
/-- Granules past every time an instruction names. -/
def farGranules : Nat := 2 ^ 40
/-- A path some granules later, its acts where they were. -/
def PathSt.later (s : PathSt) (n : Nat) : PathSt :=
  { s with cursor := s.cursor + n, busy := s.busy + n, segStart := s.segStart + n, frameAt := s.frameAt + 64 * n, spec := s.spec.map (· + 64 * n) }

/-- A place gone back to inside a shot: a path is followed round it until it repeats itself. It may then go round without end, or leave in
any later round: all of those leave like a round followed, but for the cursor, so one late round stands for them (log entry 28). -/
def PathSt.back (s : PathSt) (place : Nat) : Trace :=
  if !s.inShot then goOn s
  else
    let seen := SMap.look s.rounds place []
    match seen.find? (fun r => s.round.repeats r.1) with
    | some r =>
      let period := s.cursor - r.2.1
      if s.far.contains place then { next := [], errs := [], shots := [] }
      else
        let block := s.acts.take (s.acts.length - r.2.2)
        let late := { s.later ((farGranules / period + 1) * period) with far := place :: s.far }
        { next := if period = 0 then [] else [late], errs := [], shots := [s.shot (some (block.reverse, 64 * period))] }
    | none => goOn { s with rounds := SMap.set s.rounds place (seen ++ [(s.round, s.cursor, s.acts.length)]) }

/-- A jump (R127): pops stay inside the subroutine, and the target lies in no other loop's body. -/
def Plan.goto (p : Plan) (s : PathSt) (a target pop : Nat) : Trace :=
  let base := (s.calls.head?.map (fun c => c.2.1)).getD 0
  let loops := s.loops.drop pop
  if s.loops.length < pop + base || p.enclosing target != ((loops.take (loops.length - base)).map Prod.fst).reverse then failAt 3 a
  else
    let s := { s with pc := target, loops := loops }
    if target ≤ a then s.back a else goOn s

/-- Whether a time lies in the 16 granules of a speculative branch (R217). -/
def PathSt.inSpan (s : PathSt) (t : Nat) : Bool := s.spec.any (fun b => b ≤ t && t < b + 1024)

/-- Granules played at a cursor. -/
def Plan.played (p : Plan) (s : PathSt) (a w : Nat) (amp : Int) (at' n : Nat) (slot : Option Nat) (cls : Nat) : PathSt :=
  let act := Act.play (64 * at') a w amp n slot (s.urgent || (slot.isSome && p.mode = modeStrict)) (2 * (s.since - 9)) cls (p.streams w)
  { s with acts := act :: s.acts, since := 0, played := true, urgent := if slot.isSome then s.urgent else false
           cls := if p.streams w then 2 else cls }

/-- A segment may begin at the cursor (R132, R134): `go` continues with it; a watch may take the path elsewhere. Two beginnings at one
cursor are one. -/
def Plan.segment (p : Plan) (s : PathSt) (a : Nat) (begins : Bool) (go : PathSt → Trace) : Trace :=
  if !begins || s.cursor = s.segStart then go { s with segDue := false }
  else
    let on := (go { s with segStart := s.cursor, segDue := false }).note (s.cursor < s.segStart + 2) 5 a
    match s.watch with
    | some (wa, mask, target, pop, ld, cd) =>
      if ld = s.loops.length && cd = s.calls.length then
        let fired := p.goto { s with watch := none, segStart := s.cursor, segDue := false } wa target pop
        if mask = 0 then fired.note (s.cursor < s.segStart + 2) 5 a else fired.both on
      else on
    | none => on

/-- Values a condition's source can have on a path. -/
def PathSt.values (s : PathSt) (kind : Nat) : List Nat :=
  if kind = 0 then [0, 1, 2, 3]
  else if kind = 2 then List.range 256
  else match kind, s.timedOut with
    | 4, some b => [ofBool b]
    | _, _ => [0, 1]

/-- An entry of the segment table played (R168, R173): all its repetitions, or one when its condition may end it. A Forever entry also makes
an endless shot. A table that passes check 3 has no cycle. -/
def Plan.tableStep (p : Plan) (s : PathSt) (i : Nat) : Trace :=
  let e := p.seg i
  let a := s.pc
  let n := p.len e.wave
  let amp := tableAmp ((p.table[1]?).getD 0)
  let on := fun (s : PathSt) =>
    if e.last then goOn { s with table := none, pc := a + 1, segStart := s.cursor, segDue := false, busy := s.cursor } else goOn { s with table := some e.next }
  let rep := fun (k : Nat) =>
    let x := p.played s a e.wave amp s.cursor (n * k) none 3
    { x with cursor := s.cursor + n * k, busy := s.cursor + n * k, segStart := s.cursor + n * (k - 1) }
  if p.segCount ≤ i then failAt 2 a
  else if !e.forever && e.rep = 0 then on s
  else if e.forever then
    let one := rep 1
    (on one).both { next := [], errs := [], shots := [one.shot (some (one.acts.take 1, 64 * n))] }
  else if e.cond != 0 && 1 < e.rep then (on (rep e.rep)).both (on (rep 1))
  else on (rep e.rep)

/-- Instructions that may stand outside a shot (check 4 of Table 5-14). -/
def outsideOp : Op → Bool
  | .nop | .halt | .loop .. | .endloop _ | .call _ | .ret | .jump .. | .shotBegin .. => true
  | .branch k _ _ _ _ _ _ _ => k = 3 || k = 4
  | _ => false
/-- Instructions that may stand in an alternate group (R121). -/
def inAltOp : Op → Bool
  | .play .. | .altOpen .. | .altClose => true
  | _ => false

/-- A frame instruction (R158). -/
def frameStep (s : PathSt) (a : Nat) (t : Int) : Trace :=
  let bad := decide (t < (s.frameAt : Int))
  (goOn { s with frameAt := max s.frameAt t.toNat, acts := .point t.toNat a :: s.acts }).note bad 5 a

/-- A `play` in an alternate group (R121). -/
def Plan.altPlay (p : Plan) (s : PathSt) (a w : Nat) (amp : Int) (flags : Bool) (release : Nat) (opened : List (Nat × Nat)) : Trace :=
  match opened with
  | [] => failAt 3 a
  | (slot, at') :: rest =>
    let n := p.len w
    if flags || 16 < at' + n then failAt 3 a
    else if n = 0 then goOn s
    else goOn { p.played s a w amp (release + at') n (some slot) p.cls with alt := some (release, (slot, at' + n) :: rest) }

/-- A branch (R127–R129): both ways when the source can send it both ways. -/
def Plan.branchStep (p : Plan) (s : PathSt) (a kind source value mask : Nat) (neg spec : Bool) (pop target : Nat) : Trace :=
  let vs := s.values kind
  let t := 64 * s.cursor
  let s := if s.inShot && kind ≤ 2 then
      { s with acts := .dec t a kind source false spec :: s.acts, urgent := !spec, spec := if spec then some t else s.spec }
    else s
  let on := if vs.any (fun v => !(condHolds v value mask neg)) then goOn s else { next := [], errs := [], shots := [] }
  if vs.any (fun v => condHolds v value mask neg) then (p.goto s a target pop).both on else on

/-- One instruction of a path; `s.pc` already stands past it at `a`. -/
def Plan.opStep (p : Plan) (slotLen : Nat → Nat) (s : PathSt) (a : Nat) (op : Op) : Trace :=
  match op with
  | .nop => goOn s
  | .halt => if s.inShot then failAt 4 a else { next := [], errs := [], shots := [] }
  | .shotBegin mode chan gap =>
    if s.inShot then failAt 4 a
    else goOn { s with
      inShot := true, cursor := 0, busy := 0, segStart := 0, segDue := false, frameAt := 0, urgent := false, spec := none
      watch := none, begin' := a, mode := mode, chan := chan, gap := gap, ends := 0, rounds := [], far := [], pendingLines := 0
      acts := if s.pendingLines != 0 then [.lines s.pendingLines 0] else [] }
  | .shotEnd =>
    if !s.inShot then failAt 4 a
    else
      let stop := max s.cursor s.busy
      let len := stop - s.segStart
      let shot := s.shot none
      let older := match s.prev with
        | none => []
        | some b => b.spans.filterMap (fun x =>
            let steps := (s.mode, s.gap, b.stop) :: x.2.2
            if x.2.1 + 8192 ≤ (steps.map (fun y => separation y.1 y.2.1 y.2.2 [])).sum then none else some (x.1, x.2.1, steps))
      let spans := shot.acts.foldl (fun m a => match a with
        | .close slots e => slots.foldl (fun m k => SMap.set m k (e, [])) m
        | _ => m) older
      { next := [{ p.start with pc := s.pc, loops := s.loops, calls := s.calls, timedOut := s.timedOut, line := s.line, cls := s.cls, since := s.since
                                played := s.played, pendingLines := 0
                                prev := some { begin' := shot.begin', loops := s.loops, calls := s.calls, stop := shot.stop, cls := shot.cls, spans := spans } }]
        errs := if len < 2 && !(len = 0 && s.segStart != 0) then [(5, a)] else [], shots := [shot] }
  | .play sg m h w amp _ _ =>
    match s.alt with
    | some (release, opened) => p.altPlay s a w amp (sg || m || h) release opened
    | none =>
      let n := p.len w
      if n = 0 then goOn s
      else p.segment s a (sg || s.segDue) (fun s =>
        let x := p.played s a w amp s.cursor n none p.cls
        (goOn { x with busy := s.cursor + n, cursor := if h then s.cursor else s.cursor + n }).note (s.cursor < s.busy) 5 a)
  | .altOpen slot kind source _ _ =>
    let g := s.alt.getD (s.cursor, [])
    if g.2.any (fun x => x.1 = slot) then failAt 3 a
    else
      (goOn { s with alt := some (g.1, (slot, 0) :: g.2)
                     acts := .dec (64 * g.1) a kind source true false :: .point (64 * g.1) a :: s.acts }).note
        (s.alt.isNone && s.cursor < s.busy) 5 a
  | .altClose =>
    match s.alt with
    | none => failAt 3 a
    | some (release, opened) =>
      let stop := release + (opened.map Prod.snd).foldl max 0
      goOn { s with alt := none, cursor := stop, busy := stop, ends := max s.ends (64 * stop)
                    acts := .close (opened.map Prod.fst) (64 * stop) :: s.acts }
  | .wait sg _ count =>
    if count = 0 then goOn s
    else p.segment s a (sg || s.segDue) (fun s => goOn { s with cursor := s.cursor + count })
  | .atC v => (goOn { s with cursor := max s.cursor v }).note (v < s.cursor) 5 a
  | .loop forever e count =>
    if 8 ≤ s.loops.length then failAt 3 a
    else if forever then
      let leaves := p.where' (fun o => match o with
        | .branch _ _ _ _ _ _ _ t | .watch _ _ _ _ _ _ _ t => t ≤ a || e < t
        | _ => false)
      if s.inShot && !(leaves.any (fun x => a < x && x < e)) then failAt 3 a
      else goOn { s with loops := (a, 0, true) :: s.loops }
    else if count = 0 then goOn { s with pc := e + 1 }
    else goOn { s with loops := (a, count, false) :: s.loops }
  | .endloop start =>
    match s.loops with
    | [] => failAt 3 a
    | (la, left, forever) :: rest =>
      let again := fun (k : Nat) => { s with pc := la + 1, loops := (la, k, forever) :: rest }
      if la != start then failAt 3 a
      else if forever then (again 0).back a
      else if left ≤ 1 then goOn { s with loops := rest }
      else goOn (again (left - 1))
  | .call target =>
    if 16 ≤ s.calls.length || s.calls.any (fun c => c.2.2 = target) || !(p.enclosing target).isEmpty then failAt 3 a
    else goOn { s with pc := target, calls := (a + 1, s.loops.length, target) :: s.calls }
  | .ret =>
    match s.calls with
    | [] => failAt 3 a
    | (back, depth, _) :: rest => if s.loops.length != depth then failAt 3 a else goOn { s with pc := back, calls := rest }
  | .jump pop target => p.goto s a target pop
  | .branch kind source value mask neg spec pop target => p.branchStep s a kind source value mask neg spec pop target
  | .watch _ _ _ mask neg _ pop target =>
    goOn { s with watch := if mask = 0 && neg then none else some (a, mask, target, pop, s.loops.length, s.calls.length) }
  | .frameFreq _ _ => frameStep s a (64 * s.cursor : Nat)
  | .framePhase _ _ _ => frameStep s a (64 * s.cursor : Nat)
  | .frameOrigin _ off => frameStep s a ((64 * s.cursor : Nat) + off)
  | .mark _ _ _ _ off => goOn { s with acts := .point (64 * s.cursor + off) a :: s.acts }
  | .acquire input slots off =>
    let start := 64 * s.cursor + off
    let wins := (setBits 16 slots).map (fun k => Act.win (16 * input + k) start (start + 32 * slotLen (16 * input + k)))
    let stop := ((setBits 16 slots).map (fun k => start + 32 * slotLen (16 * input + k))).foldl max s.ends
    goOn { s with acts := wins.reverse ++ .point start a :: s.acts, ends := stop }
  | .bias _ => goOn { s with acts := .point (64 * s.cursor) a :: s.acts }
  | .sync chan forever timeout gap =>
    let s := { s with acts := .point (64 * s.cursor) a :: s.acts }
    let limit := s.cursor + timeout
    let most := if forever then s.cursor + farGranules else limit + gap
    let left := fun (c : Nat) =>
      { s with cursor := c, timedOut := some false, acts := .sync ((64 * c : Nat) - ((64 * gap : Nat) : Int)) (some chan) a :: s.acts }
    let events := (([s.cursor, s.cursor + 1, s.cursor + gap, most].filter (· ≤ most)).eraseDups).map left
    let late := { s with cursor := limit + gap, timedOut := some true, acts := .sync (64 * limit : Nat) none a :: s.acts }
    { next := if forever then events else events ++ [late], errs := [], shots := [] }
  | .seg first => (p.segment s a true (fun s => goOn { s with pc := a, table := some first })).note (s.cursor < s.busy) 5 a
  | .bad => failAt 2 a

/-- The line an instruction stands in comes into hand (R318): lines in between are read too, and a line behind is read again. -/
def PathSt.reachLine (s : PathSt) (horizon : Nat) : PathSt :=
  let n := s.pc / 64
  if n = s.line then s
  else
    let count := if s.line < n && n < s.line + 56 then n - s.line else 1
    if s.inShot then { s with line := n, acts := .lines count ((64 * s.cursor : Nat) - (horizon : Int)) :: s.acts }
    else { s with line := n, pendingLines := s.pendingLines + count }

/-- One step of a path. -/
def Plan.pathStep (p : Plan) (slotLen : Nat → Nat) (s : PathSt) : Trace :=
  match s.table with
  | some i => p.tableStep s i
  | none =>
    match p.op s.pc with
    | none => failAt 4 (s.pc - 1)
    | some op =>
      let s := s.reachLine p.horizon
      if s.alt.isSome && !(inAltOp op) then failAt 3 s.pc
      else if !s.inShot && !(outsideOp op) then failAt 4 s.pc
      else p.opStep slotLen { s with pc := s.pc + 1, since := if s.played then min (s.since + 1) (2 ^ 20) else 0 } s.pc op

/-- The paths of a program: every path step until none is left. Between shots a path that stands where another has stood is followed once. -/
def Plan.explore (p : Plan) (slotLen : Nat → Nat) : Nat → List PathSt → List PathSt → List (Nat × Nat) → List ShotPath →
    List (Nat × Nat) × List ShotPath
  | 0, _, _, errs, shots => (errs, shots)
  | fuel + 1, todo, seen, errs, shots =>
    match todo with
    | [] => (errs, shots)
    | s :: rest =>
      if !s.inShot && seen.contains s then p.explore slotLen fuel rest seen errs shots
      else
        let t := p.pathStep slotLen s
        p.explore slotLen fuel (t.next ++ rest) (if s.inShot then seen else s :: seen) (errs ++ t.errs)
          (shots ++ t.shots.filter (fun x => !(shots.contains x)))

/-- Failed checks on the paths of a program, and its shots. -/
def Dev.paths (d : Dev) (p : Plan) : List (Nat × Nat) × List ShotPath :=
  p.explore (fun s => d.val (Obj.slotWindowLength s)) (2 ^ 60) [p.start] [] [] []

end Sys2Proof.Machine
end

