-- ==== Sys2Proof/Machine/Loader.lean ====
section
/-! DEFINITION. The loader (R101, R102, R129–R138, R148, R153, R173, R220, R251, R318, R493): the checks of Table 5-14, each as a list of
(check number, grain address) that fail. The failure reported is the first check's, at its lowest grain (log entry 28). -/

namespace Sys2Proof.Machine

/-- The first failed check, at its lowest address. -/
def firstFailure : List (Nat × Nat) → Option (Nat × Nat)
  | [] => none
  | x :: xs => match firstFailure xs with
    | some y => if y.1 < x.1 || (y.1 = x.1 && y.2 < x.2) then some y else some x
    | none => some x
/-- A failure when a test holds. -/
def failIf (bad : Bool) (check addr : Nat) : List (Nat × Nat) := if bad then [(check, addr)] else []

/-! ### Checks 1 and 2 -/

/-- Check 1 (Table 5-1): `bytes` are the image's. -/
def headerOk (bytes : List Byte) : Bool :=
  let g0 := grainOf bytes 0
  let g1 := grainOf bytes 1
  18 ≤ bytes.length && bits g0 71 56 = 0x5A51 && bits g0 55 48 = 1 && headMode g0 != 3 && 3 ≤ headLength g0
    && bytes.length = 9 * headLength g0 && 2 ≤ headEntry g0 && headEntry g0 < headLength g0 && bits g1 31 0 = crc32c (bytes.drop 18)
/-- Whether a source lies in the range of its kind (Table 5-10). -/
def sourceOk (kind source : Nat) : Bool :=
  match kind with
  | 0 => source < 1024
  | 1 => 1024 ≤ source && source < 1280
  | 2 => source < 4
  | 3 => source < 128
  | 4 => source = 0
  | _ => false
/-- Check 2 on an instruction of a program of `n` grains: refused codes, targets and ends. -/
def opOk (n : Nat) (op : Op) : Bool :=
  let inside := fun (t : Nat) => 2 ≤ t && t < n
  match op with
  | .bad => false
  | .shotBegin mode _ _ => mode != 3
  | .play sg m _ _ _ _ _ => sg || !m
  | .wait sg m _ => sg || !m
  | .altOpen _ kind source _ _ => kind ≤ 2 && sourceOk kind source
  | .loop _ e _ => inside e
  | .endloop t => inside t
  | .call t => inside t
  | .jump pop t => pop ≤ 8 && inside t
  | .branch kind source _ _ _ _ pop t => sourceOk kind source && pop ≤ 8 && inside t
  | .watch kind source _ _ _ _ pop t => sourceOk kind source && pop ≤ 8 && inside t
  | .mark kind target action _ _ => if kind = 1 then action = 0 else target < 32 && action != 3
  | _ => true
/-- Check 2 of a program. -/
def Plan.check2 (p : Plan) : List (Nat × Nat) :=
  failIf (bits ((p.grains[0]?).getD 0) 45 40 != 0) 2 0 ++ failIf (bits ((p.grains[1]?).getD 0) 71 32 != 0) 2 1
    ++ (p.addrs.map (fun a => failIf (reservedBits ((p.grains[a]?).getD 0) != 0 || !((p.op a).any (opOk p.length))) 2 a)).flatten

/-! ### Check 3 where it needs no path, and the table's (Table 7-3) -/

/-- Loop pairing and nesting (R127), and the watch rules of R134. -/
def Plan.check3 (p : Plan) : List (Nat × Nat) :=
  (p.addrs.map (fun a => match p.op a with
    | some (.loop _ e _) =>
      failIf (e ≤ a || p.op e != some (.endloop a) || p.ranges.any (fun r => r.1 < a && a ≤ r.2 && r.2 < e)) 3 a
    | some (.endloop s) => failIf (!((p.op s).any (fun o => match o with
        | .loop _ e _ => e = a
        | _ => false))) 3 a
    | some (.watch kind _ value mask _ _ _ _) => failIf (kind != 3 || !(mask = 0 || (mask = 1 && value = 1))) 3 a
    | _ => [])).flatten ++ failIf (!(p.enclosing p.entry).isEmpty) 3 p.entry

/-- The entry reached from one after so many steps along Next; none past an End entry or outside the table. -/
def Plan.segAfter (p : Plan) : Nat → Nat → Option Nat
  | 0, i => if p.segCount ≤ i then none else some i
  | k + 1, i => if p.segCount ≤ i || (p.seg i).last then none else p.segAfter k (p.seg i).next
/-- The entries of the cycle an entry lies on, from it on; empty when it lies on none. -/
def Plan.cycleOf (p : Plan) (i : Nat) : List Nat :=
  match ((List.range p.segCount).map (· + 1)).find? (fun k => p.segAfter k i = some i) with
  | some k => (List.range k).filterMap (fun j => p.segAfter j i)
  | none => []
/-- An entry that plays nothing (R168). -/
def SegEntry.skipped (e : SegEntry) : Bool := !e.forever && e.rep = 0

/-- The faults of a segment table that need no path (Table 7-3), each at the `seg` instruction it comes from: those of the table itself at the
first. -/
def Plan.tableFaults (p : Plan) : List (Nat × Nat) :=
  match p.segs with
  | [] => []
  | a :: _ =>
    let g0 := (p.table[0]?).getD 0
    let g1 := (p.table[1]?).getD 0
    let n := p.segCount
    let all := List.range n
    let firsts := p.segs.filterMap (fun x => match p.op x with
      | some (.seg i) => some (x, i)
      | _ => none)
    if domLength p.tableBlock = 0 then [(2, a)]
    else if bits g0 71 56 != 0x5A53 || bits g0 55 48 != 1 || n = 0 || 4096 < n || domLength p.tableBlock != 9 * (n + 2)
        || p.table.length != n + 2 || bits g0 31 0 != crc32c (((p.table.drop 1).map (leBytes 9)).flatten) then [(1, a)]
    else
      let cycles := all.map p.cycleOf
      failIf (bits g1 1 0 != 0
          || all.any (fun i =>
              let e := p.seg i
              (!e.last && n ≤ e.next) || 4 < e.cond || bits ((p.table[i + 2]?).getD 0) 17 0 != 0 || (e.forever && e.rep != 0))) 2 a
        ++ (firsts.map (fun f => failIf (n ≤ f.2) 2 f.1)).flatten
        ++ failIf (all.any (fun i => (p.seg i).forever && (p.seg i).cond = 0)
            || cycles.any (fun c => !c.isEmpty && (c.all (fun i => (p.seg i).cond = 0) || c.all (fun i => (p.seg i).skipped)))) 3 a
        ++ (firsts.map (fun f => failIf ((p.segAfter n f.2).isSome) 3 f.1)).flatten

/-! ### Checks 5 to 7 and 10 on the table and on names -/

/-- Check 6 (R46, R116, R125). -/
def Dev.check6 (d : Dev) (p : Plan) : List (Nat × Nat) :=
  let bad := fun (kind source : Nat) =>
    match kind with
    | 0 => d.inputOwner (source / 16) != p.part
    | 1 => d.cellOwner (source - 1024) != p.part
    | 2 => d.tableOwner source != p.part
    | 3 => d.chanOwner source != p.part
    | _ => false
  (p.addrs.map (fun a => match p.op a with
    | some (.branch kind source _ _ _ _ _ _) => failIf (bad kind source) 6 a
    | some (.watch kind source _ _ _ _ _ _) => failIf (bad kind source) 6 a
    | some (.altOpen _ kind source _ _) => failIf (bad kind source) 6 a
    | some (.sync chan _ _ _) => failIf (bad 3 chan) 6 a
    | some (.shotBegin 1 chan _) => failIf (bad 3 chan) 6 a
    | some (.acquire input _ _) => failIf (d.inputOwner input != p.part) 6 a
    | some (.mark kind target _ _ _) => failIf (if kind = 1 then bad 3 target else !(d.mayDrive p.lane target)) 6 a
    | _ => [])).flatten
    ++ (match p.segs with
        | a :: _ => failIf ((List.range p.segCount).any (fun i =>
            (p.seg i).cond != 0 && bad 3 (tableChan ((p.table[1]?).getD 0) (p.seg i).cond))) 6 a
        | [] => [])
    ++ failIf ([p.block, p.tableBlock].any (fun b => domLength b != 0 && regionOwner (d.region (domRegion b)) != p.part)) 6 0

/-- Check 6 on the shot group alone (R116). -/
def Dev.checkGroup (d : Dev) (l group : Nat) : Bool :=
  group ≤ 63 && allLanes.any (fun o => o != l && d.val (Obj.laneShotGroup o) = group && d.laneOwner o != d.laneOwner l)

/-- Check 5 on a table's waveforms, and check 7 (R144, Table 7-3). -/
def Plan.check7 (p : Plan) : List (Nat × Nat) :=
  let none' := fun (w : Nat) => (SMap.find p.library w).isNone
  (p.plays.map (fun x => failIf (none' x.2) 7 x.1)).flatten
    ++ (match p.segs with
        | a :: _ =>
          failIf (p.tableWaves.any none') 7 a
            ++ failIf ((List.range p.segCount).any (fun i =>
                let e := p.seg i
                (e.forever || e.rep != 0) && !(none' e.wave) && p.len e.wave < 2)) 5 a
        | [] => [])

/-- Granules a program holds in the resident area (R146, R167), beside what an old one holds there until the boundary (R147). -/
def Plan.resident (p : Plan) (old : Option Image) : Nat :=
  let extra := match old with
    | some x => residentOf (x.library.filter (fun e => !((SMap.find p.library e.1).any (fun k => k.like e.2)))) x.table
    | none => 0
  residentOf p.library p.table + extra

/-! ### The group's other members -/

/-- Whether a lane has a program. -/
def Dev.hasProgram (d : Dev) (l : Nat) : Bool := domLength (d.val (Obj.laneProgram l)) != 0
/-- Shots of the other members' programs, with their lane (R115, R129). -/
def Dev.otherShots (d : Dev) (m : Mem) (p : Plan) : List (Nat × ShotPath) :=
  if 64 ≤ p.group then []
  else
    let others := allLanes.filter (fun o => o != p.lane && d.val (Obj.laneShotGroup o) = p.group && d.hasProgram o)
    (others.map (fun o => ((d.paths (d.planWith m o d.val (some (d.drill o).image))).2).map (fun s => (o, s)))).flatten

/-! ### Windows of decisions (R129, R233, R492) -/

/-- Windows among acts: slot, end. -/
def winsOf (acts : List Act) : List (Nat × Nat) :=
  acts.filterMap (fun a => match a with
    | .win s _ e => some (s, e)
    | _ => none)
/-- The window end of a decision's source at or before a time; none without a window. -/
def Dev.decWindow (d : Dev) (wins : List (Nat × Nat)) (t kind source : Nat) : Option Nat :=
  let feeds := d.feeds (fabricOf kind source)
  let ends := feeds.map (fun f =>
    if f.1 then
      let o := bits (d.val (Obj.fbRemoteIn f.2)) 63 32
      if o ≤ t then some o else none
    else
      let es := (wins.filter (fun w => w.1 = f.2 && w.2 ≤ t)).map Prod.snd
      if es.isEmpty then none else some (es.foldl max 0))
  if ends.isEmpty || ends.any Option.isNone then none else some ((ends.map (fun e => e.getD 0)).foldl max 0)
/-- When a decision's verdict is confirmed at the lane, in ticks from *T*ₛ (R101): 140 ticks after a slot's window end, 60 more through a cell or
table, and for a remote register the hop of Table 9-9, 1,420 ticks after the window end, 60 more when the peer exports a cell or code. -/
def Dev.decConfirmed (d : Dev) (wins : List (Nat × Nat)) (t kind source : Nat) : Option Nat :=
  (d.decWindow wins t kind source).map (fun e =>
    (d.feeds (fabricOf kind source)).foldl (fun b f =>
      if f.1 then
        let v := d.val (Obj.fbRemoteIn f.2)
        max b (bits v 63 32 + 1420 + (if 1024 ≤ bits v 10 0 then 60 else 0))
      else b) (if (d.feeds (fabricOf kind source)).all (fun f => f.1) then 0 else e + (if kind = 0 then 140 else 200)))
/-- Remote registers that feed a source. -/
def Dev.remotes (d : Dev) (kind source : Nat) : List Nat :=
  (d.feeds (fabricOf kind source)).filterMap (fun f => if f.1 then some f.2 else none)

/-! ### Check 8 (R100, R101, R119, R216, R387, R493) -/

/-- Arrival allowance of a channel in ticks (R387, R401): none when its port is not active. -/
def Dev.arrival (d : Dev) (ch : Nat) : Option Nat :=
  let ports := (List.range 4).filter (fun q => (List.range 32).any (fun j => d.val (Obj.ggEventIn q j) = ch))
  if ports.any (fun q => !(d.portActive q)) then none
  else some ((ports.map (fun q =>
    let rate := d.val (Obj.ggRate q)
    if rate = 4 then 1500 else if rate = 3 then 3000 else if rate = 2 then 7500 else 30000)).foldl max 200)
/-- Planned lead of a class in a strip, with stages that R119 adds. -/
def Dev.leadFor (d : Dev) (k cls extra : Nat) : Nat :=
  let w := SMap.look d.ageing.planWorst k 0
  if extra = 0 then d.val (Obj.stripLeadPlan k cls)
  else max 1 (ceilDiv ((leadClass cls).1 * planUnit + ((leadClass cls).2 + extra) * (115 * w)) (64000 * planUnit))

/-- Where the offered lead is counted from as a shot's acts go by: the latest event, ends of earlier spans per alternate slot. -/
structure LeadAt where
  earliest : Int
  spans : SMap Int
  fails : List (Nat × Nat)
  /-- Class, offered lead. -/
  found : List (Nat × Nat)
  spec : Option Nat

/-- Shots that may come just before one on a path. -/
def ShotPath.before (s : ShotPath) (shots : List ShotPath) : List ShotPath :=
  match s.after with
  | some b => shots.filter (fun x =>
      x.begin' = b.begin' && x.loops = b.loops && x.calls = b.calls && x.stop = b.stop && x.cls = b.cls && x.block.isNone)
  | none => []
/-- Shots of two members that can be the same shot of their group, so many shots on: the first of both, and from there one on for each. -/
def alongside (mine others : List ShotPath) : Nat → List (ShotPath × ShotPath) → List (ShotPath × ShotPath)
  | 0, ps => ps
  | n + 1, ps =>
    let more := (mine.map (fun x => (others.filter (fun y =>
      (x.before mine).any (fun u => (y.before others).any (fun v => ps.contains (u, v))))).map (fun y => (x, y)))).flatten
    alongside mine others n (ps ++ more.filter (fun q => !(ps.contains q)))
/-- The least planned lead, among the group's other members, of the class in which a member's previous shot ends (R493): per shot of the
program, over the shots that the member may be in while this lane is in the one before it. -/
def Dev.leastLeads (d : Dev) (shots : List ShotPath) (others : List (Nat × ShotPath)) : List (ShotPath × Nat) :=
  let pairs := ((others.map Prod.fst).eraseDups).map (fun o =>
    let theirs := (others.filter (fun x => x.1 = o)).map Prod.snd
    let first := ((shots.filter (fun s => s.after.isNone)).map (fun s => (theirs.filter (fun y => y.after.isNone)).map (fun y => (s, y)))).flatten
    (o, alongside shots theirs (shots.length * theirs.length) first))
  shots.map (fun s =>
    let mine := s.before shots
    (s, ((pairs.map (fun o => (o.2.filter (fun q => mine.contains q.1)).map (fun q => d.val (Obj.stripLeadPlan (stripOf o.1) q.2.cls)))).flatten).foldl
      min 255))

/-- Offered lead of a stamp (R101, R117). -/
def offeredLead (horizon : Nat) (stamp earliest : Int) : Int := min ((stamp - earliest) / 64) (min (horizon / 64 : Nat) 128)

/-- One act's part in check 8. -/
def Dev.leadAct (d : Dev) (p : Plan) (wins : List (Nat × Nat)) (x : LeadAt) : Act → LeadAt
  | .play t a _ _ n slot urgent extra cls stream =>
    let held := fun (i : Nat) => x.spec.any (fun b => b ≤ t + 64 * i && t + 64 * i < b + 1024)
    let skip := if p.mode = modeStrict && slot.isSome then n
      else ((List.range (min n 17)).find? (fun i => !(urgent && i = 0) && !(held i && slot.isNone))).getD n
    if n ≤ skip then x
    else
      let from' := match slot.bind (fun k => SMap.find x.spans k) with
        | some e => max x.earliest e
        | none => x.earliest
      let lead := offeredLead p.horizon ((t + 64 * skip : Nat) : Int) from'
      let classes := if stream then [cls, 2] else [cls]
      let k := stripOf p.lane
      let short := classes.any (fun c => lead < (d.leadFor k c (if skip = 0 then extra else 0) : Nat))
      { x with fails := x.fails ++ failIf short 8 a, found := x.found ++ classes.map (fun c => (c, lead.toNat)) }
  | .dec t _ kind source alt spec =>
    if alt then x
    else match d.decConfirmed wins t kind source with
      | some e => { x with earliest := max x.earliest (e : Int), spec := if spec then some t else x.spec }
      | none => x
  | .sync time chan a =>
    match chan with
    | none => { x with earliest := max x.earliest (time + 200) }
    | some ch => match d.arrival ch with
      | some al => { x with earliest := max x.earliest (time + (al : Nat)) }
      | none => { x with fails := x.fails ++ [(8, a)] }
  | .close slots stop => { x with spans := slots.foldl (fun m k => SMap.set m k (stop : Int)) x.spans }
  | _ => x

/-- Check 8 of one shot: `least` is the smallest planned lead that ends another member's previous shot (R493); the lane's own previous shot
is that of the path; alternate spans of earlier shots still count for their slots (R216). -/
def Dev.leads (d : Dev) (p : Plan) (least : Nat) (wins : List (Nat × Nat)) (ends : List Nat) (s : ShotPath) : LeadAt :=
  let lead := match s.after with
    | none => 128
    | some b => min least (d.val (Obj.stripLeadPlan (stripOf p.lane) b.cls))
  let start : Option Int :=
    if s.mode = 1 then (d.arrival s.chan).map (fun al => (al : Int) - (64 * s.gap : Nat))
    else some (-((64 * (s.gap + lead) : Nat) : Int))
  let spans := match s.after with
    | none => []
    | some b => b.spans.map (fun x =>
        (x.1, (x.2.1 : Int) - ((((s.mode, s.gap, b.stop) :: x.2.2).map (fun y => separation y.1 y.2.1 y.2.2 ends)).sum : Nat)))
  let init : LeadAt := { earliest := start.getD 0, spans := spans, fails := failIf start.isNone 8 s.begin', found := [], spec := none }
  s.acts.foldl (d.leadAct p (winsOf s.acts ++ wins)) init

/-! ### Check 9 (R102, R129–R131, R219, R220, R233) -/

/-- Minimum of a deadline in ticks (Tables 5-11, 9-5); none when refused. -/
def Dev.minimum (d : Dev) (mode kind source : Nat) (alt spec : Bool) : Option Nat :=
  let rs := d.remotes kind source
  let peer := if rs.any (fun r => 1024 ≤ bits (d.val (Obj.fbRemoteIn r)) 10 0) then 60 else 0
  if rs.isEmpty then
    let base := if spec then (if mode = modeProvisional then some 200 else none) else if alt && mode != modeStrict then some 200 else some 320
    base.map (fun b => if kind = 0 then b else b + 60)
  else if spec then none
  else some ((if alt && mode != modeStrict then 1480 else 1600) + peer)
/-- Whether a remote register may feed a decision of a lane (R233). -/
def Dev.remoteOk (d : Dev) (p : Plan) (r : Nat) : Bool :=
  let v := d.val (Obj.fbRemoteIn r)
  bit v 13 && bits v 25 20 = p.group && bits v 17 14 = p.part && d.portActive (bits v 12 11) && d.val (Obj.ggRate (bits v 12 11)) = 4

/-- Check 9 on an instruction that may not speculate: Speculate = 1 in a mode other than provisional, on a condition of any kind (R131). -/
def Plan.check9 (p : Plan) : List (Nat × Nat) :=
  if p.mode = modeProvisional then []
  else (p.addrs.map (fun a => match p.op a with
    | some (.branch _ _ _ _ _ spec _ _) => failIf spec 9 a
    | some (.watch _ _ _ _ _ spec _ _) => failIf spec 9 a
    | _ => [])).flatten
/-- The items that R220 bars: those placed after a speculative branch of the path and in effect in its 16 granules. -/
def barredPoints (acts : List Act) : List (Nat × Nat) :=
  (acts.foldl (fun (x : List Nat × List (Nat × Nat)) a => match a with
    | .dec t _ _ _ false true => (t :: x.1, x.2)
    | .point t addr => (x.1, x.2 ++ failIf (x.1.any (fun b => b ≤ t && t < b + 1024)) 9 addr)
    | _ => x) ([], [])).2
/-- Check 9 of one shot. -/
def Dev.check9 (d : Dev) (p : Plan) (slow : Bool) (wins : List (Nat × Nat)) (s : ShotPath) : List (Nat × Nat) :=
  let wins := winsOf s.acts ++ wins
  (s.acts.map (fun a => match a with
    | .dec t addr kind source alt spec =>
      let late := match d.minimum p.mode kind source alt spec, d.decWindow wins t kind source with
        | some least, some e => decide (t < e + least)
        | _, _ => true
      failIf (slow || late || (d.remotes kind source).any (fun r => !(d.remoteOk p r))) 9 addr
    | _ => [])).flatten ++ barredPoints s.acts

/-! ### Check 10 (R148, R153, R173, R318) -/

/-- Shortest separation of a shot from the next like it (R153, R251). -/
def ShotPath.separation (s : ShotPath) (ends : List Nat) : Nat := Machine.separation s.mode s.gap s.stop ends

/-- Streamed granules of a shot: time and one each. -/
def ShotPath.streamNeeds (s : ShotPath) : List (Int × Nat) :=
  (s.acts.map (fun a => match a with
    | .play t _ _ _ n _ _ _ _ true => (List.range n).map (fun i => (((t + 64 * i : Nat) : Int), 1))
    | _ => [])).flatten
/-- Program lines a shot needs. -/
def ShotPath.lineNeeds (s : ShotPath) : List (Int × Nat) :=
  s.acts.filterMap (fun a => match a with
    | .lines n t => some (t, n)
    | _ => none)
/-- Waveforms streamed in a shot, in order. -/
def ShotPath.streamed (s : ShotPath) : List Nat :=
  s.acts.filterMap (fun a => match a with
    | .play _ _ w _ _ _ _ _ _ true => some w
    | _ => none)
/-- Shots of a program, each `shot.begin` once, in the order in which a path first comes to them. -/
def firstShots : List Nat → List ShotPath → List ShotPath
  | _, [] => []
  | seen, s :: rest => if seen.contains s.begin' then firstShots seen rest else s :: firstShots (s.begin' :: seen) rest
/-- The streamed sequence of a program: its shots' sequences, each `shot.begin` once (R153; log entry 28). -/
def streamOrder (shots : List ShotPath) : List Nat := ((firstShots [] shots).map ShotPath.streamed).flatten
/-- Where each `shot.begin` stands in the streamed sequence, and its granules there. -/
def streamSections (len : Nat → Nat) : Nat → List ShotPath → List (Nat × Nat × Nat)
  | _, [] => []
  | at', s :: rest =>
    let n := (s.streamed.map len).sum
    (s.begin', at', n) :: streamSections len (at' + n) rest

/-! #### The supply test (R153) -/

/-- Needs up to a time, both in a list of (time, count). -/
def upTo (needs : List (Int × Nat)) (v : Int) : Nat := ((needs.filter (fun n => n.1 ≤ v)).map Prod.snd).sum
/-- A supply: 10^4 times an item's bytes, MB/s, and buffer items. -/
structure Supply where
  size : Nat
  rate : Nat
  buffer : Nat
/-- What is owed at a time of a shot whose start finds `owed` owed: needs less what the rate has brought. -/
def Supply.owedAt (u : Supply) (needs : List (Int × Nat)) (owed v : Int) : Int := owed + (u.size * upTo needs v : Nat) - u.rate * v
/-- The most owed at the start of the next shot, a separation later, counted from any need of this one, or from before it. -/
def Supply.carry (u : Supply) (needs : List (Int × Nat)) (owed : Int) (sep : Nat) : Int :=
  (needs.map (fun n => ((u.size * ((needs.filter (fun m => n.1 ≤ m.1)).map Prod.snd).sum : Nat) : Int) - u.rate * ((sep : Int) - n.1))).foldl max
    (u.owedAt needs owed sep)
/-- Whether a shot's needs are met: since any earlier need (`run`) the buffer bridges what is owed, and since the first join (`owed`) nothing
is. -/
def Supply.meets (u : Supply) (needs : List (Int × Nat)) (run owed : Int) : Bool :=
  needs.all (fun b =>
    u.owedAt needs run b.1 ≤ (u.size * u.buffer : Nat) && u.owedAt needs owed b.1 ≤ 0
      && needs.all (fun a => b.1 < a.1
          || decide (((u.size * ((needs.filter (fun n => a.1 ≤ n.1 && n.1 ≤ b.1)).map Prod.snd).sum : Nat) : Int)
            ≤ (u.size * u.buffer : Nat) + u.rate * (b.1 - a.1))))

/-- One round over the shots: what each may owe at its start, since some need and since the first join, from what those before it pass on. -/
def Supply.round (u : Supply) (needs : ShotPath → List (Int × Nat)) (shots : List ShotPath) (ends : List Nat) (at' : List (ShotPath × Int × Int)) :
    List (ShotPath × Int × Int) :=
  at'.map (fun x =>
    let from' := (x.1.before shots).filterMap (fun b => (at'.find? (fun y => y.1 = b)).map (fun y =>
      let sep := Machine.separation x.1.mode x.1.gap b.stop ends
      (u.carry (needs b) y.2.1 sep, u.owedAt (needs b) y.2.2 sep)))
    (x.1, from'.foldl (fun m y => max m y.1) x.2.1, from'.foldl (fun m y => max m y.2) x.2.2))
/-- So many rounds. -/
def Supply.rounds (u : Supply) (needs : ShotPath → List (Int × Nat)) (shots : List ShotPath) (ends : List Nat) :
    Nat → List (ShotPath × Int × Int) → List (ShotPath × Int × Int)
  | 0, x => x
  | k + 1, x => u.rounds needs shots ends k (u.round needs shots ends x)
/-- The shots whose needs the supply does not meet on some sequence of shots (R153): consecutive shots at their shortest separations, the first
join 8,192 ticks before the run origin. A shot at which more is owed round after round is one of them. -/
def Supply.fails (u : Supply) (needs : ShotPath → List (Int × Nat)) (shots : List ShotPath) (ends : List Nat) : List Nat :=
  let lead := fun (s : ShotPath) => 8192 + (if s.mode = 0 then 64 * s.gap else 0)
  let start := shots.map (fun s => (s, (0 : Int), if s.after.isNone then -((u.rate * lead s : Nat) : Int) else -(2 ^ 80 : Int)))
  let last := u.rounds needs shots ends (shots.length + 1) start
  let next := u.round needs shots ends last
  ((last.zip next).filter (fun p => !(needs p.1.1).isEmpty && (p.1.2 != p.2.2 || !(u.meets (needs p.1.1) p.1.2.1 p.1.2.2)))).map (fun p => p.1.1.begin')

/-- Check 10: `old` is what has to stay resident beside the program's (R147). -/
def Plan.check10 (p : Plan) (old : Option Image) (shots : List ShotPath) (ends : List Nat) : List (Nat × Nat) :=
  let streamed := p.plays.filter (fun x => p.streams x.2)
  let leaves := fun (r : Nat × Nat) => (p.op r.1).any (fun o => match o with
      | .loop true _ _ => true
      | _ => false)
    || p.addrs.any (fun a => r.1 < a && a < r.2 && (p.op a).any (fun o => match o with
      | .branch _ _ _ _ _ _ _ t | .watch _ _ _ _ _ _ _ t => t ≤ r.1 || r.2 < t
      | _ => false))
  failIf (14563 - p.buffer < p.resident old) 10 (if p.segs.isEmpty then 0 else p.segs.head?.getD 0)
    ++ (streamed.map (fun x =>
        failIf (p.rate = 0 || p.buffer < 64 || p.bales.contains x.2 || p.ranges.any (fun r => r.1 < x.1 && x.1 < r.2 && leaves r)) 10 x.1)).flatten
    ++ failIf (p.tableWaves.any (fun w => p.streams w)) 10 (p.segs.head?.getD 0)
    ++ failIf (3640 < p.length && p.fetchRate = 0) 10 0
    ++ (shots.map (fun s => failIf (shots.any (fun x => x.begin' = s.begin' && x.streamed != s.streamed)) 10 s.begin')).flatten
    ++ ((Supply.fails { size := 180000, rate := p.rate, buffer := p.buffer } ShotPath.streamNeeds shots ends).map (fun a => (10, a)))
    ++ (if p.length ≤ 3640 then []
        else (Supply.fails { size := 5760000, rate := p.fetchRate, buffer := 56 } ShotPath.lineNeeds shots ends).map (fun a => (10, a)))

/-! ### Check 11 (R251) -/

/-- Estimates of a list of acts by time (R240, R242): the larger alternative at each position, and in a speculative span the larger of the
paths that pass the branch. -/
def Dev.pathEnergy (d : Dev) (p : Plan) (shots : List ShotPath) (acts : List Act) : List (Nat × Nat × Nat) :=
  let gain := d.val (Obj.laneDigitalGain p.lane)
  let granules := fun (acts : List Act) => (acts.map (fun a => match a with
    | .play t addr w amp n _ _ _ _ _ =>
      let e := estimate ((SMap.find p.library w).map LibEntry.peak |>.getD 0) amp gain
      (List.range n).map (fun i => (t + 64 * i, e, addr))
    | _ => [])).flatten
  let branches := fun (acts : List Act) => acts.filterMap (fun a => match a with
    | .dec t addr _ _ false true => some (t, addr)
    | _ => none)
  let spans := branches acts
  let inSpan := fun (b g : Nat) => decide (b ≤ g) && decide (g < b + 1024)
  let own := (granules acts).filter (fun g => !(spans.any (fun b => inSpan b.1 g.1)))
  let others := (spans.map (fun b =>
    ((shots.filter (fun s => (branches s.acts).contains b)).map (fun s =>
      ((granules s.acts).filter (fun g => inSpan b.1 g.1)).map (fun g => (g.1, g.2.1, b.2)))).flatten)).flatten
  let all := own ++ others
  ((all.map (fun g => g.1)).eraseDups).filterMap (fun t =>
    (all.filter (fun g => g.1 = t)).foldl (fun best g => match best with
      | some b => if b.2.1 < g.2.1 then some g else some b
      | none => some g) none)

/-- Whether energies at times, repeated with a period, pass a ceiling in some run of a span; the grain of one that does. -/
def overCeiling (es : List (Nat × Nat × Nat)) (period span ceiling : Nat) : Option Nat :=
  let folded := es.map (fun e => (e.1 % period, e.2.1, e.2.2))
  let twice := folded ++ folded.map (fun e => (e.1 + period, e.2.1, e.2.2))
  let whole := span / period * (folded.map (fun e => e.2.1)).sum
  (folded.find? (fun a =>
    ceiling < whole + ((twice.filter (fun e => a.1 ≤ e.1 && e.1 < a.1 + span % period)).map (fun e => e.2.1)).sum)).map (fun a => a.2.2)

/-- What one shot of a program holds for check 11: energies at times, and those of the block it repeats without end. -/
structure ShotEnergy where
  own : List (Nat × Nat × Nat)
  block : List (Nat × Nat × Nat)
  period : Nat
/-- Energy of a shot from a time of it on, and before another: of a block, the rounds that follow those in the shot's acts too. -/
def ShotEnergy.within (x : ShotEnergy) (from' to' : Nat) : Nat :=
  ((x.own.filter (fun e => from' ≤ e.1 && e.1 < to')).map (fun e => e.2.1)).sum
    + (if x.period = 0 then 0 else (x.block.map (fun e => e.2.1 * ((to' - e.1 - 1) / x.period))).sum)
/-- The most that runs of a span hold which have come to a shot: `at'` has shot, how far into the run it begins, and the energy up to the
run's end if the run ends in it; `next` gives the shots after one with their separations, `start` the energy of a shot from its start on. -/
def mostHeld (next : Nat → List (Nat × Nat)) (start : Nat → Nat → Nat) (span : Nat) : Nat → List (Nat × Nat × Nat) → Nat
  | 0, at' => (at'.map (fun x => x.2.2)).foldl max 0
  | n + 1, at' =>
    if at'.isEmpty then 0
    else
      let on := (at'.map (fun x => (next x.1).filterMap (fun j =>
        let t := x.2.1 + j.2
        if t < span then some (j.1, t, x.2.2 - start x.1 (span - x.2.1) + start x.1 j.2 + start j.1 (span - t)) else none))).flatten
      let merged := on.foldl (fun (m : List (Nat × Nat × Nat)) y =>
        match m.find? (fun z => z.1 = y.1 && z.2.1 = y.2.1) with
        | some z => if z.2.2 < y.2.2 then y :: m.filter (fun w => !(w.1 = y.1 && w.2.1 = y.2.1)) else m
        | none => y :: m) []
      max ((at'.map (fun x => x.2.2)).foldl max 0) (mostHeld next start span n merged)

/-- The shots after each on a path, by number, at their shortest separations. -/
def successors (shots : List ShotPath) (ends : List Nat) (i : Nat) : List (Nat × Nat) :=
  match shots[i]? with
  | none => []
  | some s => (List.range shots.length).filterMap (fun j => (shots[j]?).bind (fun x =>
      if (x.before shots).contains s then some (j, separation x.mode x.gap s.stop ends) else none))

/-- The granule from which a run of a span passes a ceiling: in a shot repeated to fill the span, in a block repeated without end, or over the
shots that follow on a path (R251). -/
def overIn (all : List ShotEnergy) (next : Nat → List (Nat × Nat)) (i : Nat) (x : ShotEnergy) (again : Option Nat) (span ceiling : Nat) : Option Nat :=
  let start := fun (k to' : Nat) => ((all[k]?).map (fun y => y.within 0 to')).getD 0
  let repeated := match again with
    | some sep => overCeiling x.own sep span ceiling
    | none => if x.period = 0 then none else overCeiling x.block x.period span ceiling
  match repeated with
  | some a => some a
  | none =>
    let others := (next i).filter (fun j => j.1 != i || 1 < (next i).length)
    (x.own.find? (fun g =>
      let first := others.filterMap (fun j =>
        if j.2 < g.1 + span then some (j.1, j.2 - g.1, x.within g.1 j.2 + start j.1 (g.1 + span - j.2)) else none)
      ceiling < max (x.within g.1 (g.1 + span)) (mostHeld next start span (span / 64 + 1) first))).map (fun g => g.2.2)

/-- Check 11 (R251): each shot alone, repeated and in sequence, for the lane's and the stages' ceilings. -/
def Dev.check11 (d : Dev) (p : Plan) (shots : List ShotPath) (ends : List Nat) : List (Nat × Nat) :=
  let val := fun k => if (d.energy.ceilingValid && d.energy.profileValid) || !isCeiling k then d.val k else 0
  let estimates := shots.map (fun s => (d.pathEnergy p shots s.acts, s.block.map (fun b => (d.pathEnergy p shots b.1, b.2))))
  let next := successors shots ends
  ((List.range 3).map (fun w =>
    let span := bucketTicks w * windowBuckets w
    ((List.range 5).map (fun q =>
      let ceiling := if q = 0 then val (laneCeilingKey w p.lane) else val (stageCeilingKey (q - 1) w)
      if ceiling = noLimit then []
      else
        let joule := fun (es : List (Nat × Nat × Nat)) => es.map (fun e =>
          let x := lineEnergy val (d.val (Obj.laneFullScale p.lane)) p.lane e.2.1
          (e.1, if q = 0 then x else stageEnergy val p.lane (q - 1) x, e.2.2))
        let all := estimates.map (fun e =>
          ({ own := joule e.1, block := (e.2.map (fun b => joule b.1)).getD [], period := (e.2.map Prod.snd).getD 0 } : ShotEnergy))
        ((List.range shots.length).zip (shots.zip all)).filterMap (fun x =>
          if (x.2.2.own.map (fun e => e.2.1)).sum = 0 then none
          else (overIn all next x.1 x.2.2 (if x.2.1.block.isNone then some (x.2.1.separation ends) else none) span ceiling).map (fun a => (11, a))))).flatten)).flatten

/-! ### The whole loader (R137, R138, R164) -/

/-- Check 12: a shot longer than its period; an endless one always is. -/
def ShotPath.check12 (s : ShotPath) : List (Nat × Nat) := failIf (s.mode = 2 && (64 * s.gap < s.stop || s.block.isSome)) 12 s.begin'

/-- What loading a program finds: the first failed check, its shots, and the smallest offered lead per class (R426). -/
structure Loaded where
  failure : Option (Nat × Nat)
  /-- Every failed check with its grain. -/
  errs : List (Nat × Nat)
  plan : Plan
  shots : List ShotPath
  offered : List (Nat × Nat)

/-- Checks 3 to 12 of a plan: `old` is what has to stay resident beside its own. -/
def Dev.loadPlan (d : Dev) (m : Mem) (p : Plan) (old : Option Image) (early : List (Nat × Nat)) : Loaded :=
  let first := early ++ p.check3 ++ p.tableFaults
  if !first.isEmpty then { failure := firstFailure first, errs := first, plan := p, shots := [], offered := [] }
  else
    let traced := d.paths p
    let shots := traced.2
    let others := d.otherShots m p
    let wins := (others.map (fun o => winsOf o.2.acts)).flatten
    let ends := ((others.map Prod.fst).eraseDups).map (fun o =>
      (((others.filter (fun x => x.1 = o)).map (fun x => x.2.stop)).foldl (fun b e => match b with
        | some y => some (min y e)
        | none => some e) none).getD 0)
    let k := stripOf p.lane
    let led := (d.leastLeads shots others).map (fun s => d.leads p s.2 wins ends s.1)
    let found := (led.map LeadAt.found).flatten
    let short := (led.map LeadAt.fails).flatten
    let horizon := if short.isEmpty then failIf (found.any (fun c => p.horizon < 64 * d.val (Obj.stripLeadPlan k c.1))) 8 0 else short
    let slow := planTooSlow (SMap.look d.ageing.planWorst k 0)
    let errs := traced.1 ++ d.check6 p ++ failIf (d.checkGroup p.lane p.group) 6 0 ++ p.check7 ++ horizon
      ++ p.check9 ++ (shots.map (d.check9 p slow wins)).flatten ++ p.check10 old shots ends ++ d.check11 p shots ends
      ++ (shots.map ShotPath.check12).flatten
    { failure := firstFailure errs, errs := errs, plan := p, shots := shots
      offered := (List.range 4).filterMap (fun c =>
        let ls := (found.filter (fun f => f.1 = c)).map Prod.snd
        if ls.isEmpty then none else some (c, ls.foldl min 128)) }

/-- The loader on a program group's values, on what the strip has loaded of them or on DDR5: an empty image is held to R116 alone (R21). -/
def Dev.loadProgram (d : Dev) (m : Mem) (l : Nat) (val : Nat → Nat) (held old : Option Image) : Loaded :=
  let p := d.planWith m l val held
  let bytes := match held with
    | some x => (x.grains.map (leBytes 9)).flatten
    | none => d.domBytes m p.block
  if domLength p.block = 0 then
    let errs := failIf (d.checkGroup l p.group) 6 0
    { failure := firstFailure errs, errs := errs, plan := p, shots := [], offered := [] }
  else if !(headerOk bytes) then { failure := some (1, 0), errs := [(1, 0)], plan := p, shots := [], offered := [] }
  else d.loadPlan m p old p.check2

/-- LaneLoadError of a failed check (R137). -/
def loadErrorWord (f : Nat × Nat) : Nat := f.1 * 2 ^ 24 + f.2 % 2 ^ 20

/-- A lane's stores with a program in force (R110, R146, R153, R167, R426). -/
def Dev.installPlan (d : Dev) (x : Loaded) : Dev :=
  let p := x.plan
  let l := p.lane
  let r := d.drill l
  let d := d.setDrill l
    { r.emptyStream with mode := p.mode, length := p.length, entry := p.entry, grains := p.grains, table := p.table, library := p.library
                         streamSeq := streamOrder x.shots, streamSecs := streamSections p.len 0 (firstShots [] x.shots), next := none }
  let d := (d.dropRefill l).put (Obj.laneResidentUsed l) (p.resident none)
  let offered := (List.range 4).foldl (fun m c => SMap.del m (4 * l + c)) d.ageing.offered
  { d with ageing := { d.ageing with offered := x.offered.foldl (fun m o => SMap.set m (4 * l + o.1) o.2) offered } }

/-- The values a group's commit would bring: its own fields as staged, all others as in force. -/
def Dev.groupVal (d : Dev) (k : GKind) (n key : Nat) : Nat :=
  if memberOf (keyIndex key) (keySub key) = some (k, n) then d.stagedVal key else d.val key

/-- What a program commit loads on chip (R12, R146, R147): the image, the table, and the entries not resident yet; until the boundary an old
program's stay beside it. -/
def Dev.loadImage (d : Dev) (m : Mem) (l : Nat) (shot : Bool) : Dev :=
  let p := d.planWith m l (d.groupVal .program l) none
  let r := d.drill l
  (d.setDrill l { r with next := some { grains := p.grains, table := p.table, library := p.library } }).put (Obj.laneResidentUsed l)
    (p.resident (if shot then some r.image else none))

end Sys2Proof.Machine
end

