-- ==== Sys2Proof/Machine/Checks.lean ====
section
/-! DEFINITION. The group checks of R28, chapter by chapter: what a staging buffer is refused for with 0xA0000009. -/

namespace Sys2Proof.Machine

/-! ### Ranges -/

/-- The staged fields of a group. -/
def Dev.stagedKeys (d : Dev) (k : GKind) (n : Nat) : List Nat :=
  (d.staged.map Prod.fst).filter (fun x => memberOf (keyIndex x) (keySub x) = some (k, n))
/-- Staged values within the ranges their tables give (log entry 8). -/
def Dev.rangesOk (d : Dev) (k : GKind) (n : Nat) : Bool :=
  (d.stagedKeys k n).all (fun x => (rowAt (keyIndex x) (keySub x)).all (fun r => r.group.ok (d.stagedVal x)))
/-- The partition of a path by its number (Table 2-6). -/
def pathPart (number : Nat) : Nat := if number ≤ 8 then number else 0
/-- Staged blocks lie in regions their writer's partition owns when the commit is accepted (R21, R281). -/
def Dev.blocksOk (d : Dev) (k : GKind) (n : Nat) : Bool :=
  (d.stagedKeys k n).all (fun x => (rowAt (keyIndex x) (keySub x)).all (fun r =>
    r.ty != .domain || d.domainAbort (pathPart (((SMap.find d.staged x).map Prod.snd).getD 0)) (d.stagedVal x) = 0))

/-! ### Device and time (R59, R84) -/

/-- Owner codes of a map of staged words. -/
def codesOf (words : List Nat) : List Nat := (words.map (fun w => (List.range 16).map (fun i => bits w (4 * i + 3) (4 * i)))).flatten
/-- R59: no unit assigned to a partition that is left disabled. DESIGN CHOICE: the units are those the five maps of Table 2-7 assign
(log entry 52). -/
def Dev.deviceOk (d : Dev) : Bool :=
  let en := d.stagedVal Obj.devPartitionsEnabled
  let maps := keysFrom (Obj.partLaneMap 0) 32 ++ keysFrom (Obj.partInputMap 0) 4 ++ keysFrom (Obj.partEventMap 0) 8 ++ keysFrom (Obj.partCellMap 0) 16
  let codes := codesOf (maps.map d.stagedVal) ++ (codesOf [d.stagedVal Obj.partTableMap]).take 4
  codes.all (fun c => c = 0 || 8 < c || bit en c)
/-- R84. -/
def Dev.timeOk (d : Dev) : Bool :=
  let roles := (List.range 4).map (fun p => d.stagedVal (Obj.ptpPortRole p))
  let slaves := (roles.filter (fun r => r = 2)).length
  let id := d.stagedVal Obj.ptpClockIdentity
  slaves ≤ 1 && !(slaves = 1 && roles.contains 1) && d.stagedVal Obj.timeServoIntLimit ≤ 2 ^ 30 && id != 0 && id != allOnes64

/-! ### Read-out (R176, R201) -/

/-- Whether a slot frequency lies in the band of a zone (Table 8-1), bounds included; the word is in 2^-48 of 10 GHz. -/
def inBand (zone f : Nat) : Bool := (25 * zone - 24) * 2 ^ 48 ≤ 100 * f && 100 * f ≤ (25 * zone - 1) * 2 ^ 48
/-- R199: the zone keeps every slot with a window in its band. -/
def Dev.inputOk (d : Dev) (i : Nat) : Bool :=
  (List.range 16).all (fun j =>
    let s := 16 * i + j
    d.val (Obj.slotWindowLength s) = 0 || inBand (d.stagedVal (Obj.inputZone i)) (d.val (Obj.slotFreq s)))
/-- R187, R201: exactly four bytes of kernel for each window sample, in a region of the slot's owner (R310), and the slot frequency in band. -/
def Dev.kernelOk (d : Dev) (s : Nat) : Bool :=
  let len := d.stagedVal (Obj.slotWindowLength s)
  let k := d.stagedVal (Obj.slotKernel s)
  domLength k = 4 * len && (len = 0 || inBand (d.val (Obj.inputZone (s / 16))) (d.val (Obj.slotFreq s)))
    && (len = 0 || d.reach (actsFor (d.inputOwner (s / 16))) (domRegion k) (domOffset k) (domLength k))
/-- R201: no enabled boundary with a zero normal, φ at most 0x8000, and the frequency in band. -/
def Dev.discOk (d : Dev) (s : Nat) : Bool :=
  let en := d.stagedVal (Obj.slotBoundaryEnable s)
  (List.range 3).all (fun i => !(bit en i) || d.stagedVal (Obj.slotBoundaryNormal s i) != 0)
    && (List.range 64).all (fun q => bits (d.stagedVal (Obj.slotMargin s q)) 55 40 ≤ 0x8000)
    && (d.val (Obj.slotWindowLength s) = 0 || inBand (d.val (Obj.inputZone (s / 16))) (d.stagedVal (Obj.slotFreq s)))

/-! ### Cells and tables (R235) -/

/-- Every input a cell uses belongs to the cell's owner. -/
def Dev.cellOk (d : Dev) (c : Nat) : Bool :=
  (List.range 8).all (fun k =>
    let code := bits (d.stagedVal (Obj.cellInput c k)) 11 0
    let src := codeSource code
    code = 0xFFF || d.cellOwner c = (if src.1 then bits (d.val (Obj.fbRemoteIn src.2)) 17 14 else d.inputOwner (src.2 / 16)))
/-- Every addressed cell belongs to the table's owner, and an enabled table has 65,536 codes in a region of its owner. -/
def Dev.tableOk (d : Dev) (x : Nat) : Bool :=
  let n := d.stagedVal (Obj.tableBitCount x)
  let v := d.stagedVal (Obj.tableContent x)
  n ≤ 16
    && (List.range n).all (fun j => d.cellOwner (bits (d.stagedVal (Obj.tableAddressCells x (j / 8))) (8 * (j % 8) + 7) (8 * (j % 8))) = d.tableOwner x)
    && (n = 0 || domLength v = 65536) && (domLength v = 0 || d.reach (actsFor (d.tableOwner x)) (domRegion v) (domOffset v) (domLength v))

/-! ### Energy and bias (R237, R252, R263) -/

/-- R252: whether a step and an interval, in units of 100 ns, stay within a bias profile. *P*_bias in W is
`L × 10^-9 × (5 / R) × (s × 10 / 2^18) / (R × τ)`. -/
def biasPowerOk (profile step interval : Nat) : Bool :=
  let l := bits profile 15 0
  let r := bits profile 31 16
  let p := bits profile 63 32
  l = 0 || l * 5 * step * 10 * 10 ^ 10 ≤ p * r * r * interval * 2 ^ 18
/-- R237, R252, Table 10-2: the profile of a lane, under the step and interval its bias output has. -/
def Dev.profileOk (d : Dev) (l : Nat) : Bool :=
  let f := d.stagedVal (perLane Obj.energyStageFractions l)
  let b := d.stagedVal (perLane Obj.energyBiasProfile l)
  d.stagedVal (perLane Obj.energyPinFactor l) ≤ 0x8000
    && bits f 15 0 + bits f 31 16 + bits f 47 32 + bits f 63 48 ≤ 0x8000
    && (bits b 15 0 = 0 || 1000 ≤ bits b 31 16)
    && biasPowerOk b (d.val (Obj.biasStep l)) (d.val (Obj.biasInterval l))
/-- Lanes whose profile is staged. -/
def Dev.profileOkAll (d : Dev) : Bool :=
  allLanes.all (fun l =>
    !([perLane Obj.energyStageFractions l, perLane Obj.energyPinFactor l, perLane Obj.energyBiasProfile l].any d.isStaged) || d.profileOk l)
/-- R263: step, interval and R252 under the profile in force. -/
def Dev.biasOk (d : Dev) (l : Nat) : Bool :=
  let s := d.stagedVal (Obj.biasStep l)
  let i := d.stagedVal (Obj.biasInterval l)
  1 ≤ s && s ≤ 4096 && 1 ≤ i && i ≤ 10000 && d.stagedVal (Obj.biasTarget l) ≤ 262143
    && biasPowerOk (d.val (perLane Obj.energyBiasProfile l)) s i

/-! ### Monitor (R271, R272) -/

/-- Channels of Table 11-5. -/
def monChannelOk (c : Nat) : Bool := c ≤ 0x203 || (0x210 ≤ c && c ≤ 0x217) || (0x220 ≤ c && c ≤ 0x230)
/-- An entry of Table 11-7: channel, cycles and event mode. -/
def monEntryOk (v : Nat) : Bool :=
  monChannelOk (bits v 9 0) && bits v 23 10 != 1 && bits v 23 10 ≤ 10000 && bits v 42 41 != 3
/-- Entries of a pass, to the first with End set. -/
def passOf : List Nat → List Nat
  | [] => []
  | v :: vs => if bit v 51 then [v] else v :: passOf vs
/-- R271, R272: entries in range, and in modes 1–3 a pass with an entry that is not skipped. -/
def Dev.monitorOk (d : Dev) : Bool :=
  let es := (List.range 64).map (fun i => d.stagedVal (Obj.monEntry i))
  es.all monEntryOk && (d.stagedVal Obj.monRunMode = 0 || (passOf es).any (fun v => bits v 23 10 != 0 && bits v 39 24 != 0))

/-! ### Rings, captures and sheaves (R281, R296, R303) -/

/-- A ring's length is a multiple of 16 or 64 bytes. -/
def ringLengthOk (v unit : Nat) : Bool := domLength v % unit = 0
/-- Bytes of a capture record (Table 12-4). -/
def captureBytes (source length : Nat) : Nat := 64 + 64 * ceilDiv (length * (sampleShape source).2) 64
/-- R281, R296, R303, R310: the ring, in a region of the engine's owner, and a record that fits it. -/
def Dev.captureOk (d : Dev) (e : Nat) : Bool :=
  let ring := d.stagedVal (Obj.capRing e)
  ringLengthOk ring 64
    && (domLength ring = 0 || d.reach (actsFor (d.capOwner e)) (domRegion ring) (domOffset ring) (domLength ring))
    && (domLength ring = 0 || captureBytes (d.stagedVal (Obj.capSource e)) (d.stagedVal (Obj.capLength e)) ≤ domLength ring)
/-- R303: a scope that stays within slots 0–1023 and cells 0–255, and the ring. -/
def Dev.sheafOk (d : Dev) (g : Nat) : Bool :=
  d.stagedVal (Obj.sheafFirstSlot g) + d.stagedVal (Obj.sheafSlotCount g) ≤ 1024
    && d.stagedVal (Obj.sheafFirstCell g) + d.stagedVal (Obj.sheafCellCount g) ≤ 256 && ringLengthOk (d.stagedVal (Obj.sheafRing g)) 64
/-- R303: thresholds of −1,000 to 2,500 mV, and the ring. -/
def Dev.trigOk (d : Dev) (n : Nat) : Bool :=
  let t := toInt 16 (d.stagedVal (Obj.trigThreshold n))
  decide (-1000 ≤ t) && decide (t ≤ 2500) && ringLengthOk (d.stagedVal (Obj.tdcRing n)) 16

/-! ### Memory (R311, R317) -/

/-- Staged descriptor of a region. -/
def Dev.stagedRegion (d : Dev) (r : Nat) : Nat := d.stagedVal (Obj.memRegion (r / 128) (r % 128))
/-- First bushel and number of bushels of a descriptor. -/
def bushels (v : Nat) : Nat × Nat := (bits v 16 0, bits v 34 17)
/-- Whether a region whose descriptor changes still holds a committed block: base and owner unmoved, and the block inside (R311). -/
def keepsBlock (old new block : Nat) : Bool :=
  bits old 16 0 = bits new 16 0 && regionOwner old = regionOwner new && domOffset block + domLength block ≤ regionBytes new
/-- Non-empty DOMAIN objects in force. -/
def Dev.blocksInForce (d : Dev) : List Nat :=
  (d.objs.filter (fun o => domLength o.2 != 0 && (rowAt (keyIndex o.1) (keySub o.1)).any (fun r => r.ty = .domain))).map Prod.snd
/-- Class 1 grants of a lane: LaneStreamRate and LaneFetchRate in force (R317, R320). -/
def Dev.laneGrant (d : Dev) (l : Nat) : Nat := d.val (Obj.laneStreamRate l) + d.val (Obj.laneFetchRate l)
/-- Class 1 grants a partition holds (MemPartClass1Granted). -/
def Dev.partGrant (d : Dev) (p : Nat) : Nat := ((allLanes.filter (fun l => d.laneOwner l = p)).map d.laneGrant).sum
/-- Class 1 grants of the device (MemClass1Granted). -/
def Dev.allGrants (d : Dev) : Nat := (allLanes.map d.laneGrant).sum
/-- R311. -/
def Dev.memoryOk (d : Dev) : Bool :=
  let rs := (List.range 1024).filter (fun r => (bushels (d.stagedRegion r)).2 != 0)
  let spans := rs.map (fun r => bushels (d.stagedRegion r))
  let moved := (List.range 1024).filter (fun r => d.stagedRegion r != d.region r)
  spans.Pairwise (fun a b => a.1 + a.2 ≤ b.1 ∨ b.1 + b.2 ≤ a.1)
    && spans.all (fun a => a.1 + a.2 ≤ d.val Obj.memCapacity)
    && (List.range 1024).all (fun r => let o := regionOwner (d.stagedRegion r); o = 0 || 8 < o || bit (d.val Obj.devPartitionsEnabled) o)
    && d.blocksInForce.all (fun b => !(moved.contains (domRegion b)) || keepsBlock (d.region (domRegion b)) (d.stagedRegion (domRegion b)) b)
    && (List.range 9).all (fun p => d.stagedVal (Obj.memPartClass1Limit p) = d.val (Obj.memPartClass1Limit p)
        || d.partGrant p ≤ d.stagedVal (Obj.memPartClass1Limit p))
/-- What a class 1 rate claims of the pool: the rate in force, or a higher one that an accepted commit will bring (R317). -/
def Dev.rateClaim (d : Dev) (rate commit : Nat) : Nat :=
  if (d.commitOf commit).status = 2 then max (d.val rate) (d.stagedVal rate) else d.val rate
/-- What a lane claims. -/
def Dev.laneClaim (d : Dev) (l : Nat) : Nat :=
  d.rateClaim (Obj.laneStreamRate l) (Obj.laneWaveCommit l) + d.rateClaim (Obj.laneFetchRate l) (Obj.laneFetchCommit l)
/-- R317: a raised rate is granted within the partition's limit and the pool, beside what stands granted and what commits accepted before it
will bring; a lower one always. -/
def Dev.grantOk (d : Dev) (l rate commit : Nat) : Bool :=
  let p := d.laneOwner l
  let new := d.stagedVal rate
  let own := d.rateClaim rate commit
  let mine := ((allLanes.filter (fun x => d.laneOwner x = p)).map d.laneClaim).sum
  new ≤ d.val rate
    || (mine + new ≤ (if p ≤ 8 then d.val (Obj.memPartClass1Limit p) else 0) + own && (allLanes.map d.laneClaim).sum + new ≤ 286720 + own)

/-! ### Links, queues and events (R349, R372, R398, R407, R408) -/

/-- R349: a ring of whole entries in a region the partition owns, partition 0's too. -/
def Dev.baleQueueOk (d : Dev) (q : Nat) : Bool :=
  let v := d.stagedVal (Obj.baleQueueRing q)
  domLength v != 0 && domLength v % 64 = 0 && d.reach q (domRegion v) (domOffset v) (domLength v) && regionOwner (d.region (domRegion v)) = q
/-- R372. -/
def Dev.dmaOk (d : Dev) (c : Nat) : Bool :=
  let n := d.stagedVal (Obj.pcieDmaRingBytes c)
  let k := d.stagedVal (Obj.pcieDmaFollow c)
  let ring := d.ringBlock k
  if d.stagedVal (Obj.pcieDmaMode c) = 0 then n % 32 = 0
  else k = 255 || (k < 104 && domLength ring = n && (domLength ring = 0 || regionOwner (d.region (domRegion ring)) = d.dmaOwner c))
/-- R398. -/
def Dev.portOk (d : Dev) (p : Nat) : Bool :=
  10 ≤ d.stagedVal (Obj.ggRestDelay p) && 100 ≤ d.stagedVal (Obj.ggMarginLimit p) && d.stagedVal (Obj.ggMarginLimit p) ≤ 500
    && (List.range 4).all (fun l =>
        let v := bits (d.stagedVal (Obj.ggTxTapsFixed p)) (16 * l + 15) (16 * l)
        v = 0 || tapsOk (unpackTaps v))
/-- A task entry of a channel (R403, R408). -/
def Dev.taskOk (d : Dev) (owner : Nat) (install : Bool) (v : Nat) : Bool :=
  let target := bits v 10 3
  match bits v 2 0 with
  | 0 => true
  | 1 => target ≤ 127 && d.chanOwner target = owner
  | 2 => target ≤ 7 && d.capOwner target = owner
  | 3 => target = 0
  | 4 => target ≤ 15 && d.dmaOwner target = owner
  | 5 => install && target ≤ 3
  | 6 => install && (faultClass target).isSome
  | _ => false
/-- R408. -/
def Dev.channelGroupOk (d : Dev) (c : Nat) : Bool :=
  (List.range 8).all (fun k =>
    d.taskOk (d.chanOwner c) (bit (d.stagedVal (Obj.evtChannelCfg c)) 8) (d.stagedVal (Obj.evtTask (c / 16) (8 * (c % 16) + k))))
/-- R407: no periodic timer without a delay; verdict producers name a fabric ID. -/
def Dev.producerOk (d : Dev) : Bool :=
  (List.range 4).all (fun n => let v := d.stagedVal (Obj.evtTimer n); !(bit v 40) || bits v 39 0 != 0)
    && (List.range 16).all (fun j => bits (d.stagedVal (Obj.evtVerdictProducer j)) 10 0 ≤ 1283)

/-! ### Control store (R458, R459, R463) -/

/-- R463: an empty routine, or one that passes every test. -/
def Dev.userOk (d : Dev) (m : Mem) (k : Nat) : Bool :=
  let v := d.stagedVal (Obj.csUserRoutine k)
  domLength v = 0 || (domLength v ≤ 4608 && userRoutineOk (d.domBytes m v))

/-! ### The check of a group (R28) -/

/-- What the loader finds for a program commit (R137), or for a waveform commit against the program in force (R164). -/
def Dev.loaderFor (d : Dev) (m : Mem) (k : GKind) (l : Nat) (old : Option Image) : Option Loaded :=
  match k with
  | .program => some (d.loadProgram m l (d.groupVal .program l) (d.drill l).next old)
  | .wave =>
    if d.hasProgram l then
      let own := d.groupVal .wave l
      some (d.loadPlan m (d.readLibrary m (own (Obj.laneLibrary l)) [] (d.planWith m l own (some (d.drill l).image))) none [])
    else none
  | .fetch =>
    if d.hasProgram l then
      some (d.loadPlan m { d.planWith m l d.val (some (d.drill l).image) with fetchRate := d.stagedVal (Obj.laneFetchRate l) } none [])
    else none
  | _ => none

/-- Limits a group's chapter states, beside the ranges of its fields. -/
def Dev.chapterOk (d : Dev) (m : Mem) (k : GKind) (n : Nat) : Bool :=
  match k with
  | .device => d.deviceOk
  | .time => d.timeOk
  | .wave =>
    let b := d.stagedVal (Obj.laneStreamBuffer n)
    (b = 0 || (64 ≤ b && b ≤ 8192)) && d.stagedVal (Obj.laneStreamRate n) ≤ 2813
  | .input => d.inputOk n
  | .kernel => d.kernelOk n
  | .disc => d.discOk n
  | .cell => d.cellOk n
  | .table => d.tableOk n
  | .energyProfile => d.profileOkAll
  | .bias => d.biasOk n
  | .monitor => d.monitorOk
  | .trig => d.trigOk n
  | .gleaner => (List.range 16).all (fun t => ringLengthOk (d.stagedVal (Obj.glnRing t)) 16)
  | .capture => d.captureOk n
  | .sheaf => d.sheafOk n
  | .memory => d.memoryOk
  | .baleQueue => d.baleQueueOk n
  | .dmaChannel => d.dmaOk n
  | .ggPort => d.portOk n
  | .evtChannel => d.channelGroupOk n
  | .evtProducer => d.producerOk
  | .csUser => d.userOk m n
  | .lane | .program | .dac | .fetch | .feedback | .energyCeiling | .ggDevice | .ggBulk | .calScope | .csImage | .csRollback => true

/-- The partition whose requests a group's loads are, and the blocks it loads from (R310, R313). -/
def Dev.loadPart (d : Dev) (k : GKind) (n : Nat) : Nat :=
  match k with
  | .program | .wave => actsFor (d.laneOwner n)
  | .kernel => actsFor (d.inputOwner (n / 16))
  | .table => actsFor (d.tableOwner n)
  | _ => 0
/-- The plan whose entries a program or waveform commit loads, with the directory it reads. -/
def Dev.loadPlanOf (d : Dev) (m : Mem) (k : GKind) (l : Nat) : Option (Plan × Nat) :=
  match k with
  | .program => some (d.planWith m l (d.groupVal .program l) none, d.val (Obj.laneLibrary l))
  | .wave => if d.hasProgram l then some (d.planWith m l (d.groupVal .wave l) (some (d.drill l).image), d.stagedVal (Obj.laneLibrary l)) else none
  | _ => none
/-- Regions in which a group's loads are refused, block by block (R310, R316). -/
def Dev.deniedLoads (d : Dev) (m : Mem) (k : GKind) (n : Nat) : List Nat :=
  let p := d.loadPart k n
  let denied := fun (r o len : Nat) => if len = 0 || d.reach p r o len then [] else [r]
  let block := fun (v : Nat) => denied (domRegion v) (domOffset v) (domLength v)
  match k with
  | .kernel => block (d.stagedVal (Obj.slotKernel n))
  | .table => block (d.stagedVal (Obj.tableContent n))
  | _ => match d.loadPlanOf m k n with
    | some (x, dir) =>
      if !(block dir).isEmpty then block dir
      else ((x.names.filterMap (d.storedAt m p dir)).map (fun e => denied e.region e.offset e.bytes)).flatten
    | none => []
/-- Bad bales that a group's loads meet: one in each entry that has one, as decoding ends there (R336, R348). -/
def Dev.badBales (d : Dev) (m : Mem) (k : GKind) (n : Nat) : Nat :=
  match d.loadPlanOf m k n with
  | some (x, dir) =>
    let p := d.loadPart k n
    let read := (x.names.filterMap (d.storedAt m p dir)).filter (fun e => d.reach p e.region e.offset e.bytes)
    (read.filter (fun e => (d.balesAt m e).any (d.baleBad m e))).length
  | none => 0
/-- What a check that refuses a group leaves of its loads: requests out of reach counted (R316), and bad bales (R348). -/
def Dev.countLoads (d : Dev) (m : Mem) (k : GKind) (n : Nat) : Dev :=
  let d := (d.deniedLoads m k n).foldl (fun e r => e.ddrRefuse 2 r) d
  let bad := d.badBales m k n
  if bad = 0 then d else (d.bumpBy Obj.baleLoadBad bad).bump64By Obj.baleLoadDecodes bad

/-- The group check: the abort code, 0 when it passes, with what the check itself leaves behind: LaneLoadError (R137), CsLastCheck
(R459), the class 1 refused counters (R317). -/
def Dev.groupCheck (d : Dev) (m : Mem) (k : GKind) (n : Nat) (old : Option Image) : Dev × Nat :=
  if !(d.rangesOk k n) || !(d.chapterOk m k n) || (k != .program && k != .wave && !(d.blocksOk k n)) then (d.countLoads m k n, abortCheck)
  else
    match (d.loaderFor m k n old).bind (fun x => if k = .fetch then firstFailure (x.errs.filter (fun f => f.1 = 10)) else x.failure) with
    | some f => ((d.countLoads m k n).put (Obj.laneLoadError n) (loadErrorWord f), abortCheck)
    | none =>
      match k with
      | .wave =>
        if d.grantOk n (Obj.laneStreamRate n) (Obj.laneWaveCommit n) then (d, 0)
        else (d.countClass 1 (d.laneOwner n) 2, abortCheck)
      | .fetch =>
        if d.grantOk n (Obj.laneFetchRate n) (Obj.laneFetchCommit n) then (d, 0)
        else (d.countClass 1 (d.laneOwner n) 2, abortCheck)
      | .csImage =>
        let r := d.imageCheck (d.domBytes m (d.stagedVal Obj.csImage))
        if r != 1 then (d.put Obj.csLastCheck r, abortCheck)
        else if (List.range 64).any (fun s => d.unitState s = 0 && d.val (Obj.csStripSlot s) = d.otherSlot) then (d.put Obj.csLastCheck 6, abortBusy)
        else (d.put Obj.csLastCheck 1, 0)
      | .csRollback =>
        let v := d.stagedVal Obj.csRollbackCounter
        if v < d.val Obj.csRollbackCounter || (d.store.slot (d.val Obj.csNextSlot)).security < v then (d, abortRange) else (d, 0)
      | _ => (d, 0)

end Sys2Proof.Machine
end

