-- ==== Sys2Proof/Machine/Commit.lean ====
section
/-! DEFINITION. Commits (R25–R40, R47, R147, R200, R235, R312, R490): the six commands that write, move and complete a commit, and what
each group does as its values come into force. -/

namespace Sys2Proof.Machine

/-! ### Refusals of a commit write (R29, R32, R34, R37, R53) -/

/-- The groups whose commits burn change records of the pool of R36. -/
def isCounted : GKind → Bool
  | .energyProfile | .energyCeiling => true
  | _ => false
/-- The strip or tile that answers for a group (R53); bias outputs stay powered (R106). -/
def groupUnit (k : GKind) (n : Nat) : Option Nat :=
  match k with
  | .lane | .program | .dac | .wave | .fetch => some (stripOf n)
  | .input => some (64 + n / 4)
  | .kernel | .disc => some (64 + n / 64)
  | .csUser => some n
  | .trig => some (64 + n)
  | _ => none
/-- Whether a calibration interrupts the unit of a group (R414): under item 4 the unit is the device. -/
def Dev.calHoldsGroup (d : Dev) (k : GKind) (n : Nat) : Bool :=
  d.calInterrupts 4 0 || (match k with
    | .lane | .program | .dac | .wave | .fetch => d.calInterrupts 0 (stripOf n)
    | .csUser => d.calInterrupts 0 n
    | .input => d.calInterrupts 1 n
    | .kernel | .disc => d.calInterrupts 1 (n / 16)
    | .trig => d.calInterrupts 2 n
    | .bias => d.calInterrupts 3 n
    | _ => false)
/-- Whether the unit of a group answers void (R53, R414). -/
def Dev.groupVoid (d : Dev) (k : GKind) (n : Nat) : Bool := (groupUnit k n).any (fun u => d.unitState u != 0) || d.calHoldsGroup k n
/-- Its void response counted. -/
def Dev.countVoid (d : Dev) (k : GKind) (n : Nat) : Dev :=
  match groupUnit k n with
  | some u => d.voidSent u 1
  | none => d
/-- The staging buffer as R37 serialises it. -/
def Dev.serialised (d : Dev) (k : GKind) (n : Nat) : List Byte :=
  ((groupFields k n).map (fun x => match rowAt (keyIndex x) (keySub x) with
    | some r => leBytes r.ty.size (d.stagedVal x)
    | none => [])).flatten
/-- The device's digest of a staging buffer (R37). -/
def Dev.groupDigest (d : Dev) (k : GKind) (n : Nat) : Nat := crc32c (d.serialised k n)

/-- Whether a commit would change a value that a live entry reads (R32): `fed` says whether some live entry's source passes a test. -/
def Dev.readsLive (d : Dev) (k : GKind) (n : Nat) : Bool :=
  let live := d.vpt.filter (fun p => p.2.state != .confirmed)
  let fed := fun (f : Nat → Bool) => live.any (fun p => f p.2.fid)
  let changed := (groupFields k n).any (fun x => d.stagedVal x != d.val x)
  match k with
  | .lane => d.laneReadLive n
  | .disc => changed && fed (fun i => (d.feeds i).contains (false, n))
  | .cell => changed && fed (fun i => i = 1024 + n || (1280 ≤ i && (List.range (d.tableBits (i - 1280))).any (fun j => d.tableCell (i - 1280) j = n)))
  | .table => changed && fed (fun i => i = 1280 + n)
  | .feedback =>
    (List.range 64).any (fun r => d.stagedVal (Obj.fbRemoteIn r) != d.val (Obj.fbRemoteIn r) && fed (fun i => (d.feeds i).contains (true, r)))
  | _ => false

/-- Whether no window is open on a slot and the shot in which it last opened one has ended (R200). -/
def Dev.slotQuiet (d : Dev) (s : Nat) : Bool :=
  let x := d.slot s
  let g := d.group x.lastGroup
  !(d.slotOpen s) && !(g.inShot && g.shot = x.lastShot)
    && !(d.shots.any (fun r => r.group = x.lastGroup && r.shot = x.lastShot && d.now < r.stop))
/-- Whether no lane in a group's scope is inside a shot (R490). -/
def Dev.scopeQuiet (d : Dev) (k : GKind) (n : Nat) : Bool := allLanes.all (fun l => !(d.covers k n l && d.laneInShot l))
/-- Whether the unit of a group is idle (R29, R160, R164, R199, R200, R303, R349, R372, R398, R490). -/
def Dev.groupIdle (d : Dev) (k : GKind) (n : Nat) : Bool :=
  match k with
  | .lane | .bias | .program | .fetch => !(d.laneInShot n)
  | .dac | .wave => d.laneState n = 0 || d.laneState n = 5
  | .input => d.inputIdle n
  | .kernel => d.inputIdle (n / 16)
  | .disc => d.slotQuiet n
  | .device | .feedback | .cell | .table | .energyProfile | .energyCeiling | .sheaf | .memory | .ggPort | .evtChannel | .evtProducer =>
    d.scopeQuiet k n
  | .capture => d.capState n = 0
  | .baleQueue => (d.jobs n).isEmpty
  | .dmaChannel => let x := d.dmaCh n; x.tail = x.head && x.taskEntry.isNone
  | .ggBulk => d.val (Obj.ggBulkState n) != 1
  | .csUser => d.userState n = 0
  | .time | .monitor | .trig | .gleaner | .ggDevice | .calScope | .csImage | .csRollback => true

/-! ### Clearing bushels and loads (R200, R235, R312, R342) -/

/-- Spans of bushels without those of one span. -/
def without (parts : List (Nat × Nat)) (cut : Nat × Nat) : List (Nat × Nat) :=
  (parts.map (fun p => [(p.1, min p.2 cut.1), (max p.1 cut.2, p.2)].filter (fun q => q.1 < q.2))).flatten
/-- Spans of bushels the staged map places under a new owner (R312), with that owner. -/
def Dev.clears (d : Dev) : List (Nat × Nat × Nat) :=
  ((List.range 1024).map (fun r =>
    let v := d.stagedRegion r
    let b := bushels v
    let same := (List.range 1024).filter (fun x => regionOwner (d.region x) = regionOwner v && (bushels (d.region x)).2 != 0)
    let parts := (same.map (fun x => let y := bushels (d.region x); (y.1, y.1 + y.2))).foldl without (if b.2 = 0 then [] else [(b.1, b.1 + b.2)])
    parts.map (fun p => (p.1, p.2, regionOwner v)))).flatten
/-- The writes of zero. -/
def Dev.clearOps (d : Dev) : List MemOp := d.clears.map (fun p => .clear (p.1 * 2 ^ 21) ((p.2.1 - p.1) * 2 ^ 21))
/-- Whether a running bale job addresses a region the staged map changes (R342). -/
def Dev.jobsOnChanged (d : Dev) : Bool :=
  d.bale.any (fun q => q.2.any (fun j => j.started && !j.ended && j.regions.any (fun r => d.stagedRegion r != d.region r)))

/-- Whether a commit waits for a load or a clearing: an empty program loads nothing but its table (R138, R167), a waveform commit the resident
entries that the program in force names (R164, R313). -/
def Dev.needsLoad (d : Dev) (k : GKind) (n b : Nat) : Bool :=
  match k with
  | .program => domLength (d.stagedVal (Obj.laneProgram n)) != 0 || domLength (d.stagedVal (Obj.laneSegTable n)) != 0
  | .wave => d.hasProgram n && !((d.planWith [] n d.val (some (d.drill n).image)).names.isEmpty)
  | .kernel | .table => true
  | .memory => !d.clears.isEmpty || (b = 1 && d.jobsOnChanged)
  | .energyProfile | .energyCeiling => b = 1
  | _ => false
/-- An entry's data asked for by the commit that loads it, and its bales left to be decoded (R147, R338). -/
def Dev.askEntryData (d : Dev) (m : Mem) (part key : Nat) (x : Stored) : Dev :=
  let d := d.ddrAsk 2 part x.region x.offset x.bytes (.load key)
  { d with baleWaits := d.baleWaits ++ (d.balesAt m x).map (fun o => { commit := key, region := x.region, offset := o }) }
/-- The DDR5 requests of a commit: loads of class 2 (Table 13-4), among them a program's entries not yet resident (R147), and clearing of
class 3 (R312). -/
def Dev.askLoads (d : Dev) (m : Mem) (key : Nat) (k : GKind) (n : Nat) : Dev :=
  let part := d.loadPart k n
  let ask := fun (e : Dev) (v : Nat) => if domLength v = 0 then e else e.ddrAsk 2 part (domRegion v) (domOffset v) (domLength v) (.load key)
  match k with
  | .program =>
    let d := ask (ask d (d.stagedVal (Obj.laneProgram n))) (d.stagedVal (Obj.laneSegTable n))
    (d.missing m (d.val (Obj.laneLibrary n)) (d.drill n).library (d.planWith m n (d.groupVal .program n) none)).foldl
      (fun e x => e.askEntryData m part key x) d
  | .wave =>
    if d.hasProgram n then
      let dir := d.stagedVal (Obj.laneLibrary n)
      (d.missing m dir [] (d.readLibrary m dir [] (d.planWith m n d.val (some (d.drill n).image)))).foldl
        (fun e x => e.askEntryData m part key x) d
    else d
  | .kernel => ask d (d.stagedVal (Obj.slotKernel n))
  | .table => ask d (d.stagedVal (Obj.tableContent n))
  | .csImage => ask d (d.stagedVal Obj.csImage)
  | .csUser => ask d (d.stagedVal (Obj.csUserRoutine n))
  | .memory =>
    d.clears.foldl (fun e p =>
      e.ddrQueue
        { id := 0, cls := 3, partition := part, address := p.1 * 2 ^ 21, bytes := (p.2.1 - p.1) * 2 ^ 21, arrived := e.now, deadline := e.now
          use := .write, demoted := false, lane := none, line := none, place := 0, owner := p.2.2 }) d
  | _ => d

/-! ### What a group does as its values come into force -/

/-- A ring whose block has changed starts with both offsets at 0 (log entry 30). -/
def Dev.newRing (d old : Dev) (k : Nat) : Dev :=
  if d.ringBlock k = old.ringBlock k then d
  else
    let d := (d.put (ringKeys k).2.1 0).put (ringKeys k).2.2 0
    (List.range 16).foldl (fun e c =>
      if e.val (Obj.pcieDmaMode c) = 1 && e.val (Obj.pcieDmaFollow c) = k then e.setDma c { e.dmaCh c with followed := 0 } else e) d

/-- A lane that has a new owner (R47, R156, R320, Table 11-2): its drill halts, its staging and objects go, and its bias output stays at
the code reached, or at the fault value while the safe state holds. -/
def Dev.moveLane (d : Dev) (l : Nat) : Dev :=
  let d := d.stopLane l .stopped
  let b := d.biasOut l
  let biasFields := groupFields .bias l
  let d := { d with staged := d.staged.filter (fun p => !(biasFields.contains p.1)), commits := SMap.del d.commits (Obj.biasCommit l) }
  let d := d.toDefaults (fun i => i = 0x3000 + l)
  let d := ((d.setDrill l Drill.init).dropFetches l).put (Obj.laneResidentUsed l) 0
  let d := d.setChain l (d.chain l).cleared
  let offered := (List.range 4).foldl (fun m c => SMap.del m (4 * l + c)) d.ageing.offered
  let d := { d with ageing := { d.ageing with offered := offered } }
  let d := d.put (Obj.biasTarget l) b.code
  if d.faultHolds then d else d.setTarget l b.code d.now false
/-- A channel that has a new owner (R408). -/
def Dev.moveChannel (d : Dev) (c : Nat) : Dev := ((groupFields .evtChannel c).foldl Dev.unset d).put (Obj.evtFlags c) 0
/-- The partition maps in force: partition 0 stays enabled (Table 2-7), moved lanes and channels follow. -/
def Dev.newMaps (d old : Dev) : Dev :=
  let d := d.put Obj.devPartitionsEnabled (d.val Obj.devPartitionsEnabled ||| 1)
  let d := (allLanes.filter (fun l => d.laneOwner l != old.laneOwner l)).foldl Dev.moveLane d
  ((List.range 128).filter (fun c => d.chanOwner c != old.chanOwner c)).foldl Dev.moveChannel d

/-- A lane's mark in AgeLeadShort clears with its program's commit (R426). -/
def Dev.clearShort (d : Dev) (l : Nat) : Dev :=
  let k := stripOf l
  let d := d.put (Obj.ageLeadShort k) (putBit (d.val (Obj.ageLeadShort k)) (l % 8) false)
  d.holdFault 120 ((List.range 64).any (fun s => d.val (Obj.ageLeadShort s) != 0))
/-- Whether a lane's drill runs. -/
def Drill.runs (r : Drill) : Bool := r.run != .stopped && r.run != .halted
/-- A new program in force (R138): an empty one stops a running lane, any other restarts it at its entry; `moved` says that the lane has
changed its shot group. -/
def Dev.newProgram (d : Dev) (m : Mem) (l : Nat) (moved : Bool) : Dev :=
  let r := d.drill l
  if !(d.hasProgram l) then
    let offered := (List.range 4).foldl (fun o c => SMap.del o (4 * l + c)) d.ageing.offered
    let d := ({ d with ageing := { d.ageing with offered := offered } } : Dev).clearShort l
    let table := (r.next.map Image.table).getD []
    let r := { r with grains := [], lines := [], table := table, library := [], streamSeq := [], streamSecs := [], mode := 0, length := 0, entry := 0
                      held := false, next := none }
    let d := ((d.setDrill l r.emptyStream).dropFetches l).put (Obj.laneResidentUsed l) (residentOf [] table)
    if r.runs then ((d.setDrill l ((d.drill l).rest .stopped)).put (Obj.laneRun l) 0).leaveGroup l else d
  else
    let d := ((d.installPlan (d.loadProgram m l d.val r.next none)).clearShort l).dropFetches l
    let r := { d.drill l with lines := [] }
    if !r.runs then d.setDrill l { r with held := false }
    else
      let d := d.setDrill l { r.rest .between with pc := r.entry, cursor := 0, busy := 0, muteFrom := none, held := false }
      if moved then d.startLane l else d

/-- Codes of a loaded correction table (R210). -/
def tableCodes (bs : List Byte) : Mem := ((List.range bs.length).zip bs).filter (fun p => p.2 != 0)

/-- A port whose GgPortEnable, GgMaxRate or GgTxTapsFixed has changed goes through state 0 (R398). -/
def Dev.newPort (d old : Dev) (p : Nat) : Dev :=
  if [Obj.ggPortEnable p, Obj.ggMaxRate p, Obj.ggTxTapsFixed p].all (fun x => d.val x = old.val x) then d
  else
    let d := d.disablePort p
    if d.flag (Obj.ggPortEnable p) then d.detect p else d

/-- What a group does as its values come into force: `old` is the block before them, `tick` the boundary. -/
def Dev.inForce (d old : Dev) (m : Mem) (k : GKind) (n tick : Nat) : Dev :=
  match k with
  | .device => d.newMaps old
  | .program => d.newProgram m n (d.groupOf n != old.groupOf n)
  | .dac => d.setChain n { d.chain n with settleAt := d.now + 20 * ticksUs }
  | .wave =>
    let d := d.setDrill n { d.drill n with held := false }
    if d.hasProgram n then d.installPlan (d.loadPlan m (d.readLibrary m (d.val (Obj.laneLibrary n)) [] (d.planWith m n d.val (some (d.drill n).image))) none []) else d
  | .kernel =>
    (d.setSlot n { d.slot n with kernel := kernelWeights (d.domBytes m (d.val (Obj.slotKernel n))) (d.val (Obj.slotWindowLength n)) }).retune n tick
  | .disc => d.retune n tick
  | .cell => { d with cells := SMap.del d.cells n }
  | .table =>
    { d with tables := SMap.del d.tables n, tableContent := SMap.set d.tableContent n (tableCodes (d.domBytes m (d.val (Obj.tableContent n)))) }
  | .energyProfile =>
    let gone := ((groupFields .energyProfile n).filter (fun x => old.val x != d.val x)).map (fun x => (x, old.val x))
    { d with energy := { d.energy with profileValid := true, past := d.energy.past ++ [(tick, gone)] } }
  | .energyCeiling => { d with energy := { d.energy with ceilingValid := true } }
  | .bias => d.newTarget n (d.val (Obj.biasTarget n)) tick false
  | .monitor => d.monCommitted tick
  | .trig => (d.newRing old (80 + n)).put (Obj.tdcQueuePeak n) (d.trig n).queue.length
  | .gleaner =>
    let d := (List.range 16).foldl (fun e t => (e.newRing old (64 + t)).put (Obj.glnBufferPeak t) (e.gleaner t).buffer.length) d
    { d with gleaners := d.gleaners.map (fun p => (p.1, { p.2 with verdicts := [], canaries := [] })) }
  | .capture => d.newRing old (96 + n)
  | .sheaf => d.newRing old n
  | .baleQueue => ((d.setJobs n []).put (Obj.baleQueueTail n) 0).put (Obj.baleQueueHead n) 0
  | .dmaChannel =>
    let write := d.val (ringKeys (d.val (Obj.pcieDmaFollow n))).2.1
    d.setDma n { d.dmaCh n with head := 0, tail := 0, taskEntry := none, followed := if d.val (Obj.pcieDmaMode n) = 1 then write else 0 }
  | .ggPort => d.newPort old n
  | .evtProducer =>
    (List.range 4).foldl (fun e i => if bit (e.val (Obj.evtTimer i)) 48 then e else e.setTimer i none) d
  | .csUser =>
    { d with store := { d.store with userWords := SMap.set d.store.userWords n (userWords (d.domBytes m (d.val (Obj.csUserRoutine n)))) } }
  | .time | .lane | .fetch | .input | .feedback | .memory | .ggDevice | .ggBulk | .evtChannel | .calScope | .csImage
  | .csRollback => d

/-- A commit takes effect: the staging buffer applied in one step (R27). Records the drill carried bring a lane group's values (R157, R158),
but for the segment marker. A lane's tail runs up to a DAC commit (R236), and its meters up to a change of its rates (R319). Wall time counts on from here before the time group's values change (R75). -/
def Dev.applyCommit (d : Dev) (m : Mem) (key : Nat) (k : GKind) (n tick : Nat) : Dev :=
  let c := d.commitOf key
  let ks := d.stagedKeys k n
  let now := if k = .lane && c.carried.isSome then ks.filter (fun x => x = Obj.laneSegMarker n) else ks
  let d := if k = .time then d.rebase else if k = .dac then d.flushTail n else if k = .wave || k = .fetch then d.settleMeters n else d
  let e := if k = .program && (d.drill n).runs && d.stagedVal (Obj.laneShotGroup n) != d.val (Obj.laneShotGroup n) then d.leaveGroup n else d
  let e := now.foldl (fun e x => e.put x (d.stagedVal x)) e
  let e := { e with staged := e.staged.filter (fun p => !(ks.contains p.1)) }
  let e := e.setCommit key { c with status := 3, boundary := 0, loading := false, carried := none }
  e.inForce d m k n tick

/-! ### Change records (R36–R40, R461) -/

/-- One record burned (R38): kind 1 ceiling set, 2 line-profile set. At 4 left the Notice rises; a fuse that fails its read-back raises the
Grave fault, and the commit has still taken effect (R40; log entry 30). -/
def Dev.burnRecord (d : Dev) (kind part digest : Nat) (burnOk : Bool) : Dev :=
  let left := d.val Obj.devChangeRecordsLeft
  let no := 33 - left
  let d := (d.put (Obj.devChangeTime (no - 1)) d.now).put (Obj.devChangeRecord (no - 1))
    (digest + part * 2 ^ 32 + kind * 2 ^ 36 + no * 2 ^ 40)
  let d := d.put Obj.devChangeRecordsLeft (left - 1)
  let d := if left - 1 = 4 then d.raise 114 true else d
  if burnOk then d else d.raise 2 true

/-- A commit that held joins has taken effect (R30, R147, R490): the time a group of several lanes held origins back, and the held groups go on. -/
def Dev.releaseGroups (d : Dev) (k : GKind) (n : Nat) (c : CommitSt) : Dev :=
  let d := if c.boundary = 3 && coversSeveral k then d.put Obj.devCommitWaitTime (d.now - c.acceptedAt) else d
  let lanes := allLanes.filter (fun l => d.covers k n l && (k = .program || (d.drill l).run = .atJoin || (d.drill l).run = .waitOrigin))
  ((lanes.map d.groupOf).eraseDups).foldl (fun e g => e.setGroup g { e.group g with earliest := max (e.group g).earliest e.now }) d

/-- The boundary past which a commit is carried, so that each counts once (R32): the shot number reached, or the slot's last shot. -/
def Dev.boundaryMark (d : Dev) (k : GKind) (n : Nat) : Nat := if k = .disc then (d.slot n).lastShot else d.val Obj.devShotNumber

/-- A pending commit meets its boundary (R28, R31, R32, R37, R39): it is carried past it for a live entry, refused when its check no longer
passes, or takes effect. -/
def Dev.meetBoundary (d : Dev) (m : Mem) (key : Nat) (k : GKind) (n tick : Nat) (burnOk : Bool) : Dev :=
  let c := d.commitOf key
  let part := pathPart c.path
  if !(k = .lane && c.carried.isSome) && d.readsLive k n then
    if k = .lane || c.carried = some (d.boundaryMark k n) then d
    else (d.setCommit key { c with carried := some (d.boundaryMark k n) }).bump Obj.devCommitsDeferred
  else if isCounted k && d.val Obj.devChangeRecordsLeft = 0 then d.refuseCommit key abortRecords
  else if k = .bias && (d.faultHolds || d.power.preparing) then d.refuseCommit key abortState
  else
    let r := d.groupCheck m k n none
    if r.2 != 0 then r.1.refuseCommit key r.2
    else
      let digest := d.groupDigest k n
      let d := r.1.applyCommit m key k n tick
      let d := if isCounted k then d.burnRecord (if k = .energyCeiling then 1 else 2) part digest burnOk
        else if k = .csRollback && !burnOk then d.raise 2 true else d
      if coversSeveral k || (k = .program && c.boundary = 1) then d.releaseGroups k n c else d

/-! ### The commit write (R29, R33, R34) -/

/-- A commit accepted: it takes effect at once where the unit is idle and nothing is to be loaded or burned, and waits otherwise. One that
comes too late for a boundary the drill has passed is carried past it (R29, R133). -/
def Dev.acceptCommit (d : Dev) (m : Mem) (path : Path) (key b : Nat) (k : GKind) (n : Nat) : Dev :=
  let idle := d.groupIdle k n
  let load := d.needsLoad k n b
  let c : CommitSt :=
    { d.commitOf key with status := 2, boundary := b, acceptedAt := d.now, loading := load, path := Path.number path
                          carried := none }
  let d := (d.setCommit key c).askLoads m key k n
  if k = .csImage then { d with store := { d.store with writing := some (d.domBytes m (d.stagedVal Obj.csImage)) } }
  else if isCounted k || k = .csRollback then d
  else if load then (if (k = .program && b = 1) || k = .wave then d.setDrill n { d.drill n with held := true } else d)
  else if k = .monitor then (if d.monitor.runs then d else d.meetBoundary m key k n d.now true)
  else if idle && !(k = .memory && d.jobsOnChanged) then d.meetBoundary m key k n d.now true
  else if b = 2 then
    let passed := (d.drill n).segEnds.filter (fun e => d.now < e)
    if passed.isEmpty then d else (d.bumpBy Obj.devCommitsDeferred passed.length).bump (Obj.laneLateJumps n)
  else if !(coversSeveral k) && k != .disc then
    let x := d.group (d.groupOf n)
    if !x.inShot && d.now < x.prevEnd then d.shotCommits n x.prevEnd else d
  else d

/-- Whether an object is a DOMAIN. -/
def domNamed (key : Nat) : Bool := (rowAt (keyIndex key) (keySub key)).any (fun r => r.ty = .domain)
/-- A commit write with boundary 1, 2 or 3: the refusals of R28, R29, R32–R34, R37, R39, R53, R259, R305 and R477, then acceptance. DESIGN CHOICE:
they are tried in this order, so that a group that fails its check answers that before the unit's idleness is tested (log entry 30). -/
def Dev.commitWrite (d : Dev) (m : Mem) (path : Path) (key b : Nat) (force : Bool) (k : GKind) (n : Nat) : Dev × Nat :=
  let paths := ((d.staged.filter (fun p => memberOf (keyIndex p.1) (keySub p.1) = some (k, n))).map (fun p => p.2.2)).eraseDups
  let refuse := fun (e : Dev) (code : Nat) => (e.refuseCommit key code, code)
  if (d.commitOf key).status = 2 then (d, abortPending)
  else if !(bit (boundaryMask k) (b - 1)) then refuse d (boundaryAbort k b)
  else if d.groupVoid k n then refuse (d.countVoid k n) abortVoid
  else if k = .bias && (d.faultHolds || d.power.preparing) then refuse d abortState
  else if d.val Obj.memState = 4 && (groupFields k n).any (fun x => domNamed x && domLength (d.stagedVal x) != 0) then refuse d abortState
  else if 1 < paths.length && !force then refuse d abortPaths
  else if isCounted k && d.val Obj.devChangeRecordsLeft = 0 then refuse d abortRecords
  else if (isCounted k || k = .csRollback) && d.groupDigest k n != d.val Obj.devCntExpectedDigest then refuse d abortDigest
  else
    let r := d.groupCheck m k n (if k = .program && b = 3 then some (d.drill n).image else none)
    if r.2 != 0 then refuse r.1 r.2
    else if b = 1 && (d.readsLive k n || !(d.groupIdle k n)) then refuse r.1 abortBusy
    else (r.1.acceptCommit m path key b k n, 0)

/-- Frame records that travel for a lane-group commit. -/
def Timed.ofCommit : Timed → Bool
  | .frame _ _ _ _ c => c
  | _ => false
/-- The records of a lane's cancelled commit withdrawn, and a drill it held let go. -/
def Dev.dropCarried (d : Dev) (l : Nat) : Dev :=
  let c := d.chain l
  let d := d.setChain l { c with timed := c.timed.filter (fun x => !x.req.ofCommit), frameQ := c.frameQ.filter (fun x => !x.ofCommit) }
  let r := d.drill l
  d.setDrill l { r with shadow := r.shadow.map (fun s => { s with timed := s.timed.filter (fun x => !x.req.ofCommit) }) }
/-- Staged values and a pending commit cancelled (R33). -/
def Dev.cancelCommit (d : Dev) (key : Nat) (k : GKind) (n : Nat) : Dev :=
  let c := d.commitOf key
  let ks := d.stagedKeys k n
  let d := { d with staged := d.staged.filter (fun p => !(ks.contains p.1)) }
  let d := d.setCommit key { c with status := 0, boundary := 0, loading := false, carried := none }
  if c.status != 2 then d
  else match k with
    | .lane => if c.carried.isSome then d.dropCarried n else d
    | .program => (d.setDrill n { d.drill n with held := false }).dropNext n
    | .wave => d.setDrill n { d.drill n with held := false }
    | .csImage => { d with store := { d.store with writing := none } }
    | _ => d

/-- A commit object written (Table 2-4). DESIGN CHOICE: a write with a Status or Reason bit set is refused with 0x06090030, as for a reserved
bit (R20; log entry 51). -/
def Dev.writeCommit (d : Dev) (m : Mem) (path : Path) (key value : Nat) : Dev × Nat :=
  match commitAt (keyIndex key) (keySub key) with
  | none => (d, abortOperation)
  | some (k, n) =>
    if value / 512 != 0 || bits value 7 2 != 0 then (d, abortRange)
    else if bits value 1 0 = 0 then (d.cancelCommit key k n, 0)
    else d.commitWrite m path key (bits value 1 0) (bit value 8) k n

/-- A commit command: a write of a commit object through its gate; nothing for an object of another kind. -/
def commitCommand (t : Nat) (path : Path) (index sub boundary : Nat) (force : Bool) (s : State) : Host.Outcome State Fault Refusal :=
  devStep t (fun m d =>
    match commitAt index sub with
    | none => d
    | some _ => d.gated path (index * 256 + sub) (boundary + ofBool force * 256) (fun d => d.writeCommit m path (index * 256 + sub) (boundary + ofBool force * 256))) s

/-- COMMIT_CANCEL (R33). -/
def execCommitCancel (t : Nat) (path : Path) (index sub : Nat) (force : Bool) (s : State) : Host.Outcome State Fault Refusal :=
  commitCommand t path index sub 0 force s
/-- COMMIT_IMMEDIATE_IF_IDLE (R29, R490). -/
def execCommitImmediateIfIdle (t : Nat) (path : Path) (index sub : Nat) (force : Bool) (s : State) : Host.Outcome State Fault Refusal :=
  commitCommand t path index sub 1 force s
/-- COMMIT_NEXT_SEGMENT_END (R29, R133). -/
def execCommitNextSegmentEnd (t : Nat) (path : Path) (index sub : Nat) (force : Bool) (s : State) : Host.Outcome State Fault Refusal :=
  commitCommand t path index sub 2 force s
/-- COMMIT_NEXT_SHOT_BOUNDARY (R29, R30). -/
def execCommitNextShotBoundary (t : Nat) (path : Path) (index sub : Nat) (force : Bool) (s : State) : Host.Outcome State Fault Refusal :=
  commitCommand t path index sub 3 force s

/-! ### Boundaries and loads that come (R30, R31, R312, R490) -/

/-- Whether a pending commit's boundary has come: the one its lane's drill carries, or idleness of its unit (R29, R138, R200, R275). -/
def Dev.boundaryDue (d : Dev) (k : GKind) (n : Nat) (c : CommitSt) : Bool :=
  match k with
  | .lane | .bias | .fetch => match c.carried with
    | some e => decide (e ≤ d.now)
    | none => !(d.laneInShot n)
  | .program => c.carried.isSome || !(d.laneInShot n)
  | .csImage => false
  | .monitor => !d.monitor.runs
  | .memory => d.scopeQuiet k n && !d.jobsOnChanged
  | _ => d.groupIdle k n

/-- COMMIT_TAKE_EFFECT (R28–R32, R36–R40, R47): a pending commit whose boundary has come takes effect, or is carried past it. -/
def execCommitTakeEffect (t : Nat) (index sub : Nat) (burnOk : Bool) (s : State) : Host.Outcome State Fault Refusal :=
  devStep t (fun m d =>
    match commitAt index sub with
    | none => d
    | some (k, n) =>
      let key := index * 256 + sub
      let c := d.commitOf key
      if c.status != 2 || (c.loading && !(isCounted k)) || !(d.boundaryDue k n c) then d
      else
        let tick := if coversSeveral k || k = .disc then d.now else c.carried.getD d.now
        d.meetBoundary m key k n tick burnOk) s

/-- Where the load of a commit begins in DDR5. -/
def Dev.loadedFrom (d : Dev) (k : GKind) (n : Nat) : Nat :=
  match k with
  | .program => d.domAddr (d.stagedVal (Obj.laneProgram n))
  | .wave => d.domAddr (d.stagedVal (Obj.laneLibrary n))
  | .kernel => d.domAddr (d.stagedVal (Obj.slotKernel n))
  | .table => d.domAddr (d.stagedVal (Obj.tableContent n))
  | _ => 0
/-- A load or clearing done (R12, R147, R200, R235, R312, R490): a program's image stands by on chip until its boundary, and data that could
not be read refuse the commit (R323). -/
def Dev.loadDone (d : Dev) (m : Mem) (key : Nat) (k : GKind) (n : Nat) (memOk : Bool) : Dev × List MemOp :=
  let c := d.commitOf key
  if c.status != 2 || !c.loading || isCounted k || (k = .memory && c.boundary = 1 && d.jobsOnChanged) then (d, [])
  else if !memOk then ((d.memFail (d.loadedFrom k n)).refuseCommit key abortCheck, [])
  else
    let ops := if k = .memory then d.clearOps else []
    let d := { d.setCommit key { c with loading := false } with baleWaits := d.baleWaits.filter (fun w => w.commit != key) }
    let d := if k = .program then d.loadImage m n (c.boundary = 3) else d
    if c.boundary = 1 || d.boundaryDue k n c then (d.meetBoundary m key k n d.now true, ops)
    else
      let x := d.group (d.groupOf n)
      (if k = .program && !x.inShot && d.now < x.prevEnd then d.shotCommits n x.prevEnd else d, ops)

/-- COMMIT_LOAD_COMPLETE (R146, R147, R200, R235, R312, R323, R490). -/
def execCommitLoadComplete (t : Nat) (index sub : Nat) (memOk : Bool) (s : State) : Host.Outcome State Fault Refusal :=
  memStep t (fun m d =>
    match commitAt index sub with
    | none => (d, [])
    | some (k, n) => d.loadDone m (index * 256 + sub) k n memOk) s

/-- BALE_LOAD_DECODE (R336, R338, R348): a bale that a commit load waits for takes a free decode unit before any queued job. One that is bad leaves its
waveform without an entry, so that the commit fails the loader's check (R137, R144), and a memory error refuses it (R323). -/
def execBaleLoadDecode (t : Nat) (lane : Lane) (region offset : Nat) (memOk : Bool) (s : State) : Host.Outcome State Fault Refusal :=
  devStep t (fun m d =>
    let l := lane.val
    let mine := fun (w : BaleWait) => (w.commit = Obj.laneProgCommit l || w.commit = Obj.laneWaveCommit l) && w.region = region && w.offset = offset
    match d.baleWaits.find? mine, d.freeUnit false with
    | some w, some _ =>
      let bs := d.baleAt m region offset
      let d := { d with baleWaits := d.baleWaits.erase w }
      let d := (d.bump64 Obj.baleLoadDecodes).bump64By Obj.baleBytesIn bs.length
      let bad := match baleDecode bs with
        | .content _ => false
        | .bad _ => true
      if memOk && !bad then d
      else
        let d := d.bump Obj.baleLoadBad
        if !memOk then (d.memFail (d.regionAddr region offset)).refuseCommit w.commit abortCheck
        else
          let k : GKind := if w.commit = Obj.laneProgCommit l then .program else .wave
          let d := match (d.loaderFor m k l none).bind Loaded.failure with
            | some f => d.put (Obj.laneLoadError l) (loadErrorWord f)
            | none => d
          d.refuseCommit w.commit abortCheck
    | _, _ => d) s

end Sys2Proof.Machine
end

