-- ==== Sys2Proof/Machine/Control.lean ====
section
/-! DEFINITION. Starting and stopping lanes (Table 5-15), DevRfEnable (R60, R476), monitor results (R269–R277) and the flash write of NV
values (R41–R43). -/

namespace Sys2Proof.Machine

/-! ### Lanes (Table 5-15, R60, R116, R139) -/

/-- LaneRun written 1: refused without a program, without RF, on an unassigned or void lane; a lane that runs goes on (log entry 31). -/
def Dev.writeLaneRun (d : Dev) (l : Nat) : Dev × Nat :=
  if !(d.hasProgram l) || !(d.flag Obj.devRfEnable) || d.laneOwner l = 15 then (d, abortState)
  else if d.unitState (stripOf l) != 0 then (d, abortVoid)
  else if (d.drill l).runs then ((d.setDrill l { d.drill l with stopAtBoundary := false }).put (Obj.laneRun l) 1, 0)
  else (d.startLane l, 0)
/-- LaneRun written 2: a lane inside a shot stops at its end, any other at once, with no shot spoiled. -/
def Dev.writeLaneBoundary (d : Dev) (l : Nat) : Dev × Nat :=
  let r := d.drill l
  let inside := r.runs && r.run != .between && r.run != .atJoin && r.run != .waitOrigin
  if inside then ((d.setDrill l { r with stopAtBoundary := true }).put (Obj.laneRun l) 2, 0)
  else (((d.setDrill l (r.rest .stopped)).put (Obj.laneRun l) 0).leaveGroup l, 0)
/-- LaneRun written 0. -/
def Dev.writeLaneStop (d : Dev) (l : Nat) : Dev × Nat := (d.stopLane l .stopped, 0)
/-- LANE_RUN (R60, R115, R135, R139). -/
def execLaneRun (t : Nat) (path : Path) (lane : Lane) (s : State) : Host.Outcome State Fault Refusal :=
  devStep t (fun _ d => d.gated path (Obj.laneRun lane.val) 1 (fun d => d.writeLaneRun lane.val)) s
/-- LANE_STOP_AT_BOUNDARY (R139). -/
def execLaneStopAtBoundary (t : Nat) (path : Path) (lane : Lane) (s : State) : Host.Outcome State Fault Refusal :=
  devStep t (fun _ d => d.gated path (Obj.laneRun lane.val) 2 (fun d => d.writeLaneBoundary lane.val)) s
/-- LANE_STOP (R116, R139, R228, R229). -/
def execLaneStop (t : Nat) (path : Path) (lane : Lane) (s : State) : Host.Outcome State Fault Refusal :=
  devStep t (fun _ d => d.gated path (Obj.laneRun lane.val) 0 (fun d => d.writeLaneStop lane.val)) s

/-! ### DevRfEnable (R60, R476, R477) -/

/-- DevRfEnable written 1: partition 0 alone, never over CAN (R55), once every flux line has reached its power-up value. -/
def Dev.writeRfOn (d : Dev) (path : Path) : Dev × Nat :=
  let s := d.devState
  if Path.partition path != 0 then (d, abortAccess)
  else if path = .can then (d, abortLocal)
  else if s = 0 || s = 4 || s = 5 || d.faults.safe != 0 || d.power.preparing
      || allLanes.any (fun l => d.biasState l = 2 || d.biasState l = 4) then (d, abortState)
  else (d.put Obj.devRfEnable 1, 0)
/-- DevRfEnable written 0. -/
def Dev.writeRfOff (d : Dev) : Dev × Nat := (d.rfOff .stopped, 0)
/-- DEV_RF_ENABLE_SET (R476). -/
def execDevRfEnableSet (t : Nat) (path : Path) (s : State) : Host.Outcome State Fault Refusal :=
  devStep t (fun _ d => d.gated path Obj.devRfEnable 1 (fun d => d.writeRfOn path)) s
/-- DEV_RF_ENABLE_CLEAR (R60). -/
def execDevRfEnableClear (t : Nat) (path : Path) (s : State) : Host.Outcome State Fault Refusal :=
  devStep t (fun _ d => d.gated path Obj.devRfEnable 0 (fun d => d.writeRfOff)) s

/-! ### Monitor results (R269–R277) -/

/-- The running conversion has given its last result at a time: the last of a pass completes it (MonPasses), what waits for its end acts
(R275), else the sequence goes on (R272). -/
def Dev.monEnd (d : Dev) (m : Mem) (time : Nat) : Dev :=
  let x := d.monitor
  let d := { d with monitor := { x with phase := 0, lastActivity := time } }
  let d := if (d.monFrom (x.entry + 1)).isNone then d.bump Obj.monPasses else d
  let e := if (d.commitOf Obj.monCommit).status = 2 then d.meetBoundary m Obj.monCommit .monitor 0 time true else d
  if (d.commitOf Obj.monCommit).status = 2 && (e.commitOf Obj.monCommit).status = 3 then e
  else if x.restart then ({ e with monitor := { e.monitor with restart := false } } : Dev).monGo 0 time true
  else e.monGo (x.entry + 1) time false
/-- MON_RESULT (R269–R277): an integration ends. -/
def execMonResult (t : Nat) (value : Int) (s : State) : Host.Outcome State Fault Refusal :=
  devStep t (fun m d =>
    let x := d.monitor
    let time := d.monNextEnd
    if x.phase != 2 || d.now < time then d
    else
      let count := d.monField x.entry 39 24
      let d := d.monRecord value time
      if d.monitor.results < count then d else d.monEnd m time) s

/-! ### Flash (R41–R43) -/

/-- NV_FLASH_WRITE (R41–R43): the values written since the last flash write go to flash in one write. What one write adds to the highest
erase count, 0 or 1, is left open (log entry 32). -/
def execNvFlashWrite (t : Nat) (s : State) : Host.Outcome State Fault Refusal :=
  devStep t (fun _ d =>
    if d.nv.pending.isEmpty then d
    else
      let stored := d.nv.pending.foldl (fun m k => SMap.set m k (d.val k)) d.nv.stored
      let wear := d.val Obj.devNvWear + d.freeNow % 2
      let d := { d.used with nv := { d.nv with pending := [], stored := stored, writes := d.nv.writes + 1 } }
      let d := d.put Obj.devNvWear wear
      if 90000 ≤ wear && !d.nv.noticed then ({ d with nv := { d.nv with noticed := true } } : Dev).raise 115 true else d) s

end Sys2Proof.Machine
end

