-- ==== Sys2Proof/Machine/Power.lean ====
section
/-! DEFINITION. Rails, resets, start-up, power-down and the boundary scan (chapter 21, R485). -/

namespace Sys2Proof.Machine

/-! ### What a reset keeps (R24, R470, R478, Table 21-5) -/

/-- Read-only objects held in flash, in fuses or on the VAUX island: change records, wear, image slots, temperature sets, and the rails. -/
def keptObject (k : Nat) : Bool :=
  let i := keyIndex k
  i = 0x2002 || i = 0x2003 || k = Obj.devChangeRecordsLeft || k = Obj.devNvWear || k = Obj.csNextSlot || k = Obj.csActiveSlot || i = 0x2602
    || i = 0x2603 || i = 0x2021 || i = 0x2022
/-- Objects after a reset: CNT values and those kept as they are, NV values as flash holds them, every other at its default. -/
def Dev.objsKept (d : Dev) : SMap Nat :=
  let fixed := d.objs.filter (fun p => keptObject p.1
    || (rowAt (keyIndex p.1) (keySub p.1)).any (fun r => r.acc = .cnt))
  d.nv.stored.foldl (fun m p => SMap.set m p.1 p.2) fixed

/-- The block after a reset of every unit outside the VAUX island (Table 21-2): `cause` as PwrResetCause has it. Staged writes, pending
commits and a flash write in progress are gone; each bias output holds its code; each MARK ball goes low. -/
def Dev.resetAll (d : Dev) (cause : Nat) : Dev :=
  let held := allLanes.map (fun l => let b := d.biasOut l; (l, { b with move := .held, lastStep := none, effect := 0, byRequest := false, heldTill := 0, failed := false }))
  let low := d.pins.filter (fun p => p.2)
  let r := Dev.reset
  let e : Dev := { r with
    now := d.now
    objs := SMap.set d.objsKept Obj.pwrResetCause cause
    power := { d.power with inReset := true, preparing := false, readsOpen := false, waited := 0 }
    nv := { d.nv with pending := [], noticed := false }
    biases := held
    energy := { r.energy with ceilingValid := d.energy.ceilingValid, profileValid := d.energy.profileValid }
    faults := { r.faults with sticky := d.faults.sticky &&& graveMask, active := d.faults.active &&& graveMask, safe := if d.faults.safe = 2 then 2 else 0 }
    calib := { r.calib with sets := d.calib.sets, drift := d.calib.drift }
    ageing := { r.ageing with log := d.ageing.log, retire := d.ageing.retire, operated := d.ageing.operated }
    store := { r.store with slotA := d.store.slotA, slotB := d.store.slotB }
    free := d.free
    out := d.out }
  low.foldl (fun e p => e.emit (.markPin p.1 false d.now)) e

/-! ### Start-up (R473–R475, Table 21-3) -/

/-- Whether a change record of a kind has been burned (R250). -/
def Dev.recordBurned (d : Dev) (kind : Nat) : Bool := (List.range 32).any (fun j => bits (d.val (Obj.devChangeRecord j)) 39 36 = kind)
/-- Digest of the latest change record of a kind (R38). -/
def Dev.burnedDigest (d : Dev) (kind : Nat) : Nat :=
  bits (d.val (Obj.devChangeRecord ((((List.range 32).reverse).find? (fun j => bits (d.val (Obj.devChangeRecord j)) 39 36 = kind)).getD 0))) 31 0
/-- Whether the energy set of a kind that flash holds passes the check of R250: a record of its kind is burned, and the latest has its digest. -/
def Dev.setHolds (d : Dev) (kind : Nat) (k : GKind) : Bool := d.recordBurned kind && d.burnedDigest kind = d.groupDigest k 0
/-- The energy sets read at start-up: one that fails its check, with a record of its kind burned, raises bit 113 (R250). -/
def Dev.startEnergy (d : Dev) : Dev :=
  let ceiling := d.setHolds 1 .energyCeiling
  let profile := d.setHolds 2 .energyProfile
  let failed := (d.recordBurned 1 && !ceiling) || (d.recordBurned 2 && !profile)
  let d : Dev := { d with energy := { d.energy with ceilingValid := ceiling, profileValid := profile } }
  if failed then d.raise 113 false else d
/-- Why start-up stops or waits at step 1, as PwrStartStop has it; 0 when it goes on (R474; log entry 33). -/
def Dev.startStop (d : Dev) : Nat :=
  if d.faults.safe = 2 then (if d.power.fuseOk then 1 else 2)
  else if !d.power.fuseOk then 2
  else if !d.power.refOk then 4
  else if (d.faults.active &&& severeMask) != 0 then 5
  else if !(d.slotOk 0) && !(d.slotOk 1) then 3
  else 0
/-- Step 2: every bias output goes to its power-up value, or to its fault value while the safe state holds (R265); a value never stored
raises the Notice. -/
def Dev.startBiases (d : Dev) : Dev :=
  let fault := d.faultHolds
  let moved := allLanes.map (fun l =>
    let v := bits (d.val (if fault then Obj.biasFaultValue l else Obj.biasPowerUpValue l)) 17 0
    (l, { d.biasOut l with move := if fault then .fault else .powerUp, target := v, effect := d.now, byRequest := false, heldTill := 0, lastStep := none }))
  let d := ({ d with biases := moved } : Dev).stampTargets
  let missing := allLanes.any (fun l => [Obj.biasPowerUpValue l, Obj.biasFaultValue l].any (fun k => (SMap.find d.nv.stored k).isNone))
  d.holdFault 125 missing
/-- Step 3: the calibration set interpolated, and every tap but the bias trims loaded at its target (R420, R421). -/
def Dev.startCalib (d : Dev) : Dev :=
  let d := d.updateTargets
  let load := d.calib.targets.filter (fun p => tapItem p.1 != 3)
  { d with calib := { d.calib with taps := load.foldl (fun m p => SMap.set m p.1 p.2) d.calib.taps } }
/-- Start-up from the checks of step 1 on: memory starts training once fuses, latch and reference have passed; without an image every
engine stays void (R459); otherwise steps 2 to 4 follow and step 5 waits for memory. -/
def Dev.startOn (d : Dev) : Dev :=
  let why := d.startStop
  let d := (d.put Obj.pwrStartStep 1).put Obj.pwrStartStop why
  let d := if why != 1 && why != 2 && why != 4 && d.val Obj.memState = 0 then d.put Obj.memState 1 else d
  if why = 3 then
    (List.range 64).foldl (fun e k => if k < 16 then (e.put (Obj.stripState k) 1).put (Obj.tileState k) 1 else e.put (Obj.stripState k) 1) d
  else if why != 0 then d
  else
    let active := if d.slotOk (d.val Obj.csNextSlot) then d.val Obj.csNextSlot else 1 - d.val Obj.csNextSlot
    let d := (List.range 64).foldl (fun e k => e.put (Obj.csStripSlot k) active) (d.put Obj.csActiveSlot active)
    let d := d.startEnergy
    ((d.startBiases.startCalib).recompute 7).put Obj.pwrStartStep 4
/-- Start-up begins: grid time starts at 0 (R62), wall time reads 0, CAN boots, the PCI Express link trains, a rail out of its range sets
its bit again, and a fuse bank that does not verify raises the Grave fault (R40, R474). DESIGN CHOICE: while start-up waits for the reference,
TimeGridNow counts from here and TimeGridState reads 1 (R62; log entry 33). -/
def Dev.startUp (d : Dev) (fuseOk refOk : Bool) : Dev :=
  let d := { d with
    now := 0
    ageing := { d.ageing with operated := d.ageing.operated + d.now }
    power := { d.power with inReset := false, readsOpen := true, waited := 0, fuseOk := fuseOk, refOk := refOk } }
  let d := (d.put Obj.timeGridState (if d.val Obj.timeEpochRole = 2 then 0 else 1)).put Obj.timeRefState (if refOk then 0 else 1)
  let d := d.canReset.put Obj.pcieLinkState 1
  let d := (List.range 8).foldl (fun e r => if e.val (Obj.pwrRailState r) = 0 then e else e.raise (9 + r) true) d
  let d := if fuseOk then d else d.raise 2 true
  d.startOn

/-- RESET_N_ASSERT (R471, R472): a low of 10 µs or longer is always taken, one shorter than 1 µs never, one between as `taken` says. -/
def execResetNAssert (t : Nat) (lowNs : Nat) (taken : Bool) (s : State) : Host.Outcome State Fault Refusal :=
  islandStep t (fun _ d =>
    if d.power.pinLow || lowNs < 1000 || (lowNs < 10000 && !taken) then d
    else
      let e := d.resetAll 1
      { e with power := { e.power with pinLow := true } }) s

/-- RESET_N_RELEASE (R62, R473, R474): RESET_N rises; unless the reset of R467 still holds, start-up runs its steps. -/
def execResetNRelease (t : Nat) (fuseOk refOk : Bool) (s : State) : Host.Outcome State Fault Refusal :=
  islandStep t (fun _ d =>
    if !d.power.pinLow then d
    else
      let d := { d with power := { d.power with pinLow := false, fuseOk := fuseOk, refOk := refOk } }
      if d.power.internal then d else d.startUp fuseOk refOk) s

/-- STARTUP_RESUME (R474): the reference qualifies and grid time starts at 0, or the last Severe condition has ended. -/
def execStartupResume (t : Nat) (s : State) : Host.Outcome State Fault Refusal :=
  devStep t (fun _ d =>
    let why := d.val Obj.pwrStartStop
    if why = 4 then
      let w := d.now
      let d := d.shiftTimes (-(d.now : Int))
      let d := { d with power := { d.power with refOk := true, waited := d.power.waited + w } }
      (d.put Obj.timeRefState 0).startOn
    else if why = 5 && d.startStop != 5 then d.startOn
    else d) s

/-- STARTUP_STEP_5 (R473): step 4 has ended and memory is ready or has failed; ports come up as their groups state, and DevState
becomes 1. -/
def execStartupStep5 (t : Nat) (s : State) : Host.Outcome State Fault Refusal :=
  devStep t (fun _ d =>
    if d.val Obj.pwrStartStep != 4 || (d.val Obj.memState != 3 && d.val Obj.memState != 4) then d
    else
      let d := ((d.put Obj.pwrStartStep 6).put Obj.devState 1).put Obj.pwrStartTime (wrap 32 ((d.power.waited + d.now) / ticksUs))
      (List.range 4).foldl (fun e p => if e.flag (Obj.ggPortEnable p) then e.detect p else e) d) s

/-! ### Rails (R465–R468, Table 21-1) -/

/-- Range of a rail in mV: for VCORE the outermost of its set points. -/
def railRange (r : Nat) : Int × Int :=
  match r with
  | 0 => (700, 800)
  | 1 => (873, 927)
  | 2 => (1746, 1854)
  | 3 => (1067, 1133)
  | 4 => (1746, 1854)
  | 5 => (6790, 7210)
  | 6 => (-7210, -6790)
  | _ => (3135, 3465)
/-- 80 % of nominal of the rails whose fall resets the device; for VCORE of its highest set point. -/
def resetLevel (r : Nat) : Option Int :=
  match r with
  | 0 => some 640
  | 1 => some 720
  | 2 => some 1440
  | 3 => some 880
  | 4 => some 1440
  | _ => none
/-- The supervisor's reading and finding of a rail. -/
def Dev.seeRail (d : Dev) (r : Nat) (mv : Int) (state : Nat) : Dev :=
  (d.put (Obj.pwrRailVoltage r) (ofInt 32 mv)).put (Obj.pwrRailState r) state

/-- RAIL_OUT_OF_RANGE (R467): the rail's Severe bit is set. VCORE's range lies about a set point the device does not know, so any voltage
may be outside it. VBIAS below 80 % of nominal leaves the outputs unpowered (log entry 33). -/
def execRailOutOfRange (t : Nat) (rail : Fin 8) (millivolt : Int) (s : State) : Host.Outcome State Fault Refusal :=
  islandStep t (fun _ d =>
    let r := rail.val
    if r != 0 && (railRange r).1 ≤ millivolt && millivolt ≤ (railRange r).2 then d
    else
      let d := d.seeRail r millivolt 1
      let d := if (r = 5 || r = 6) && millivolt.natAbs < 5600 then { d with power := { d.power with biasUp := false } } else d
      if d.power.inReset then d else d.raise (9 + r) true) s

/-- RAIL_BELOW_RESET_LEVEL (R467): a main rail below 80 % of nominal resets the device, which holds that reset. -/
def execRailBelowResetLevel (t : Nat) (rail : Fin 8) (millivolt : Int) (s : State) : Host.Outcome State Fault Refusal :=
  islandStep t (fun _ d =>
    match resetLevel rail.val with
    | none => d
    | some level =>
      if level ≤ millivolt then d
      else
        let e := (d.seeRail rail.val millivolt 2).resetAll 2
        { e with power := { e.power with internal := true } }) s

/-- RAIL_RECOVERED (R467): every main rail has been back in its range for 1 ms; the internal reset ends, and start-up begins again with
what the fuse bank's and the reference's latest checks found (log entry 33). -/
def execRailRecovered (t : Nat) (s : State) : Host.Outcome State Fault Refusal :=
  islandStep t (fun _ d =>
    if !d.power.internal then d
    else
      let d := (List.range 5).foldl (fun e r => e.put (Obj.pwrRailState r) 0) d
      let d := { d with power := { d.power with internal := false } }
      if d.power.pinLow then d else d.startUp d.power.fuseOk d.power.refOk) s

/-- RAIL_BACK_IN_RANGE (R265, R467): the condition of the rail's bit ends; outputs that were unpowered hold 0 V from the moment both VBIAS
rails are valid until start-up step 2. -/
def execRailBackInRange (t : Nat) (rail : Fin 8) (millivolt : Int) (s : State) : Host.Outcome State Fault Refusal :=
  islandStep t (fun _ d =>
    let r := rail.val
    if millivolt < (railRange r).1 || (railRange r).2 < millivolt then d
    else
      let d := (d.seeRail r millivolt 0).unraise (9 + r)
      let valid := d.val (Obj.pwrRailState 5) = 0 && d.val (Obj.pwrRailState 6) = 0
      if d.power.biasUp || !valid then d
      else
        let d := { d with power := { d.power with biasUp := true } }
        if d.power.inReset || d.val Obj.pwrStartStep ≤ 1 then
          { d with biases := allLanes.map (fun l => (l, { d.biasOut l with code := 131072, move := .held, lastStep := none })) }
        else d) s

/-- VAUX_LOSS (R445, R467, R470, R478): the whole device resets, the Grave latch and bits included; flash and fuse contents stay. The
installation holds RESET_N low until the rails are back (R468; log entry 33). -/
def execVauxLoss (t : Nat) (s : State) : Host.Outcome State Fault Refusal :=
  vauxStep t (fun d =>
    let e := d.resetAll 0
    { e with
      objs := e.objs.filter (fun p => keyIndex p.1 != 0x2021 && keyIndex p.1 != 0x2022)
      biases := allLanes.map (fun l => (l, { e.biasOut l with code := 131072, target := 131072, move := .held }))
      faults := Dev.reset.faults
      power := { e.power with vauxUp := false, biasUp := false, pinLow := true, internal := false } }) s

/-- VAUX_POWER_UP (R468): the island starts from its cleared state, the rest held in reset. -/
def execVauxPowerUp (t : Nat) (s : State) : Host.Outcome State Fault Refusal :=
  vauxStep t (fun d => if d.power.vauxUp then d else { d with power := { d.power with vauxUp := true } }) s

/-! ### Power-down (R477) -/

/-- PwrPrepareOff written 1: RF off, every bias output to its fault value. -/
def Dev.writePrepareOff (d : Dev) : Dev × Nat :=
  let d := (d.rfOff .stopped).biasesToFault
  ({ d with power := { d.power with preparing := true } }, 0)
/-- PwrPrepareOff written 0 ends the preparation. -/
def Dev.writePrepareEnd (d : Dev) : Dev × Nat := ({ d with power := { d.power with preparing := false } }, 0)
/-- PWR_PREPARE_OFF (R477). -/
def execPwrPrepareOff (t : Nat) (path : Path) (s : State) : Host.Outcome State Fault Refusal :=
  devStep t (fun _ d => d.gated path Obj.pwrPrepareOff 1 (fun d => d.writePrepareOff)) s
/-- PWR_PREPARE_OFF_END (R477). -/
def execPwrPrepareOffEnd (t : Nat) (path : Path) (s : State) : Host.Outcome State Fault Refusal :=
  devStep t (fun _ d => d.gated path Obj.pwrPrepareOff 0 (fun d => d.writePrepareEnd)) s
/-- PwrReadyForOff (R477). -/
def Dev.readyForOff (d : Dev) : Bool :=
  d.power.preparing && d.nv.pending.isEmpty && allLanes.all (fun l => d.biasState l = 0 || d.biasState l = 3)

/-! ### Boundary scan (R485) -/

/-- JTAG_EXTEST (R485): boundary cells are driven while RESET_N is low; at other times the instruction acts as BYPASS. -/
def execJtagExtest (t : Nat) (cells : List Bool) (s : State) : Host.Outcome State Fault Refusal :=
  islandStep t (fun _ d => if d.power.pinLow then d.emit (.boundaryCells cells) else d) s

end Sys2Proof.Machine
end

