-- ==== Sys2Proof/Machine/Serve.lean ====
section
/-! DEFINITION. The mailbox protocol (R16–R24, R35, R44–R56, R491): what a read, a write, a read-staged, a read-group and a describe answer,
the BAR0 mailbox (R356, R357) and the CAN mapping (R54, R368, R369). -/

namespace Sys2Proof.Machine

/-! ### What an object reads as (R22, R23) -/

/-- Objects of a lane that report what stands elsewhere in the device. -/
def Dev.laneObject (d : Dev) (l sub : Nat) : Option Nat :=
  let r := d.drill l
  if sub = 0x08 then some (d.laneState l)
  else if sub = 0x0A then some (bits ((r.shadow.map Shadow.pc).getD r.pc) 19 0)
  else if sub = 0x23 then some (if r.seg.isSome then 0x8000 + bits (d.val (Obj.laneSegEntry l)) 11 0 else 0)
  else if sub = 0x40 then some (d.val (Obj.laneStreamRate l))
  else if sub = 0x43 then some (d.val (Obj.laneFetchRate l))
  else none

/-- Objects of ranges 0x2200, 0x2300 and 0x2400 that report what the governor, the thermal model and the fault collector hold. -/
def Dev.watchObject (d : Dev) (idx sub : Nat) : Option Nat :=
  if idx = 0x2200 && sub = 1 then some (ofBool !(d.energy.ceilingValid && d.energy.profileValid))
  else if idx = 0x2203 then some (wrap 64 (windowNow (SMap.look d.energy.stageCharge (sub - 1) []) ((sub - 1) % 3) d.now))
  else if 0x2230 ≤ idx && idx ≤ 0x223B then
    let w := (idx - 0x2230) / 4
    let l := 128 * ((idx - 0x2230) % 4) + sub - 1
    some (wrap 64 (windowNow (SMap.look d.energy.laneCharge (3 * l + w) []) w d.now))
  else if idx = 0x2300 && sub = 5 then some (ofInt 16 (satI 16 (centi d.thermal.coolant)))
  else if idx = 0x2301 then some (ofInt 16 (satI 16 (centi (d.predicted (sub - 1)))))
  else if idx = 0x2304 then some (ofInt 16 (satI 16 (centi (d.dieOffset (sub - 1)))))
  else if idx = 0x2400 && sub = 1 then some d.faults.safe
  else if idx = 0x2400 && sub = 3 then some (wrap 32 ((d.faults.handler.map (fun h => (h - d.now) / ticksUs)).getD 0))
  else if idx = 0x2401 then some (bits d.faults.sticky (64 * sub - 1) (64 * sub - 64))
  else if idx = 0x2402 then some (bits d.faults.active (64 * sub - 1) (64 * sub - 64))
  else none

/-- Objects of ranges 0x2600 to 0x2FFF that report what their unit holds. -/
def Dev.unitObject (d : Dev) (idx sub : Nat) : Option Nat :=
  if idx = 0x2600 && sub = 0x0D then some (ofInt 16 (satI 16 d.lidTemp))
  else if idx = 0x2600 && sub = 0x0E then some (wrap 32 d.tapsPending)
  else if idx = 0x2700 && sub = 6 then some (wrap 32 d.operatingHours)
  else if idx = 0x2700 && sub = 7 then some d.hoursLeftMin
  else if idx = 0x2700 && sub = 8 then some d.worstUnit
  else if idx = 0x2700 && sub = 9 then some d.retireDate
  else if idx = 0x2714 then some (d.hoursLeft (sub - 1))
  else if idx = 0x2700 && sub = 0x0A then some 150
  else if idx = 0x2710 then some (wrap 16 (Config.ageBaseline (sub - 1)))
  else if idx = 0x2800 && sub = 3 then some 286720
  else if idx = 0x2800 && sub = 4 then some d.allGrants
  else if idx = 0x2804 then some (d.partGrant (sub - 1))
  else if idx = 0x2900 && sub = 1 then some (ofBool (d.bale.any (fun q => q.2.any (fun j => j.started && !j.ended))))
  else if idx = 0x2900 && sub = 2 then
    let busy := fun (u : Nat) => d.bale.any (fun q => q.2.any (fun j => j.started && !j.ended && j.unit = u))
    some (((List.range 6).map (fun u => 2 ^ u * ofBool (busy u))).sum)
  else if 0x2A40 ≤ idx && idx ≤ 0x2A47 && sub = 0x11 then some (d.capState (idx - 0x2A40))
  else if 0x2B10 ≤ idx && idx ≤ 0x2B1F && sub = 0x13 then some (d.trig (idx - 0x2B10)).queue.length
  else if idx = 0x2C00 && sub = 0x10 then some d.monitor.phase
  else if idx = 0x2C00 && sub = 0x11 then some d.monitor.entry
  else if idx = 0x2C00 && sub = 0x13 then some (ofBool d.monitor.held)
  else if idx = 0x2C00 && sub = 0x15 then some (d.monitor.spare + 128 * ofBool d.monitor.lent)
  else if idx = 0x2E02 then some (d.dmaState (sub - 1))
  else if idx = 0x2F00 && (sub = 7 || sub = 8) then some (if d.slotOk (sub - 7) then (d.store.slot (sub - 7)).security else 0)
  else if idx = 0x2F00 && sub = 0x12 then some (64 - d.val Obj.csRollbackCounter)
  else if 0x2F40 ≤ idx && idx ≤ 0x2F7F && sub = 5 then some (d.userState (idx - 0x2F40))
  else none

/-- Objects of ranges 0x1000 to 0x21FF that report what the device holds. -/
def Dev.deviceObject (d : Dev) (path : Path) (idx sub : Nat) : Option Nat :=
  if idx = 0x1001 then some d.errorRegister
  else if idx = 0x1018 && sub = 1 then some 0x0052A7D1
  else if idx = 0x1018 && sub = 2 then some 0x00005120
  else if idx = 0x1018 && sub = 3 then some 0x00010001
  else if idx = 0x1018 && sub = 4 then some Config.serialNumber
  else if idx = 0x2000 && sub = 1 then some d.devState
  else if idx = 0x2004 && sub = 2 then some (100000 - d.val Obj.devNvWear)
  else if idx = 0x2010 && sub = 1 then some d.vptInUse
  else if idx = 0x2020 && sub = 4 then some (wrap 16 (Config.vcoreAdvice d.vcore ((List.range 64).map (fun k => (d.stageDelay k, d.junction k)))))
  else if idx = 0x2020 && sub = 6 then some (ofBool d.readyForOff)
  else if idx = 0x2100 && sub = 1 then some (wrap 64 d.now)
  else if idx = 0x2101 && sub = 1 then some (wallWord d.wallNow)
  else if idx = 0x2101 && sub = 4 then some (wrap 64 (SMap.look d.clock.snaps (Path.number path) (0, 0)).1)
  else if idx = 0x2101 && sub = 5 then some (SMap.look d.clock.snaps (Path.number path) (0, 0)).2
  else none

/-- The value of an object, commit objects by Table 2-4: status in bits [18:16], reason in bits [31:24]. -/
def Dev.objectValue (d : Dev) (path : Path) (idx sub : Nat) : Nat :=
  let key := idx * 256 + sub
  let special :=
    if (commitAt idx sub).isSome then
      let c := d.commitOf key
      some (c.status * 2 ^ 16 + c.reason * 2 ^ 24)
    else if idx < 0x2200 then d.deviceObject path idx sub
    else if idx < 0x2500 then d.watchObject idx sub
    else if idx < 0x3000 then d.unitObject idx sub
    else if idx < 0x3200 then d.laneObject (idx - 0x3000) sub
    else if idx < 0x3400 && sub = 5 then some (bits (d.biasOut (idx - 0x3200)).code 17 0)
    else if idx < 0x3400 && sub = 6 then some (d.biasState (idx - 0x3200))
    else if 0x3840 ≤ idx && idx < 0x3880 && 0x10 ≤ sub && sub ≤ 0x17 then some (d.leadMinOf (8 * (idx - 0x3840) + (sub - 0x10)))
    else if 0x3400 ≤ idx && idx < 0x3440 && sub = 5 then
      some (((List.range 16).map (fun k => 2 ^ k * ofBool (d.slotOpen (16 * (idx - 0x3400) + k)))).sum)
    else none
  special.getD (d.val key)

/-- The text of a STRING object (Table 2-9). -/
def Dev.objectText (d : Dev) (idx : Nat) : List Byte :=
  if idx = 0x1008 then textBytes "ZQ5120"
  else if idx = 0x1009 then textBytes "A1"
  else (d.store.slot (d.val Obj.csActiveSlot)).versionText

/-- The bytes a read of an object answers (R19). -/
def Dev.readBytes (d : Dev) (path : Path) (r : Row) (idx sub : Nat) : List Byte :=
  if r.ty = .str then d.objectText idx
  else if sub = 0 && r.acc = .ro && (rowAt idx 0).isNone then leBytes 1 r.dflt
  else leBytes r.ty.size (d.objectValue path idx sub)

/-! ### An answer (R49) -/

/-- What a request answers: the object's type code, the data, and the abort code. -/
structure Answer where
  ty : Nat
  data : List Byte
  abort : Nat
deriving DecidableEq, Repr

/-- A request refused. -/
def Answer.refuse (ty abort : Nat) : Answer := { ty := ty, data := [], abort := abort }

/-- The checks every request passes (R17, R45, R48, R49, R354), then what the operation answers. -/
def Dev.checked (d : Dev) (path : Path) (req : Request) (write : Bool) (f : Row → Answer) : Answer :=
  if !(d.pathOpen path) then .refuse 0 abortState
  else match lookupRow req.index req.sub with
  | .inr a => .refuse 0 a
  | .inl r =>
    let p := Path.partition path
    if !(if write then d.mayWrite p req.index req.sub else d.mayRead p req.index req.sub) then .refuse r.ty.code abortAccess
    else if req.typ != 0 && req.typ != r.ty.code then .refuse r.ty.code 0x06070010
    else f r

/-- READ (R22): the current or active value; a write-only object has none. -/
def Dev.answerRead (d : Dev) (path : Path) (req : Request) : Answer :=
  d.checked path req false (fun r =>
    if r.acc = .wo then .refuse r.ty.code 0x06010001
    else { ty := r.ty.code, data := d.readBytes path r req.index req.sub, abort := 0 })

/-- READ_STAGED (R491): the staging-buffer entry of an RWC or CNT object; not over CAN (R54). -/
def Dev.answerStaged (d : Dev) (path : Path) (req : Request) : Answer :=
  if path = .can then .refuse 0 abortOperation
  else d.checked path req false (fun r =>
    if r.acc = .rwc || r.acc = .cnt then
      { ty := r.ty.code, data := leBytes r.ty.size (d.stagedVal (req.index * 256 + req.sub)), abort := 0 }
    else .refuse r.ty.code abortOperation)

/-- READ_GROUP (R35): every field of the group, active values, in ascending order; not over CAN (R54). -/
def Dev.answerGroup (d : Dev) (path : Path) (req : Request) : Answer :=
  if path = .can then .refuse 0 abortOperation
  else d.checked path req false (fun r =>
    match memberOf req.index req.sub with
    | none => .refuse r.ty.code abortOperation
    | some (k, n) =>
      { ty := r.ty.code, abort := 0
        data := ((groupFields k n).map (fun x => match rowAt (keyIndex x) (keySub x) with
          | some m => leBytes m.ty.size (d.val x)
          | none => [])).flatten })

/-- DESCRIBE (R50): type, access, boundaries, commit object, and the default of an object that has one (R24); not over CAN (R54). -/
def Dev.answerDescribe (d : Dev) (path : Path) (req : Request) : Answer :=
  if path = .can then .refuse 0 abortOperation
  else d.checked path req false (fun r =>
    let group := memberOf req.index req.sub
    let mask := (group.map (fun p => boundaryMask p.1)).getD 0
    let key := (group.map (fun p => commitKey p.1 p.2)).getD 0
    let dflt := if r.acc = .ro || r.acc = .wo || r.acc = .konst then [] else leBytes r.ty.size (d.dflt (req.index * 256 + req.sub))
    { ty := r.ty.code, abort := 0
      data := leBytes 2 r.ty.code ++ leBytes 1 r.acc.code ++ leBytes 1 mask ++ leBytes 2 (keyIndex key) ++ leBytes 1 (keySub key)
        ++ leBytes 1 0 ++ dflt })

/-! ### Writes (R20, R22, R26, R33, R41–R44) -/

/-- The partition of a listener object that names an event channel (R365, R408): a capture engine's is its owner's, one without an owner is
partition 0's. -/
def Dev.listenerPartition (d : Dev) (idx sub : Nat) : Option Nat :=
  if idx = 0x2C00 && sub = 4 then some 0
  else if 0x2A40 ≤ idx && idx ≤ 0x2A47 && (sub = 6 || sub = 7) then
    some (if d.capOwner (idx - 0x2A40) = 15 then 0 else d.capOwner (idx - 0x2A40))
  else if 0x2D20 ≤ idx && idx ≤ 0x2D23 then some 0
  else if 0x2E10 ≤ idx && idx ≤ 0x2E18 then some (idx - 0x2E10)
  else none
/-- Whether a value names a channel that a listener's partition does not own (R365, R408). -/
def Dev.foreignChannel (d : Dev) (idx sub v : Nat) : Bool :=
  match d.listenerPartition idx sub with
  | some p => v < 128 && d.chanOwner v != p
  | none => false

/-- The value a field stages: bit 0 of DevPartitionsEnabled always reads 1 (Table 2-7). -/
def stagedForm (key v : Nat) : Nat := if key = Obj.devPartitionsEnabled then v ||| 1 else v
/-- A field of a group written: staged, with the path that wrote it (R26, R33, R34). -/
def Dev.stage (d : Dev) (path : Path) (k : GKind) (n key v : Nat) : Dev × Nat :=
  let ck := commitKey k n
  let c := d.commitOf ck
  if c.status = 2 then (d, abortPending)
  else ({ d with staged := SMap.set d.staged key (stagedForm key v, Path.number path) }.setCommit ck { c with status := 1 }, 0)

/-- A bias output's group values made to stand on their own, so that a later NV write moves none already in force (Table 11-3). -/
def Dev.pinBias (d : Dev) (base : Nat) : Dev :=
  [base + 2, base + 3, base + 4].foldl (fun e k => e.put k (e.val k)) d
/-- An NV object written (R41, R43): in force at once and due in flash; refused once the flash has worn. -/
def Dev.writeNv (d : Dev) (key v : Nat) : Dev × Nat :=
  if 100000 ≤ d.val Obj.devNvWear then (d.bump Obj.devNvRefused, abortWear)
  else
    let since := if d.nv.pending.isEmpty then d.now else d.nv.since
    let pending := if d.nv.pending.contains key then d.nv.pending else d.nv.pending ++ [key]
    (({ d with nv := { d.nv with pending := pending, since := since } } : Dev).put key v, 0)
/-- An NV object of a bias output written (R266): the slew must pass R252 under the active line-profile set, and a fault value in force moves the
target with it (R41, R259). DESIGN CHOICE: bits [31:18] of BiasPowerUpValue and BiasFaultValue are stored and read back, and bits [17:0] alone are
the code (log entry 21). -/
def Dev.writeBiasNv (d : Dev) (l sub key v : Nat) : Dev × Nat :=
  if sub = 9 && !(biasPowerOk (d.val (perLane Obj.energyBiasProfile l)) (bits v 12 0) (bits v 31 16)) then (d, abortRange)
  else
    let w := (if sub = 8 then d else d.pinBias (key - sub)).writeNv key v
    if w.2 = 0 && sub = 8 && (d.biasOut l).move = .fault && (d.faultHolds || d.power.preparing) then
      (({ w.1 with biases := SMap.set w.1.biases l { w.1.biasOut l with target := bits v 17 0, effect := d.now } } : Dev).put (Obj.biasTargetTime l) d.now, 0)
    else w

/-- A power object written (R104): 0 powers its strip or tile down, 1 up. -/
def Dev.writePower (d : Dev) (u v : Nat) : Dev × Nat := if v = 0 then d.writePowerDown u else d.writePowerUp u

/-- A command object or a plain RW object of ranges 0x1000 to 0x24FF written. -/
def Dev.writeLow (d : Dev) (path : Path) (idx sub v : Nat) : Dev × Nat :=
  let key := idx * 256 + sub
  if key = Obj.devRfEnable then (if v = 1 then d.writeRfOn path else d.writeRfOff)
  else if key = Obj.pwrPrepareOff then (if v = 1 then d.writePrepareOff else d.writePrepareEnd)
  else if key = Obj.timeWallSet then (d.setWall v, 0)
  else if key = Obj.timeSnapshot then d.snapshot path v
  else if key = Obj.timeFallbackIncrement then
    if d.flag Obj.timeFallbackAuto then (d, abortState) else (d.rebase.put key v, 0)
  else if key = Obj.faultEnterSafe then d.writeEnterSafe
  else if key = Obj.faultLeaveSafe then d.writeLeaveSafe
  else if idx = 0x2401 then (d.clearSticky (sub - 1) v, 0)
  else (d.put key v, 0)

/-- A command object or a plain RW object of ranges 0x2500 to 0x2BFF written. -/
def Dev.writeMiddle (d : Dev) (path : Path) (idx sub v : Nat) : Dev × Nat :=
  let key := idx * 256 + sub
  if key = Obj.evtFire then d.writeEvtFire (Path.partition path) v
  else if idx = 0x2506 then d.clearEvtFlags (sub - 1) v
  else if key = Obj.calStart then d.startCal
  else if key = Obj.calAbort then d.writeCalAbort
  else if key = Obj.ageRecompute then d.writeRecompute
  else if 0x2910 ≤ idx && idx ≤ 0x2918 then d.writeBaleTail (idx - 0x2910) v
  else if 0x2A30 ≤ idx && idx ≤ 0x2A3F then d.setReadOffset (64 + (idx - 0x2A30)) v
  else if 0x2A40 ≤ idx && idx ≤ 0x2A47 && sub = 2 then
    if d.capState (idx - 0x2A40) != 0 then (d, abortBusy) else (d.put key v, 0)
  else if 0x2A40 ≤ idx && idx ≤ 0x2A47 && sub = 0x10 then d.writeArm (idx - 0x2A40) v
  else if 0x2A40 ≤ idx && idx ≤ 0x2A47 && sub = 0x18 then d.setReadOffset (96 + (idx - 0x2A40)) v
  else if 0x2A80 ≤ idx && idx ≤ 0x2ABF && sub = 0x14 then d.setReadOffset (idx - 0x2A80) v
  else if 0x2B10 ≤ idx && idx ≤ 0x2B1F && sub = 0x1A then d.setReadOffset (80 + (idx - 0x2B10)) v
  else (d.put key v, 0)

/-- A command object or a plain RW object of ranges 0x2C00 to 0x3A03 written. -/
def Dev.writeHigh (d : Dev) (m : Mem) (idx sub v : Nat) : Dev × Nat :=
  let key := idx * 256 + sub
  if key = Obj.monRestart then d.writeMonRestart
  else if 0x2D14 ≤ idx && idx ≤ 0x2D17 && sub = 1 then
    if domLength v != 0 && domLength v != 8192 then (d, abortCheck) else (d.put key v, 0)
  else if 0x2D14 ≤ idx && idx ≤ 0x2D17 && sub = 2 then d.writeRemoteDoorbell m (idx - 0x2D14)
  else if 0x2D18 ≤ idx && idx ≤ 0x2D1B && sub = 6 then d.writeBulkStart m (idx - 0x2D18)
  else if idx = 0x2E01 then d.writeDmaOwner (sub - 1) v
  else if key = Obj.csStripUpdate then d.writeStripUpdate v
  else if 0x2F40 ≤ idx && idx ≤ 0x2F7F && sub = 4 then d.writeUserStart (idx - 0x2F40)
  else if 0x2F40 ≤ idx && idx ≤ 0x2F7F && 0x10 ≤ sub then
    if d.userState (idx - 0x2F40) != 0 then (d, abortBusy) else (d.put key v, 0)
  else if 0x3000 ≤ idx && idx ≤ 0x31FF && sub = 7 then
    let l := idx - 0x3000
    if v = 1 then d.writeLaneRun l else if v = 2 then d.writeLaneBoundary l else d.writeLaneStop l
  else if 0x3840 ≤ idx && idx ≤ 0x387F && sub = 2 then d.writeReset (idx - 0x3840)
  else if 0x3840 ≤ idx && idx ≤ 0x387F && sub = 3 then d.writePower (idx - 0x3840) v
  else if 0x3880 ≤ idx && idx ≤ 0x388F && sub = 2 then d.writeReset (64 + (idx - 0x3880))
  else if 0x3880 ≤ idx && idx ≤ 0x388F && sub = 3 then d.writePower (64 + (idx - 0x3880)) v
  else (d.put key v, 0)

/-- A value that has passed the checks of R20 written to its object. -/
def Dev.writeValue (d : Dev) (m : Mem) (path : Path) (r : Row) (idx sub v : Nat) : Dev × Nat :=
  let key := idx * 256 + sub
  let p := Path.partition path
  if r.ty = .domain && d.domainAbort p v != 0 then (d, d.domainAbort p v)
  else if d.foreignChannel idx sub v then (d, abortAccess)
  else match memberOf idx sub with
  | some (k, n) =>
    let staged := { d with staged := SMap.set d.staged key (v, Path.number path) }
    if k = .sheaf && p != 0 && !(staged.ownsSheaf p n) then (d, abortAccess) else d.stage path k n key v
  | none =>
    if (commitAt idx sub).isSome then d.writeCommit m path key v
    else if r.acc = .nv then (if 0x3200 ≤ idx then d.writeBiasNv (idx - 0x3200) sub key v else d.writeNv key v)
    else if idx < 0x2500 then d.writeLow path idx sub v
    else if idx < 0x2C00 then d.writeMiddle path idx sub v
    else d.writeHigh m idx sub v

/-- A write carried out (R17, R20, R22, R44, R45, R55, R445, R475): what the device becomes, and the answer. -/
def Dev.serveWrite (d : Dev) (m : Mem) (path : Path) (req : Request) : Dev × Answer :=
  let idx := req.index
  let sub := req.sub
  if !(d.pathOpen path) then (d, .refuse 0 abortState)
  else match lookupRow idx sub with
  | .inr a => (d, .refuse 0 a)
  | .inl r =>
    let gate := d.writeGate path (idx * 256 + sub)
    let refuse := fun (a : Nat) => (d, Answer.refuse r.ty.code a)
    if gate != 0 then refuse gate
    else if r.acc = .ro || r.acc = .konst then refuse 0x06010002
    else if req.typ != 0 && req.typ != r.ty.code then refuse 0x06070010
    else if r.valueAbort req.data != 0 then refuse (r.valueAbort req.data)
    else
      let w := d.writeValue m path r idx sub (ofLe req.data)
      (w.1, .refuse r.ty.code w.2)

/-! ### The operations (Table 2-6) -/

/-- The answer to a request delivered on its path. -/
def Dev.deliver (d : Dev) (path : Path) (op : Nat) (req : Request) (a : Answer) : Dev :=
  d.respond path op req.tag req.index req.sub a.ty a.data a.abort
/-- The margin a read of GgMarginMin finds is what the port measures, which no command brings: a free value (R396; log entry 3). -/
def Dev.measure (d : Dev) (req : Request) : Dev :=
  if 0x2D10 ≤ req.index && req.index ≤ 0x2D13 && req.sub = 0x14 then (d.put (req.index * 256 + req.sub) (wrap 16 d.freeNow)).used else d

/-- The request an operation serves now: none where the path takes none, it is not its turn, or its mailbox holds another operation. -/
def Dev.served (d : Dev) (path : Path) (op : Nat) (req : Request) : Option Request :=
  if d.pathThere path then d.onPath path op req else none

/-- READ (R22, R45, R49). -/
def execRead (t : Nat) (path : Path) (req : Request) (s : State) : Host.Outcome State Fault Refusal :=
  devStep t (fun _ d =>
    match d.served path 1 req with
    | none => d
    | some req =>
      let d := d.measure req
      d.deliver path 1 req (d.answerRead path req)) s
/-- WRITE (R20, R22, R26, R51). -/
def execWrite (t : Nat) (path : Path) (req : Request) (s : State) : Host.Outcome State Fault Refusal :=
  devStep t (fun m d =>
    match d.served path 2 req with
    | none => d
    | some req =>
      let w := d.serveWrite m path req
      w.1.deliver path 2 req w.2) s
/-- READ_STAGED (R491). -/
def execReadStaged (t : Nat) (path : Path) (req : Request) (s : State) : Host.Outcome State Fault Refusal :=
  devStep t (fun _ d =>
    match d.served path 3 req with
    | none => d
    | some req => d.deliver path 3 req (d.answerStaged path req)) s
/-- READ_GROUP (R35). -/
def execReadGroup (t : Nat) (path : Path) (req : Request) (s : State) : Host.Outcome State Fault Refusal :=
  devStep t (fun _ d =>
    match d.served path 4 req with
    | none => d
    | some req => d.deliver path 4 req (d.answerGroup path req)) s
/-- DESCRIBE (R50). -/
def execDescribe (t : Nat) (path : Path) (req : Request) (s : State) : Host.Outcome State Fault Refusal :=
  devStep t (fun _ d =>
    match d.served path 5 req with
    | none => d
    | some req => d.deliver path 5 req (d.answerDescribe path req)) s

/-! ### The BAR0 mailbox (R52, R356, R357) -/

/-- MAILBOX_DOORBELL (R52, R357): the request in the buffer is submitted; while the mailbox is busy it is discarded and counted. -/
def execMailboxDoorbell (t : Nat) (fn : Fn) (record : List Byte) (s : State) : Host.Outcome State Fault Refusal :=
  devStep t (fun _ d =>
    let f := fn.val
    let x := d.fn f
    if d.val Obj.pcieLinkState != 2 || d.val Obj.pcieNumVfs < f then d
    else if x.mailbox = 1 then d.bump Obj.devMailboxDiscards
    else
      let d := d.setFn f { x with mailbox := 1, request := record }
      let op := field record 0 1
      if 1 ≤ op && op ≤ 5 then d
      else
        let path : Path := if h : 0 < f ∧ f - 1 < 8 then .vf ⟨f - 1, h.2⟩ else .pf0
        ({ d.bump Obj.devMailboxAborts with servedPath := Path.number path } : Dev).mailboxAnswer path f op (field record 1 1) (field record 2 2)
          (field record 4 1) 0 [] (if d.pathOpen path then abortOperation else abortState)) s
/-- The dword at an offset of BAR0 (Table 15-2) but for the mailbox status: registers of another function's channels and reserved offsets read 0. -/
def Dev.bar0 (d : Dev) (f o : Nat) : Nat :=
  let x := d.fn f
  if 0x1000 ≤ o && o < 0x2000 then field (x.response ++ zeros 4096) (o - 0x1000) 4
  else if 0x2100 ≤ o && o < 0x2200 then
    let c := (o - 0x2100) / 16
    if d.dmaOwner c != f || !(d.hostOpen f) then 0
    else match o % 16 with
      | 0 => (d.dmaCh c).tail
      | 4 => (d.dmaCh c).head
      | 8 => d.dmaState c
      | _ => 0
  else if 0x8000 ≤ o && o < 0x8400 then
    let v := (o - 0x8000) / 16
    let e := SMap.look x.messages v (0, 0)
    match o % 16 with
    | 0 => wrap 32 e.1
    | 4 => e.1 / 2 ^ 32
    | 8 => e.2
    | _ => ofBool (bit x.masked v)
  else if o = 0x9000 then wrap 32 x.pending
  else if o = 0x9004 then x.pending / 2 ^ 32
  else 0
/-- MAILBOX_STATUS_READ (R356): a read of BAR0. Reading 2 as mailbox status returns the mailbox to idle; an access that is no aligned dword reads
0xFFFFFFFF. -/
def execMailboxStatusRead (t : Nat) (read : Bar0Read) (s : State) : Host.Outcome State Fault Refusal :=
  devStep t (fun _ d =>
    let f := read.fn.val
    let x := d.fn f
    if d.val Obj.pcieLinkState != 2 || d.val Obj.pcieNumVfs < f || 0x10000 ≤ read.offset then d
    else if read.bytes != 4 || read.offset % 4 != 0 then d.emit (.bar f 0 0xFFFFFFFF)
    else if read.offset != 0x2004 then d.emit (.bar f 0 (d.bar0 f read.offset))
    else
      let d := d.emit (.mailboxStatus f x.mailbox)
      if x.mailbox = 2 then d.setFn f { x with mailbox := 0 } else d) s

/-! ### CAN (R51, R52, R54, R368, R369) -/

/-- A USDO request as a request record: any type is accepted. -/
def usdoRequest (index sub : Nat) (data : List Byte) : Request := { tag := 0, index := index, sub := sub, typ := 0, data := data }
/-- The segmented transfer in progress noted, or ended. -/
def Dev.setTransfer (d : Dev) (x : Option (Nat × Nat × Nat)) : Dev := { d with can := { d.can with transfer := x } }

/-- Whether a CAN frame is a USDO request to this node (Table 15-8). -/
def Dev.usdoMine (d : Dev) (object : UsdoObject) : Bool := object.cobId = 0x600 + d.can.nodeId
/-- USDO_UPLOAD (R54, R369): values of up to 4 bytes and aborts at once, a longer value once its last segment has gone. -/
def execUsdoUpload (t : Nat) (object : UsdoObject) (sub : Nat) (complete : Bool) (s : State) : Host.Outcome State Fault Refusal :=
  devStep t (fun _ d =>
    let index := object.index
    let req := usdoRequest index sub []
    if !(d.pathThere .can) || !(d.usdoMine object) then d
    else if d.canBusy index sub then d.bump Obj.devMailboxDiscards
    else
      let d := d.measure req
      let a := d.answerRead .can req
      if !complete && 4 < a.data.length then d.setTransfer (some (index, sub, d.now))
      else (d.setTransfer none).deliver .can 1 req a) s
/-- USDO_DOWNLOAD (R54, R55, R369): values of up to 4 bytes at once, a longer one once its last segment has come. -/
def execUsdoDownload (t : Nat) (object : UsdoObject) (sub : Nat) (data : List Byte) (complete : Bool) (s : State) : Host.Outcome State Fault Refusal :=
  devStep t (fun m d =>
    let index := object.index
    let req := usdoRequest index sub data
    if !(d.pathThere .can) || !(d.usdoMine object) then d
    else if d.canBusy index sub then d.bump Obj.devMailboxDiscards
    else if !complete && ((rowAt index sub).any (fun r => 4 < r.ty.size)) then d.setTransfer (some (index, sub, d.now))
    else
      let w := (d.setTransfer none).serveWrite m .can req
      w.1.deliver .can 2 req w.2) s
/-- USDO_BLOCK_TRANSFER (R368): answered with an abort. -/
def execUsdoBlockTransfer (t : Nat) (object : UsdoObject) (sub : Nat) (s : State) : Host.Outcome State Fault Refusal :=
  devStep t (fun _ d =>
    if !(d.pathThere .can) || !(d.usdoMine object) then d
    else if d.can.transfer.isSome then d.bump Obj.devMailboxDiscards
    else d.deliver .can 0 (usdoRequest object.index sub []) (.refuse 0 abortOperation)) s
/-- USDO_SEGMENT_TIMEOUT (R369): a transfer without a segment for 1 s ends with an abort. -/
def execUsdoSegmentTimeout (t : Nat) (s : State) : Host.Outcome State Fault Refusal :=
  devStep t (fun _ d =>
    match d.can.transfer with
    | some (index, sub, since) =>
      if since + ticksS ≤ d.now then (d.setTransfer none).deliver .can 0 (usdoRequest index sub []) (.refuse 0 abortOperation) else d
    | none => d) s

end Sys2Proof.Machine
end

