-- ==== Sys2Proof/Machine/Dispatch.lean ====
section
/-! DEFINITION. Dispatch: one arm per command. -/

namespace Sys2Proof.Machine

/-- A command's effect on everything but the queue. -/
def exec (i : Instr) (s : State) : Host.Outcome State Fault Refusal :=
  match i with
  | .read t path req => Sys2Proof.Machine.execRead t path req s
  | .write t path req => Sys2Proof.Machine.execWrite t path req s
  | .readStaged t path req => Sys2Proof.Machine.execReadStaged t path req s
  | .readGroup t path req => Sys2Proof.Machine.execReadGroup t path req s
  | .describe t path req => Sys2Proof.Machine.execDescribe t path req s
  | .mailboxDoorbell t fn record => Sys2Proof.Machine.execMailboxDoorbell t fn record s
  | .mailboxStatusRead t read => Sys2Proof.Machine.execMailboxStatusRead t read s
  | .usdoUpload t object sub complete => Sys2Proof.Machine.execUsdoUpload t object sub complete s
  | .usdoDownload t object sub data complete => Sys2Proof.Machine.execUsdoDownload t object sub data complete s
  | .usdoBlockTransfer t object sub => Sys2Proof.Machine.execUsdoBlockTransfer t object sub s
  | .usdoSegmentTimeout t => Sys2Proof.Machine.execUsdoSegmentTimeout t s
  | .commitCancel t path index sub force => Sys2Proof.Machine.execCommitCancel t path index sub force s
  | .commitImmediateIfIdle t path index sub force => Sys2Proof.Machine.execCommitImmediateIfIdle t path index sub force s
  | .commitNextSegmentEnd t path index sub force => Sys2Proof.Machine.execCommitNextSegmentEnd t path index sub force s
  | .commitNextShotBoundary t path index sub force => Sys2Proof.Machine.execCommitNextShotBoundary t path index sub force s
  | .commitTakeEffect t index sub burnOk => Sys2Proof.Machine.execCommitTakeEffect t index sub burnOk s
  | .commitLoadComplete t index sub memOk => Sys2Proof.Machine.execCommitLoadComplete t index sub memOk s
  | .nvFlashWrite t => Sys2Proof.Machine.execNvFlashWrite t s
  | .devRfEnableSet t path => Sys2Proof.Machine.execDevRfEnableSet t path s
  | .devRfEnableClear t path => Sys2Proof.Machine.execDevRfEnableClear t path s
  | .laneRun t path lane => Sys2Proof.Machine.execLaneRun t path lane s
  | .laneStopAtBoundary t path lane => Sys2Proof.Machine.execLaneStopAtBoundary t path lane s
  | .laneStop t path lane => Sys2Proof.Machine.execLaneStop t path lane s
  | .nop t lane => Sys2Proof.Machine.execNop t lane s
  | .halt t lane => Sys2Proof.Machine.execHalt t lane s
  | .shotBegin t lane => Sys2Proof.Machine.execShotBegin t lane s
  | .shotJoin t group => Sys2Proof.Machine.execShotJoin t group s
  | .shotEnd t lane => Sys2Proof.Machine.execShotEnd t lane s
  | .play t lane => Sys2Proof.Machine.execPlay t lane s
  | .playAltOpen t lane => Sys2Proof.Machine.execPlayAltOpen t lane s
  | .playAltClose t lane => Sys2Proof.Machine.execPlayAltClose t lane s
  | .wait t lane => Sys2Proof.Machine.execWait t lane s
  | .atCursor t lane => Sys2Proof.Machine.execAtCursor t lane s
  | .loop t lane => Sys2Proof.Machine.execLoop t lane s
  | .endloop t lane => Sys2Proof.Machine.execEndloop t lane s
  | .call t lane => Sys2Proof.Machine.execCall t lane s
  | .ret t lane => Sys2Proof.Machine.execRet t lane s
  | .jump t lane => Sys2Proof.Machine.execJump t lane s
  | .branch t lane => Sys2Proof.Machine.execBranch t lane s
  | .branchResolve t lane => Sys2Proof.Machine.execBranchResolve t lane s
  | .branchVerdictMissing t lane => Sys2Proof.Machine.execBranchVerdictMissing t lane s
  | .specBranchResolve t lane => Sys2Proof.Machine.execSpecBranchResolve t lane s
  | .branchWatch t lane => Sys2Proof.Machine.execBranchWatch t lane s
  | .frameFreq t lane => Sys2Proof.Machine.execFrameFreq t lane s
  | .framePhase t lane => Sys2Proof.Machine.execFramePhase t lane s
  | .frameOrigin t lane => Sys2Proof.Machine.execFrameOrigin t lane s
  | .mark t lane => Sys2Proof.Machine.execMark t lane s
  | .acquire t lane => Sys2Proof.Machine.execAcquire t lane s
  | .bias t lane => Sys2Proof.Machine.execBias t lane s
  | .sync t lane => Sys2Proof.Machine.execSync t lane s
  | .syncTimeout t lane => Sys2Proof.Machine.execSyncTimeout t lane s
  | .seg t lane => Sys2Proof.Machine.execSeg t lane s
  | .issueGrant t strip dupOk => Sys2Proof.Machine.execIssueGrant t strip dupOk s
  | .granuleArrive t lane kind => Sys2Proof.Machine.execGranuleArrive t lane kind s
  | .granuleRelease t lane => Sys2Proof.Machine.execGranuleRelease t lane s
  | .energyIntervalSum t lane checkOk => Sys2Proof.Machine.execEnergyIntervalSum t lane checkOk s
  | .frameRecordApply t lane => Sys2Proof.Machine.execFrameRecordApply t lane s
  | .markerRelease t lane => Sys2Proof.Machine.execMarkerRelease t lane s
  | .windowOpen t slot history => Sys2Proof.Machine.execWindowOpen t slot history s
  | .windowCheckpoint t slot adc => Sys2Proof.Machine.execWindowCheckpoint t slot adc s
  | .finalVerdict t slot adc => Sys2Proof.Machine.execFinalVerdict t slot adc s
  | .slotVoidVerdict t slot => Sys2Proof.Machine.execSlotVoidVerdict t slot s
  | .vptStaged t entry => Sys2Proof.Machine.execVptStaged t entry s
  | .vptFinalItem t item => Sys2Proof.Machine.execVptFinalItem t item s
  | .strictAltResolve t lane => Sys2Proof.Machine.execStrictAltResolve t lane s
  | .altRelease t lane => Sys2Proof.Machine.execAltRelease t lane s
  | .altSpanEnd t lane altSlot => Sys2Proof.Machine.execAltSpanEnd t lane altSlot s
  | .ggVerdictFrameReceive t port windowEnd shot entries => Sys2Proof.Machine.execGgVerdictFrameReceive t port windowEnd shot entries s
  | .biasTargetEffect t lane => Sys2Proof.Machine.execBiasTargetEffect t lane s
  | .biasStepInstant t lane => Sys2Proof.Machine.execBiasStepInstant t lane s
  | .biasTrackingFail t lane errorMicrovolt => Sys2Proof.Machine.execBiasTrackingFail t lane errorMicrovolt s
  | .monTrigger t => Sys2Proof.Machine.execMonTrigger t s
  | .monRestart t path => Sys2Proof.Machine.execMonRestart t path s
  | .monSettleEnd t => Sys2Proof.Machine.execMonSettleEnd t s
  | .monResult t value => Sys2Proof.Machine.execMonResult t value s
  | .monSpareCalibrated t => Sys2Proof.Machine.execMonSpareCalibrated t s
  | .monRotation t => Sys2Proof.Machine.execMonRotation t s
  | .monDiodeReading t node deltaVbe => Sys2Proof.Machine.execMonDiodeReading t node deltaVbe s
  | .refEdgesMissing t lastEdge => Sys2Proof.Machine.execRefEdgesMissing t lastEdge s
  | .refFrequencyGate t errorPpb lastEdge => Sys2Proof.Machine.execRefFrequencyGate t errorPpb lastEdge s
  | .refReturn t => Sys2Proof.Machine.execRefReturn t s
  | .epochExchangeStart t g1 => Sys2Proof.Machine.execEpochExchangeStart t g1 s
  | .epochRequestReceive t port body g2 g3 => Sys2Proof.Machine.execEpochRequestReceive t port body g2 g3 s
  | .epochReplyReceive t port body g4 next => Sys2Proof.Machine.execEpochReplyReceive t port body g4 next s
  | .epochAlign t => Sys2Proof.Machine.execEpochAlign t s
  | .epochDelayLineStep t => Sys2Proof.Machine.execEpochDelayLineStep t s
  | .epochRetry t g1 => Sys2Proof.Machine.execEpochRetry t g1 s
  | .timeWallSet t path value => Sys2Proof.Machine.execTimeWallSet t path value s
  | .timeSnapshot t path value => Sys2Proof.Machine.execTimeSnapshot t path value s
  | .fallbackMeasure t cycles => Sys2Proof.Machine.execFallbackMeasure t cycles s
  | .syncSend t port egress => Sys2Proof.Machine.execSyncSend t port egress s
  | .delayReqSend t port egress => Sys2Proof.Machine.execDelayReqSend t port egress s
  | .pdelayReqSend t port egress => Sys2Proof.Machine.execPdelayReqSend t port egress s
  | .syncReceive t port body ingress residence => Sys2Proof.Machine.execSyncReceive t port body ingress residence s
  | .delayReqReceive t port body ingress residence => Sys2Proof.Machine.execDelayReqReceive t port body ingress residence s
  | .delayRespReceive t port body ingress residence => Sys2Proof.Machine.execDelayRespReceive t port body ingress residence s
  | .pdelayReqReceive t port body ingress egress => Sys2Proof.Machine.execPdelayReqReceive t port body ingress egress s
  | .pdelayRespReceive t port body ingress => Sys2Proof.Machine.execPdelayRespReceive t port body ingress s
  | .timeMessageDiscard t port body => Sys2Proof.Machine.execTimeMessageDiscard t port body s
  | .ptpSyncTimeout t => Sys2Proof.Machine.execPtpSyncTimeout t s
  | .stripReset t path strip => Sys2Proof.Machine.execStripReset t path strip s
  | .tileReset t path tile => Sys2Proof.Machine.execTileReset t path tile s
  | .stripPowerDown t path strip => Sys2Proof.Machine.execStripPowerDown t path strip s
  | .stripPowerUp t path strip => Sys2Proof.Machine.execStripPowerUp t path strip s
  | .tilePowerDown t path tile => Sys2Proof.Machine.execTilePowerDown t path tile s
  | .tilePowerUp t path tile => Sys2Proof.Machine.execTilePowerUp t path tile s
  | .unitVoidEntry t unit => Sys2Proof.Machine.execUnitVoidEntry t unit s
  | .unitVoidEnd t unit => Sys2Proof.Machine.execUnitVoidEnd t unit s
  | .unitReturn t unit => Sys2Proof.Machine.execUnitReturn t unit s
  | .trigEdge t input ps rising => Sys2Proof.Machine.execTrigEdge t input ps rising s
  | .tdcRecordWrite t input => Sys2Proof.Machine.execTdcRecordWrite t input s
  | .gleanerRecordWrite t tile => Sys2Proof.Machine.execGleanerRecordWrite t tile s
  | .capArm t path engine => Sys2Proof.Machine.execCapArm t path engine s
  | .capDisarm t path engine => Sys2Proof.Machine.execCapDisarm t path engine s
  | .capTrigger t engine eventTime => Sys2Proof.Machine.execCapTrigger t engine eventTime s
  | .capEnd t engine stored held adc => Sys2Proof.Machine.execCapEnd t engine stored held adc s
  | .sheafClose t group => Sys2Proof.Machine.execSheafClose t group s
  | .sheafWrite t group => Sys2Proof.Machine.execSheafWrite t group s
  | .ringReadOffsetWrite t path ring access => Sys2Proof.Machine.execRingReadOffsetWrite t path ring access s
  | .ddrTransaction t channel ecc => Sys2Proof.Machine.execDdrTransaction t channel ecc s
  | .streamRefill t lane => Sys2Proof.Machine.execStreamRefill t lane s
  | .programLineFetch t lane => Sys2Proof.Machine.execProgramLineFetch t lane s
  | .dramRefresh t channel bank atLimit => Sys2Proof.Machine.execDramRefresh t channel bank atLimit s
  | .mr4Poll t channel worst => Sys2Proof.Machine.execMr4Poll t channel worst s
  | .memoryTrainingComplete t channels => Sys2Proof.Machine.execMemoryTrainingComplete t channels s
  | .memoryClearComplete t => Sys2Proof.Machine.execMemoryClearComplete t s
  | .baleQueueTailWrite t path queue value => Sys2Proof.Machine.execBaleQueueTailWrite t path queue value s
  | .baleCompress t queue offset memOk => Sys2Proof.Machine.execBaleCompress t queue offset memOk s
  | .baleDecompress t queue offset memOk => Sys2Proof.Machine.execBaleDecompress t queue offset memOk s
  | .baleResumeDecompress t queue offset memOk => Sys2Proof.Machine.execBaleResumeDecompress t queue offset memOk s
  | .baleCheckOnly t queue offset memOk => Sys2Proof.Machine.execBaleCheckOnly t queue offset memOk s
  | .baleLoadDecode t lane region offset memOk => Sys2Proof.Machine.execBaleLoadDecode t lane region offset memOk s
  | .baleJobEnd t queue offset => Sys2Proof.Machine.execBaleJobEnd t queue offset s
  | .pcieLinkUp t rate width => Sys2Proof.Machine.execPcieLinkUp t rate width s
  | .pcieLinkDown t => Sys2Proof.Machine.execPcieLinkDown t s
  | .pcieHotReset t => Sys2Proof.Machine.execPcieHotReset t s
  | .functionLevelReset t fn => Sys2Proof.Machine.execFunctionLevelReset t fn s
  | .pePerstAssert t => Sys2Proof.Machine.execPePerstAssert t s
  | .dmaTailWrite t fn channel value => Sys2Proof.Machine.execDmaTailWrite t fn channel value s
  | .dmaCopyToHost t channel descriptor hostOk memOk => Sys2Proof.Machine.execDmaCopyToHost t channel descriptor hostOk memOk s
  | .dmaCopyFromHost t channel descriptor data hostOk => Sys2Proof.Machine.execDmaCopyFromHost t channel descriptor data hostOk s
  | .dmaFollowCopy t channel => Sys2Proof.Machine.execDmaFollowCopy t channel s
  | .pcieDmaOwnerWrite t path channel value => Sys2Proof.Machine.execPcieDmaOwnerWrite t path channel value s
  | .bar2Read t fn offset length memOk => Sys2Proof.Machine.execBar2Read t fn offset length memOk s
  | .bar2Write t fn offset data => Sys2Proof.Machine.execBar2Write t fn offset data s
  | .nmtStart t node => Sys2Proof.Machine.execNmtStart t node s
  | .nmtStop t node => Sys2Proof.Machine.execNmtStop t node s
  | .nmtEnterPreOperational t node => Sys2Proof.Machine.execNmtEnterPreOperational t node s
  | .nmtResetNode t node => Sys2Proof.Machine.execNmtResetNode t node s
  | .nmtResetCommunication t node => Sys2Proof.Machine.execNmtResetCommunication t node s
  | .classicalCanFrame t cobId data => Sys2Proof.Machine.execClassicalCanFrame t cobId data s
  | .heartbeat t => Sys2Proof.Machine.execHeartbeat t s
  | .emcySend t => Sys2Proof.Machine.execEmcySend t s
  | .canBusOff t => Sys2Proof.Machine.execCanBusOff t s
  | .canBusOffRecovery t => Sys2Proof.Machine.execCanBusOffRecovery t s
  | .markerBlockReceive t port lane laneNumber parity arrival => Sys2Proof.Machine.execMarkerBlockReceive t port lane laneNumber parity arrival s
  | .skipBlockReceive t port fill => Sys2Proof.Machine.execSkipBlockReceive t port fill s
  | .creditBlockReceive t port cls frames => Sys2Proof.Machine.execCreditBlockReceive t port cls frames s
  | .capabilityBlockReceive t port lane block => Sys2Proof.Machine.execCapabilityBlockReceive t port lane block s
  | .trainingBlockReceive t port lane block => Sys2Proof.Machine.execTrainingBlockReceive t port lane block s
  | .retrainBlockReceive t port rate => Sys2Proof.Machine.execRetrainBlockReceive t port rate s
  | .restBlockReceive t port => Sys2Proof.Machine.execRestBlockReceive t port s
  | .ggFrameError t port frames => Sys2Proof.Machine.execGgFrameError t port frames s
  | .eventFrameReceive t port frame => Sys2Proof.Machine.execEventFrameReceive t port frame s
  | .noticeFrameReceive t port frame => Sys2Proof.Machine.execNoticeFrameReceive t port frame s
  | .dictionaryFrameReceive t port response record => Sys2Proof.Machine.execDictionaryFrameReceive t port response record s
  | .bulkWriteData t port region offset data memOk => Sys2Proof.Machine.execBulkWriteData t port region offset data memOk s
  | .bulkReadRequest t port region offset length memOk => Sys2Proof.Machine.execBulkReadRequest t port region offset length memOk s
  | .bulkReadData t port status offset data => Sys2Proof.Machine.execBulkReadData t port status offset data s
  | .bulkWriteAck t port status offset length => Sys2Proof.Machine.execBulkWriteAck t port status offset length s
  | .ggRemoteDoorbell t path port => Sys2Proof.Machine.execGgRemoteDoorbell t path port s
  | .ggRemoteTimeout t port => Sys2Proof.Machine.execGgRemoteTimeout t port s
  | .ggBulkStart t path port => Sys2Proof.Machine.execGgBulkStart t path port s
  | .ggBulkResend t port => Sys2Proof.Machine.execGgBulkResend t port s
  | .ggLaneLock t port => Sys2Proof.Machine.execGgLaneLock t port s
  | .ggCapabilityTimeout t port => Sys2Proof.Machine.execGgCapabilityTimeout t port s
  | .ggTrainingSuccess t port => Sys2Proof.Machine.execGgTrainingSuccess t port s
  | .ggTrainingTimeout t port => Sys2Proof.Machine.execGgTrainingTimeout t port s
  | .ggRetrainTrigger t port cause => Sys2Proof.Machine.execGgRetrainTrigger t port cause s
  | .ggRetrainSuccess t port => Sys2Proof.Machine.execGgRetrainSuccess t port s
  | .ggRetrainFail t port => Sys2Proof.Machine.execGgRetrainFail t port s
  | .ggRestEntry t port => Sys2Proof.Machine.execGgRestEntry t port s
  | .ggWake t port => Sys2Proof.Machine.execGgWake t port s
  | .ggWakeTimeout t port => Sys2Proof.Machine.execGgWakeTimeout t port s
  | .ggRefreshDue t port => Sys2Proof.Machine.execGgRefreshDue t port s
  | .evtFire t path channel => Sys2Proof.Machine.execEvtFire t path channel s
  | .eventFire t channel time ps => Sys2Proof.Machine.execEventFire t channel time ps s
  | .waveDeliver t => Sys2Proof.Machine.execWaveDeliver t s
  | .evtTimerExpire t timer => Sys2Proof.Machine.execEvtTimerExpire t timer s
  | .evtFlagsClear t path channel mask => Sys2Proof.Machine.execEvtFlagsClear t path channel mask s
  | .calStart t path => Sys2Proof.Machine.execCalStart t path s
  | .calAbort t path => Sys2Proof.Machine.execCalAbort t path s
  | .calVcalMeasured t reading => Sys2Proof.Machine.execCalVcalMeasured t reading s
  | .calUnitStart t => Sys2Proof.Machine.execCalUnitStart t s
  | .calIdleTimeout t => Sys2Proof.Machine.execCalIdleTimeout t s
  | .calUnitComplete t first second => Sys2Proof.Machine.execCalUnitComplete t first second s
  | .calRunEnd t => Sys2Proof.Machine.execCalRunEnd t s
  | .calTargetUpdate t => Sys2Proof.Machine.execCalTargetUpdate t s
  | .calTapStep t tap => Sys2Proof.Machine.execCalTapStep t tap s
  | .canaryMeanUpdate t unit mean => Sys2Proof.Machine.execCanaryMeanUpdate t unit mean s
  | .ageRecomputeWrite t path => Sys2Proof.Machine.execAgeRecomputeWrite t path s
  | .ageIntervalExpire t => Sys2Proof.Machine.execAgeIntervalExpire t s
  | .ageWatchExpire t strip => Sys2Proof.Machine.execAgeWatchExpire t strip s
  | .thermalModelStep t powers => Sys2Proof.Machine.execThermalModelStep t powers s
  | .thermalCorrection t => Sys2Proof.Machine.execThermalCorrection t s
  | .thermalStateEval t => Sys2Proof.Machine.execThermalStateEval t s
  | .thermalDwellEnd t node => Sys2Proof.Machine.execThermalDwellEnd t node s
  | .throttleGraceExpire t => Sys2Proof.Machine.execThrottleGraceExpire t s
  | .faultStickyClear t path word mask => Sys2Proof.Machine.execFaultStickyClear t path word mask s
  | .faultHandlerExpire t => Sys2Proof.Machine.execFaultHandlerExpire t s
  | .faultEnterSafe t path => Sys2Proof.Machine.execFaultEnterSafe t path s
  | .faultLeaveSafe t path => Sys2Proof.Machine.execFaultLeaveSafe t path s
  | .csSlotWriteComplete t => Sys2Proof.Machine.execCsSlotWriteComplete t s
  | .csStripUpdate t path value => Sys2Proof.Machine.execCsStripUpdate t path value s
  | .machineCheck t fault => Sys2Proof.Machine.execMachineCheck t fault s
  | .csReloadVerified t unit => Sys2Proof.Machine.execCsReloadVerified t unit s
  | .csUserStart t path strip => Sys2Proof.Machine.execCsUserStart t path strip s
  | .csUserShotStart t strip => Sys2Proof.Machine.execCsUserShotStart t strip s
  | .csUserRoutineEnd t strip => Sys2Proof.Machine.execCsUserRoutineEnd t strip s
  | .csUserAbort t strip => Sys2Proof.Machine.execCsUserAbort t strip s
  | .resetNAssert t lowNs taken => Sys2Proof.Machine.execResetNAssert t lowNs taken s
  | .resetNRelease t fuseOk refOk => Sys2Proof.Machine.execResetNRelease t fuseOk refOk s
  | .startupResume t => Sys2Proof.Machine.execStartupResume t s
  | .startupStep5 t => Sys2Proof.Machine.execStartupStep5 t s
  | .railOutOfRange t rail millivolt => Sys2Proof.Machine.execRailOutOfRange t rail millivolt s
  | .railBelowResetLevel t rail millivolt => Sys2Proof.Machine.execRailBelowResetLevel t rail millivolt s
  | .railRecovered t => Sys2Proof.Machine.execRailRecovered t s
  | .vauxLoss t => Sys2Proof.Machine.execVauxLoss t s
  | .pwrPrepareOff t path => Sys2Proof.Machine.execPwrPrepareOff t path s
  | .pwrPrepareOffEnd t path => Sys2Proof.Machine.execPwrPrepareOffEnd t path s
  | .railBackInRange t rail millivolt => Sys2Proof.Machine.execRailBackInRange t rail millivolt s
  | .vauxPowerUp t => Sys2Proof.Machine.execVauxPowerUp t s
  | .dacOutputSettled t lane => Sys2Proof.Machine.execDacOutputSettled t lane s
  | .ggMarkerStripeDue t port => Sys2Proof.Machine.execGgMarkerStripeDue t port s
  | .sriovVfEnable t access => Sys2Proof.Machine.execSriovVfEnable t access s
  | .msixVectorUnmask t fn write => Sys2Proof.Machine.execMsixVectorUnmask t fn write s
  | .jtagExtest t cells => Sys2Proof.Machine.execJtagExtest t cells s

end Sys2Proof.Machine
end

