-- ==== Sys2Proof/Safety.lean ====
section
/-! DEFINITION. The terms claims use: when the block runs, when a write reaches its object, the state a command leaves, and which commands
write DDR5 or may clear the Grave latch. -/

namespace Sys2Proof.Machine

/-- The block runs: VAUX is up and no reset holds it (R471). -/
def State.Runs (s : State) : Prop := s.dev.live = true
/-- The block at the time of a command. -/
def State.devAt (s : State) (t : Nat) : Dev := s.dev.tick t
/-- The state in which a command has left the block as `d`, and DDR5 and the queue alone. -/
def State.withDev (s : State) (d : Dev) : State := { s with dev := d }
/-- A write of an object on a path reaches the object's own rule: requests come in on the path, and the write passes the checks of R44, R45,
R55, R445 and R475. -/
def State.Reaches (s : State) (t : Nat) (path : Path) (key : Nat) : Prop :=
  (s.devAt t).pathThere path = true ∧ (s.devAt t).writeGate path key = 0
/-- A command that writes `value` to a named object on a path is what the path holds, or the path holds nothing (R51). -/
def State.Asked (s : State) (t : Nat) (path : Path) (key value : Nat) : Prop := (s.devAt t).asksFor path key value = true
/-- A command's write of a value to a named object reaches the object's own rule. -/
def State.Admits (s : State) (t : Nat) (path : Path) (key value : Nat) : Prop := s.Reaches t path key ∧ s.Asked t path key value
/-- A value the type and the range of its object allow (R19, R20). -/
def valueFits (key value : Nat) : Prop :=
  ∀ r, rowAt (keyIndex key) (keySub key) = some r → r.ty ≠ .domain ∧ r.valueAbort (leBytes r.ty.size value) = 0
/-- The drill of a lane executes an instruction next. -/
def State.Executes (s : State) (t : Nat) (lane : Lane) (op : Op) : Prop := (s.devAt t).nextOp lane.val = some op

/-- Groups whose values are only read where they are used: their commit does nothing but bring the values into force. -/
def GKind.plain : GKind → Bool
  | .time | .lane | .fetch | .input | .disc | .feedback | .ggDevice | .ggBulk | .evtChannel | .calScope => true
  | _ => false

/-- Commands that write DDR5: every other command leaves it as it is. -/
def writesDdr5 : Instr → Bool
  | .memoryClearComplete .. | .commitLoadComplete .. | .dictionaryFrameReceive .. | .bulkWriteData .. | .bulkReadData .. | .dmaCopyFromHost ..
  | .bar2Write .. | .baleCompress .. | .baleDecompress .. | .baleResumeDecompress .. | .baleCheckOnly .. | .baleJobEnd ..
  | .tdcRecordWrite .. | .gleanerRecordWrite .. | .capEnd .. | .sheafWrite .. => true
  | _ => false
/-- Commands of the VAUX island, which act while the rest of the block is held in reset (R471). -/
def actsInReset : Instr → Bool
  | .resetNAssert .. | .resetNRelease .. | .railOutOfRange .. | .railBelowResetLevel .. | .railRecovered .. | .railBackInRange .. | .vauxLoss ..
  | .vauxPowerUp .. | .jtagExtest .. => true
  | _ => false
/-- The one command that clears the Grave latch and the Grave bits (R445). -/
def losesVaux : Instr → Bool
  | .vauxLoss .. => true
  | _ => false

end Sys2Proof.Machine
end

