-- ==== Sys2Proof/Certificates/Slice0/Obligations.lean ====
section
/-! DEFINITION. What this model claims of the block, for the provers: the queue, the invariants, and for every command of the table the state
it leaves. -/

open Sys2Proof Sys2Proof.Machine

/-! ### The queue -/

/-- A step takes the command at the front of the queue and runs it with the rest of the queue; on an empty queue the block idles. -/
def Obligations.StepRunsTheFrontCommand : Prop :=
  (∀ (c : Instr) (rest : List Instr) (s : State), s.pending = c :: rest → step s = exec c { s with pending := rest })
    ∧ (∀ s : State, s.pending = [] → step s = .next s)

/-! ### The drill: sequence and cursor (R118, R123, R127) -/

/-- `nop` only moves on (R118); `loop` pushes its frame, or skips its body when its count is 0; `endloop` goes round or leaves; `call`, `ret`
and `jump` move the program counter and their stacks (R127). Everything else stays. -/
def Obligations.SequenceInstructionsMoveTheCounter : Prop :=
  ∀ (t : Nat) (lane : Lane) (s : State), s.Runs →
    let d := s.devAt t
    let l := lane.val
    let r := s.dev.drill l
    (s.Executes t lane .nop → exec (.nop t lane) s = .next (s.withDev (d.setDrill l { r with pc := r.pc + 1 })))
    ∧ (∀ e n, s.Executes t lane (.loop true e n) →
        exec (.loop t lane) s = .next (s.withDev (d.setDrill l
          { r with pc := r.pc + 1, loops := { remaining := 0, forever := true, body := r.pc + 1, endAddr := e } :: r.loops })))
    ∧ (∀ e, s.Executes t lane (.loop false e 0) →
        exec (.loop t lane) s = .next (s.withDev (d.setDrill l { r with pc := e + 1 })))
    ∧ (∀ e n, 0 < n → s.Executes t lane (.loop false e n) →
        exec (.loop t lane) s = .next (s.withDev (d.setDrill l
          { r with pc := r.pc + 1, loops := { remaining := n, forever := false, body := r.pc + 1, endAddr := e } :: r.loops })))
    ∧ (∀ start top rest, s.Executes t lane (.endloop start) → r.loops = top :: rest → top.forever = true →
        exec (.endloop t lane) s = .next (s.withDev (d.setDrill l { r with pc := top.body, loops := top :: rest })))
    ∧ (∀ start top rest, s.Executes t lane (.endloop start) → r.loops = top :: rest → top.forever = false → 1 < top.remaining →
        exec (.endloop t lane) s = .next (s.withDev (d.setDrill l
          { r with pc := top.body, loops := { top with remaining := top.remaining - 1 } :: rest })))
    ∧ (∀ start top rest, s.Executes t lane (.endloop start) → r.loops = top :: rest → top.forever = false → top.remaining ≤ 1 →
        exec (.endloop t lane) s = .next (s.withDev (d.setDrill l { r with pc := r.pc + 1, loops := rest })))
    ∧ (∀ a, s.Executes t lane (.call a) →
        exec (.call t lane) s = .next (s.withDev (d.setDrill l
          { r with pc := a, calls := { ret := r.pc + 1, depth := r.loops.length } :: r.calls })))
    ∧ (∀ c rest, s.Executes t lane .ret → r.calls = c :: rest →
        exec (.ret t lane) s = .next (s.withDev (d.setDrill l { r with pc := c.ret, calls := rest })))
    ∧ (∀ pop a, s.Executes t lane (.jump pop a) →
        exec (.jump t lane) s = .next (s.withDev (d.setDrill l { r with pc := a, loops := r.loops.drop pop })))

/-- `wait` moves the cursor on by its count of granules, with or without its S and M flags; `at` moves it to a cursor ahead and never back
(R123). No commit waits for a segment end. Where the wait begins a segment, a watch that fires there replaces it (R134), and one whose event may
still be on its way holds it (R133). -/
def Obligations.CursorInstructionsMoveTheCursor : Prop :=
  ∀ (t : Nat) (lane : Lane) (s : State), s.Runs →
    let d := s.devAt t
    let l := lane.val
    let r := s.dev.drill l
    r.run = .inShot →
    (∀ sg m n, s.Executes t lane (.wait sg m n) → 0 < n → r.shadow = none →
        (d.commitOf (Obj.laneCommit l)).waits 2 = false → (d.commitOf (Obj.biasCommit l)).waits 2 = false →
        let begins := (sg || r.segDue) = true
        let frame := fun (s' : State) =>
          (∀ k, k ≠ l → s'.dev.drill k = s.dev.drill k ∧ s'.dev.chain k = s.dev.chain k) ∧ s'.mem = s.mem
        ((begins → d.watchWaits l = false ∧ (r.segStart < r.cursor → r.watchFires (d.cutoff l r.cursor) = none)) →
          ∃ s', exec (.wait t lane) s = .next s' ∧ (s'.dev.drill l).pc = r.pc + 1 ∧ (s'.dev.drill l).cursor = r.cursor + n
            ∧ (s'.dev.drill l).busy = r.busy ∧ (s'.dev.drill l).loops = r.loops ∧ (s'.dev.drill l).segDue = false
            ∧ s'.dev.objs = s.dev.objs ∧ frame s')
        ∧ (begins → d.watchWaits l = true → exec (.wait t lane) s = .next (s.withDev d))
        ∧ (∀ w, begins → d.watchWaits l = false → r.segStart < r.cursor → r.watchFires (d.cutoff l r.cursor) = some w →
          ∃ s', exec (.wait t lane) s = .next s' ∧ (s'.dev.drill l).pc = w.target ∧ (s'.dev.drill l).loops = r.loops.drop w.pop
            ∧ (s'.dev.drill l).watch = none ∧ (s'.dev.drill l).cursor = r.cursor ∧ (s'.dev.drill l).segStart = r.cursor ∧ frame s'
            ∧ (w.mask ≠ 0 → SMap.find (s'.dev.drill l).latches w.channel = none)))
    ∧ (∀ sg m, s.Executes t lane (.wait sg m 0) →
        exec (.wait t lane) s = .next (s.withDev (d.setDrill l { r with pc := r.pc + 1 })))
    ∧ (∀ v, s.Executes t lane (.atC v) →
        exec (.atCursor t lane) s = .next (s.withDev (d.setDrill l { r with pc := r.pc + 1, cursor := max r.cursor v })))

/-- `halt` between shots leaves the drill halted, its stacks, latches and watch empty, and the lane out of its group (R116); `branch.watch`
arms the lane's one watch, replacing any armed before (R134); `shot.begin` waits at the join, or, after LaneRun = 2, stops (R113, R139). No other
lane's drill changes while the group's shot, if there is one, goes on without the lane (R116). -/
def Obligations.ShotInstructionsOutsideTheShot : Prop :=
  ∀ (t : Nat) (lane : Lane) (s : State), s.Runs →
    let d := s.devAt t
    let l := lane.val
    let r := s.dev.drill l
    let x := s.dev.group (d.groupOf l)
    let goesOn := ({ x with members := x.members.filter (fun m => m != l) } : Group).allEnded = false
    (s.Executes t lane .halt → r.run = .between →
        ∃ s', exec (.halt t lane) s = .next s' ∧ (s'.dev.drill l).run = .halted ∧ (s'.dev.drill l).loops = [] ∧ (s'.dev.drill l).calls = []
          ∧ (s'.dev.drill l).latches = [] ∧ (s'.dev.drill l).watch = none ∧ l ∉ (s'.dev.group (d.groupOf l)).members
          ∧ (goesOn → ∀ k, k ≠ l → s'.dev.drill k = s.dev.drill k) ∧ s'.mem = s.mem)
    ∧ (∀ kind source value mask neg spec pop target, s.Executes t lane (.watch kind source value mask neg spec pop target) → r.run = .inShot →
        exec (.branchWatch t lane) s = .next (s.withDev (d.setDrill l
          { r with
            pc := r.pc + 1
            watch := some
              { channel := source, mask := mask, negate := neg, target := target, pop := pop, loopDepth := r.loops.length
                callDepth := r.calls.length, armTime := d.cursorTime l r.cursor, prev := none } })))
    ∧ (∀ mode chan gap, s.Executes t lane (.shotBegin mode chan gap) → r.run = .between → r.stopAtBoundary = false →
        exec (.shotBegin t lane) s = .next (s.withDev (d.setDrill l { r with run := .atJoin })))
    ∧ (∀ mode chan gap, s.Executes t lane (.shotBegin mode chan gap) → r.run = .between → r.stopAtBoundary = true →
        ∃ s', exec (.shotBegin t lane) s = .next s' ∧ (s'.dev.drill l).run = .stopped ∧ s'.dev.val (Obj.laneRun l) = 0
          ∧ (goesOn → ∀ k, k ≠ l → s'.dev.drill k = s.dev.drill k) ∧ s'.mem = s.mem)

/-- In a shot and outside a prediction, `frame.freq`, `frame.phase`, `frame.origin`, `mark`, `acquire` and `bias` each move on and hand the
lane's chain their request with its stamp on the cursor (R125, R126, R157, R258). A pulse of width 0 asks for nothing. -/
def Obligations.RequestsTravelWithTheirStamp : Prop :=
  ∀ (t : Nat) (lane : Lane) (s : State), s.Runs →
    let d := s.devAt t
    let l := lane.val
    let r := s.dev.drill l
    let c := s.dev.chain l
    let now := d.cursorTime l r.cursor
    let past := d.setDrill l { r with pc := r.pc + 1 }
    let sent := fun (x : Timed) => s.withDev (past.setChain l { c with timed := c.timed ++ [{ req := x, why := r.why }] })
    r.run = .inShot → r.shadow = none →
    (∀ f w, s.Executes t lane (.frameFreq f w) → exec (.frameFreq t lane) s = .next (sent (.frame 0 f w now false)))
    ∧ (∀ f add ph, s.Executes t lane (.framePhase f add ph) →
        exec (.framePhase t lane) s = .next (sent (.frame (if add then 2 else 1) f ph now false)))
    ∧ (∀ f off, s.Executes t lane (.frameOrigin f off) →
        exec (.frameOrigin t lane) s = .next (sent (.frame 3 f ((now : Int) + off).toNat ((now : Int) + off).toNat false)))
    ∧ (∀ target action width off, s.Executes t lane (.mark 1 target action width off) →
        exec (.mark t lane) s = .next (sent (.event target (now + off))))
    ∧ (∀ kind target action width off, s.Executes t lane (.mark kind target action width off) → kind ≠ 1 → ¬(action = 0 ∧ width = 0) →
        exec (.mark t lane) s = .next (sent (.pin target action width (now + off))))
    ∧ (∀ kind target off, s.Executes t lane (.mark kind target 0 0 off) → kind ≠ 1 → exec (.mark t lane) s = .next (s.withDev past))
    ∧ (∀ code, s.Executes t lane (.bias code) → exec (.bias t lane) s = .next (sent (.bias code now)))
    ∧ (∀ input slots off, s.Executes t lane (.acquire input slots off) →
        ∃ s', exec (.acquire t lane) s = .next s' ∧ (s'.dev.drill l).pc = r.pc + 1
          ∧ (s'.dev.chain l).timed = c.timed ++ (setBits 16 slots).map (fun k => { req := .window (16 * input + k) (now + off) (d.shotNo l), why := r.why })
          ∧ (∀ k, k ≠ l → s'.dev.drill k = s.dev.drill k ∧ s'.dev.chain k = s.dev.chain k) ∧ s'.dev.objs = s.dev.objs ∧ s'.mem = s.mem)

/-! ### The drill: events and decisions (R128, R135, R136, R213, R218) -/

/-- `sync` in a shot and outside a prediction takes a latched event that is in time and moves the cursor behind it, misses one that came
past its limit, tests an empty latch when its timeout is 0, and otherwise waits; SYNC_TIMEOUT, 200 ticks past the limit, sets the timeout flag,
counts and goes on (R136). -/
def Obligations.SyncTakesItsEventOrTimesOut : Prop :=
  ∀ (t : Nat) (lane : Lane) (s : State), s.Runs →
    let d := s.devAt t
    let l := lane.val
    let r := s.dev.drill l
    let others := fun (s' : State) => (∀ k, k ≠ l → s'.dev.drill k = s.dev.drill k) ∧ s'.dev.chains = s.dev.chains ∧ s'.mem = s.mem
    (∀ chan forever timeout gap e, s.Executes t lane (.sync chan forever timeout gap) → r.run = .inShot → r.shadow = none →
        SMap.find r.latches chan = some e → (forever = true ∨ e.tick ≤ d.syncLimit l r.cursor timeout) →
        ∃ s', exec (.sync t lane) s = .next s' ∧ s'.dev.objs = s.dev.objs ∧ others s'
          ∧ s'.dev.drill l = { r with pc := r.pc + 1, timeoutFlag := false, cursor := syncCursor r.cursor (d.ts l) gap e
                                      latches := SMap.del r.latches chan })
    ∧ (∀ chan timeout gap e, s.Executes t lane (.sync chan false timeout gap) → r.run = .inShot → r.shadow = none →
        SMap.find r.latches chan = some e → d.syncLimit l r.cursor timeout < e.tick →
        ∃ s', exec (.sync t lane) s = .next s' ∧ others s'
          ∧ s'.dev.drill l = { r with pc := r.pc + 1, timeoutFlag := true, cursor := r.cursor + timeout + gap }
          ∧ s'.dev.val (Obj.laneSyncTimeouts l) = wrap 32 (s.dev.val (Obj.laneSyncTimeouts l) + 1))
    ∧ (∀ chan gap, s.Executes t lane (.sync chan false 0 gap) → r.run = .inShot → r.shadow = none → SMap.find r.latches chan = none →
        ∃ s', exec (.sync t lane) s = .next s' ∧ others s'
          ∧ s'.dev.drill l = { r with pc := r.pc + 1, timeoutFlag := true, cursor := r.cursor + 0 + gap }
          ∧ s'.dev.val (Obj.laneSyncTimeouts l) = wrap 32 (s.dev.val (Obj.laneSyncTimeouts l) + 1))
    ∧ (∀ chan forever timeout gap, s.Executes t lane (.sync chan forever timeout gap) → r.run = .inShot → r.shadow = none →
        SMap.find r.latches chan = none → (forever = true ∨ 0 < timeout) →
        ∃ s', exec (.sync t lane) s = .next s' ∧ s'.dev.objs = s.dev.objs ∧ others s'
          ∧ s'.dev.drill l = { r with timeoutFlag := false, run := .waitSync, waitGrain := (r.grain r.pc).getD 0 })
    ∧ (∀ chan timeout gap, r.run = .waitSync → decodeGrain r.waitGrain = .sync chan false timeout gap →
        d.syncLimit l r.cursor timeout + 200 ≤ d.now →
        ∃ s', exec (.syncTimeout t lane) s = .next s' ∧ others s'
          ∧ s'.dev.drill l = { r with pc := r.pc + 1, run := .inShot, timeoutFlag := true, cursor := r.cursor + timeout + gap }
          ∧ s'.dev.val (Obj.laneSyncTimeouts l) = wrap 32 (s.dev.val (Obj.laneSyncTimeouts l) + 1))

/-- A `branch` on a latch (kind 3) or on the timeout flag (kind 4) is decided at once, and one on a verdict (kinds 0–2) that does not
speculate takes the path that its final item gives when it came by the branch's time, or waits for it (R128, R213); one that may speculate does the same outside provisional mode, and
inside a prediction waits for its confirmation (R217). -/
def Obligations.BranchTakesThePathItsConditionGives : Prop :=
  ∀ (t : Nat) (lane : Lane) (s : State), s.Runs →
    let d := s.devAt t
    let l := lane.val
    let r := s.dev.drill l
    let path := fun (x : Drill) (pop target : Nat) (taken : Bool) =>
      if taken then { x with pc := target, loops := x.loops.drop pop } else { x with pc := x.pc + 1 }
    (∀ source value mask neg spec pop target, s.Executes t lane (.branch 3 source value mask neg spec pop target) →
        exec (.branch t lane) s = .next (s.withDev (d.setDrill l
          (path r pop target (condHolds (ofBool (SMap.find r.latches source).isSome) value mask neg)))))
    ∧ (∀ source value mask neg spec pop target, s.Executes t lane (.branch 4 source value mask neg spec pop target) →
        exec (.branch t lane) s = .next (s.withDev (d.setDrill l (path r pop target (condHolds (ofBool r.timeoutFlag) value mask neg)))))
    ∧ (∀ kind source value mask neg spec pop target i, s.Executes t lane (.branch kind source value mask neg spec pop target) → kind < 3 →
        (spec = true → r.shadow = none ∧ r.mode ≠ modeProvisional) → r.run = .inShot → d.branchItem l kind source = some i → i.void = false →
        i.time ≤ d.cursorTime l r.cursor →
        ∃ s', exec (.branch t lane) s = .next s' ∧ s'.dev.objs = s.dev.objs ∧ s'.dev.chains = s.dev.chains ∧ s'.mem = s.mem
          ∧ (∀ k, k ≠ l → s'.dev.drill k = s.dev.drill k)
          ∧ s'.dev.drill l =
              path { r with waitGrain := (r.grain r.pc).getD 0, specAsked := false, why := if spec then 8 else r.why, urgentDue := true } pop target
                (condHolds i.value value mask neg))
    ∧ (∀ kind source value mask neg spec pop target, s.Executes t lane (.branch kind source value mask neg spec pop target) → kind < 3 →
        (spec = true → r.shadow = none ∧ r.mode ≠ modeProvisional) → r.run = .inShot → d.branchItem l kind source = none →
        exec (.branch t lane) s = .next (s.withDev (d.setDrill l
          { r with run := .waitBranch, waitGrain := (r.grain r.pc).getD 0, specAsked := false, why := if spec then 6 else r.why })))
    ∧ (∀ kind source value mask neg pop target, s.Executes t lane (.branch kind source value mask neg true pop target) → kind < 3 →
        r.run = .inShot → r.shadow.isSome = true → exec (.branch t lane) s = .next (s.withDev (d.setDrill l { r with run := .waitConfirm })))

/-- A drill that waits at a branch takes the path of its final item when it comes (R213), by BRANCH_RESOLVE or, for a speculative branch,
SPEC_BRANCH_RESOLVE; a confirmed prediction becomes the confirmed state with the requests and granules it staged, in stamp order (R218); and a
branch whose time has come with no item, or with one that came later, takes neither path: its lane is muted to the end of the shot, and the drill goes to the shot's
`shot.end` (R130, R213; that it passes over what lies between is the model's choice, log entry 16). -/
def Obligations.WaitingBranchesEnd : Prop :=
  ∀ (t : Nat) (lane : Lane) (s : State), s.Runs →
    let d := s.devAt t
    let l := lane.val
    let r := s.dev.drill l
    let path := fun (x : Drill) (pop target : Nat) (taken : Bool) =>
      if taken then { x with pc := target, loops := x.loops.drop pop } else { x with pc := x.pc + 1 }
    (∀ kind source value mask neg spec pop target i, r.run = .waitBranch →
        decodeGrain r.waitGrain = .branch kind source value mask neg spec pop target → d.branchItem l kind source = some i →
        i.void = false → i.time ≤ d.cursorTime l r.cursor →
        exec (.branchResolve t lane) s = .next (s.withDev ((d.setDrill l
          { r with run := .inShot, urgentDue := true, why := if !spec || r.why = 7 then r.why else 8, specAsked := false }).takePath
            l pop target (condHolds i.value value mask neg))))
    ∧ (∀ kind source value mask neg pop target i, r.run = .waitBranch → r.shadow = none →
        decodeGrain r.waitGrain = .branch kind source value mask neg true pop target → d.branchItem l kind source = some i →
        i.void = false → i.time ≤ d.cursorTime l r.cursor →
        ∃ s', exec (.specBranchResolve t lane) s = .next s' ∧ s'.dev.chains = s.dev.chains ∧ s'.dev.objs = s.dev.objs ∧ s'.mem = s.mem
          ∧ s'.dev.drill l = path { r with run := .inShot, urgentDue := true, why := if r.why = 7 then r.why else 8, specAsked := false }
              pop target (condHolds i.value value mask neg))
    ∧ (∀ sh, r.shadow = some sh → (∀ v, SMap.find s.dev.vpt sh.entry = some v → v.state = .confirmed) →
        ∃ s', exec (.specBranchResolve t lane) s = .next s' ∧ (s'.dev.drill l).shadow = none ∧ (s'.dev.drill l).pc = r.pc
          ∧ (s'.dev.drill l).cursor = r.cursor
          ∧ (s'.dev.drill l).ready = r.ready ++ cutJobs (d.shotNo l) (r.muteFrom.getD (2 ^ 65)) (sh.jobs.foldl (fun js j => insertJob j js) [])
          ∧ (s'.dev.chain l).timed = (s.dev.chain l).timed ++ sh.timed.foldl (fun xs x => insertTimed x xs) []
          ∧ s'.dev.objs = s.dev.objs ∧ s'.mem = s.mem)
    ∧ (∀ kind source value mask neg spec pop target, r.run = .waitBranch → r.shadow = none →
        decodeGrain r.waitGrain = .branch kind source value mask neg spec pop target → (∀ i, d.branchItem l kind source = some i → d.cursorTime l r.cursor < i.time) →
        d.cursorTime l r.cursor ≤ d.now →
        ∃ s', exec (.branchVerdictMissing t lane) s = .next s' ∧ (s'.dev.drill l).run = .inShot
          ∧ (s'.dev.drill l).pc = (r.exit.map Prod.fst).getD (r.pc + 1)
          ∧ (s'.dev.drill l).muteFrom.isSome = true ∧ (s'.dev.chain l).muteFrom.isSome = true ∧ s'.mem = s.mem)

/-! ### Playing and alternates (R120, R121, R214, R215, R222) -/

/-- `play` in a shot, outside a prediction and an alternate group, hands its granules to the issue port from the cursor on, sets busy-until,
and moves the cursor behind them unless it holds; a waveform the program does not name plays nothing (R120). What a mute of the shot discards is
not handed on (R92). No commit waits for a segment end. Where the play begins a segment, a watch that fires there replaces it (R134), and one
whose event may still be on its way holds it (R133). -/
def Obligations.PlayQueuesItsGranules : Prop :=
  ∀ (t : Nat) (lane : Lane) (s : State), s.Runs →
    let d := s.devAt t
    let l := lane.val
    let r := s.dev.drill l
    ∀ sg m h w amp frame phase, s.Executes t lane (.play sg m h w amp frame phase) → r.run = .inShot → r.alt = none →
      let job : PlayJob :=
        { waveform := w, amplitude := amp, frame := frame, phase := phase, start := r.cursor, next := 0
          length := (r.entryOf w).length, streamed := (r.entryOf w).stream, urgent := r.urgentDue, altSlot := none
          reserved := false, shot := d.shotNo l, tsOrigin := d.ts l, first := r.firstDue, last := false, seg := none, streamAt := r.streamCur
          why := r.why }
      let begins := (sg || r.segDue) = true
      let frame := fun (s' : State) =>
        (∀ k, k ≠ l → s'.dev.drill k = s.dev.drill k ∧ s'.dev.chain k = s.dev.chain k) ∧ s'.mem = s.mem
      (0 < (r.entryOf w).length → r.shadow = none →
        (d.commitOf (Obj.laneCommit l)).waits 2 = false → (d.commitOf (Obj.biasCommit l)).waits 2 = false →
        ((begins → d.watchWaits l = false ∧ (r.segStart < r.cursor → r.watchFires (d.cutoff l r.cursor) = none)) →
          ∃ s', exec (.play t lane) s = .next s' ∧ (s'.dev.drill l).pc = r.pc + 1
            ∧ (s'.dev.drill l).busy = r.cursor + (r.entryOf w).length
            ∧ (s'.dev.drill l).cursor = (if h then r.cursor else r.cursor + (r.entryOf w).length)
            ∧ (s'.dev.drill l).firstDue = false ∧ (r.muteFrom = none → r.unmuted job = job)
            ∧ (s'.dev.drill l).ready =
                (if (r.unmuted job).next < (r.unmuted job).length then r.ready ++ [r.unmuted job] else r.ready)
            ∧ s'.dev.objs = s.dev.objs ∧ frame s')
        ∧ (begins → d.watchWaits l = true → exec (.play t lane) s = .next (s.withDev d))
        ∧ (∀ x, begins → d.watchWaits l = false → r.segStart < r.cursor → r.watchFires (d.cutoff l r.cursor) = some x →
          ∃ s', exec (.play t lane) s = .next s' ∧ (s'.dev.drill l).pc = x.target ∧ (s'.dev.drill l).loops = r.loops.drop x.pop
            ∧ (s'.dev.drill l).watch = none ∧ (s'.dev.drill l).ready = r.ready ∧ (s'.dev.drill l).cursor = r.cursor
            ∧ (s'.dev.drill l).segStart = r.cursor ∧ frame s' ∧ (x.mask ≠ 0 → SMap.find (s'.dev.drill l).latches x.channel = none)))
      ∧ ((r.entryOf w).length = 0 → exec (.play t lane) s = .next (s.withDev (d.setDrill l { r with pc := r.pc + 1 })))

/-- The first `play.alt` of a group begins it at the cursor (R121). In strict mode it opens its slot without an entry; in the other modes it asks
for one and holds it, staging, while its item is not on the fabric, or is refused and counted at the limit (R215, R223). The group's close moves
cursor and busy-until behind its longer slot and waits for the items its slots turn on (R121, R214). -/
def Obligations.AlternateGroupsOpenAndClose : Prop :=
  ∀ (t : Nat) (lane : Lane) (s : State), s.Runs →
    let d := s.devAt t
    let l := lane.val
    let r := s.dev.drill l
    let stop := fun (g : AltGroup) => g.release + (g.opened.map AltOpen.length).foldl max 0
    (∀ slot kind source value mask, s.Executes t lane (.altOpen slot kind source value mask) → r.run = .inShot → r.shadow = none → r.alt = none →
      r.mode = modeStrict →
      ∃ s', exec (.playAltOpen t lane) s = .next s' ∧ (s'.dev.drill l).pc = r.pc + 1 ∧ (s'.dev.drill l).cursor = r.cursor
        ∧ s'.dev.vpt = s.dev.vpt ∧ (∀ k, k ≠ l → s'.dev.drill k = s.dev.drill k) ∧ s'.mem = s.mem
        ∧ (s'.dev.drill l).alt = some
            { release := r.cursor, closed := false, windowEnd := 0, shot := d.shotNo l, refused := false, first := r.firstDue
              opened := [{ slot := slot, kind := kind, source := source, value := value, mask := mask, length := 0, jobs := [], entry := none }] })
    ∧ ∀ g, r.alt = some g → g.closed = false →
      (∀ slot kind source value mask, s.Executes t lane (.altOpen slot kind source value mask) → r.run = .inShot → r.shadow = none →
        r.mode ≠ modeStrict → d.altFree l slot = true → 40 ≤ d.cursorTime l g.release →
        d.finalItem l (d.shotNo l) (d.cursorTime l g.release) (fabricOf kind source) = none →
        (d.vptInUse < s.dev.val Obj.devSpeculationLimit → d.freeEntry < 1024 →
          ∃ s' v, exec (.playAltOpen t lane) s = .next s' ∧ SMap.find s'.dev.vpt d.freeEntry = some v ∧ v.state = .staging ∧ v.isBranch = false
            ∧ v.lane = l ∧ v.slot = slot ∧ v.kind = kind ∧ v.source = source ∧ v.value = value ∧ v.mask = mask
            ∧ v.release + 40 = d.cursorTime l g.release
            ∧ s'.dev.val Obj.fbSpecAllocated = wrap 64 (s.dev.val Obj.fbSpecAllocated + 1) ∧ (s'.dev.drill l).pc = r.pc + 1 ∧ s'.mem = s.mem)
        ∧ (s.dev.val Obj.devSpeculationLimit ≤ d.vptInUse →
          ∃ s', exec (.playAltOpen t lane) s = .next s' ∧ s'.dev.vpt = s.dev.vpt ∧ (s'.dev.drill l).pc = r.pc + 1
            ∧ (s'.dev.drill l).alt.map AltGroup.refused = some true
            ∧ s'.dev.val Obj.fbSpecRefused = wrap 32 (s.dev.val Obj.fbSpecRefused + 1) ∧ s'.mem = s.mem))
      ∧ (∀ slot kind source value mask, s.Executes t lane (.altOpen slot kind source value mask) → r.run = .inShot → r.shadow = none →
        r.mode = modeStrict →
        ∃ s', exec (.playAltOpen t lane) s = .next s' ∧ s'.dev.objs = s.dev.objs ∧ s'.dev.chains = s.dev.chains ∧ s'.dev.vpt = s.dev.vpt
          ∧ s'.mem = s.mem ∧ (∀ k, k ≠ l → s'.dev.drill k = s.dev.drill k)
          ∧ s'.dev.drill l =
              { r with
                pc := r.pc + 1
                alt := some { g with opened := g.opened ++
                  [{ slot := slot, kind := kind, source := source, value := value, mask := mask, length := 0, jobs := [], entry := none }] } })
      ∧ (s.Executes t lane .altClose → (∃ o ∈ g.opened, o.entry = none) →
        ∃ s', exec (.playAltClose t lane) s = .next s' ∧ s'.dev.objs = s.dev.objs ∧ s'.dev.chains = s.dev.chains ∧ s'.mem = s.mem
          ∧ s'.dev.drill l =
              { r with
                pc := r.pc + 1, cursor := stop g, busy := stop g, alt := some { g with closed := true }, run := .waitAlt
                firstDue := r.firstDue && decide (stop g = g.release) })
      ∧ (s.Executes t lane .altClose → (∀ o ∈ g.opened, o.entry ≠ none) →
        ∃ s', exec (.playAltClose t lane) s = .next s' ∧ s'.dev.objs = s.dev.objs ∧ s'.dev.chains = s.dev.chains ∧ s'.mem = s.mem
          ∧ s'.dev.drill l =
              { r with
                pc := r.pc + 1, cursor := stop g, busy := stop g, alt := none
                firstDue := r.firstDue && decide (stop g = g.release) })

/-- A drill that waits at the close of a group whose slots hold no entry goes on once its items are there: with nothing chosen it leaves the
group, and a chosen slot that is free is issued as urgent granules in front of everything else (R214, R216). At its release tick an alternate
that is selected, or whose entry is confirmed, plays if its granules are all in its slot: those that are due leave the slot (R215), and the
others stay unless one is refused at release (R244). Slot and entry
are free once its span has left (R222). -/
def Obligations.AlternatesResolvePlayAndEnd : Prop :=
  ∀ (t : Nat) (lane : Lane) (s : State), s.Runs →
    let d := s.devAt t
    let l := lane.val
    let r := s.dev.drill l
    let c := s.dev.chain l
    (∀ g, r.run = .waitAlt → r.alt = some g → (∀ o ∈ g.opened, ∀ i, d.openItem l g o = some i → i.void = false) →
        d.chosenAlt l g = some none → d.groupEntries l (d.cursorTime l g.release) = [] →
        ∃ s', exec (.strictAltResolve t lane) s = .next s'
          ∧ s'.dev.drill l = { r with alt := none, run := .inShot, firstDue := r.firstDue || (g.first && g.opened.all (fun o => o.entry.isNone)) }
          ∧ s'.dev.chains = s.dev.chains ∧ s'.dev.objs = s.dev.objs ∧ s'.mem = s.mem)
    ∧ (∀ g o, r.run = .waitAlt → r.alt = some g → (∀ p ∈ g.opened, ∀ i, d.openItem l g p = some i → i.void = false) →
        d.chosenAlt l g = some (some o) → o.entry = none → d.altFree l o.slot = true →
        d.groupEntries l (d.cursorTime l g.release) = [] →
        ∃ s', exec (.strictAltResolve t lane) s = .next s'
          ∧ s'.dev.drill l =
              { r with
                alt := none, run := .inShot
                ready := ((o.jobs.map r.unmuted).filter (fun j => j.next < j.length)).map
                  (fun j => { j with urgent := true, why := if g.refused then 9 else j.why }) ++ r.ready }
          ∧ ((s'.dev.chain l).alt o.slot).map AltSlot.releaseStamp = some (d.cursorTime l g.release)
          ∧ ((s'.dev.chain l).alt o.slot).map AltSlot.selected = some true ∧ s'.dev.objs = s.dev.objs ∧ s'.mem = s.mem)
    ∧ (∀ (k : Fin 2) a, c.alt k.val = some a → c.alt (1 - k.val) = none → a.playing = false → a.releaseStamp ≤ d.now + 40 →
        (a.selected = true ∧ (∀ p ∈ s.dev.vpt, p.2.lane ≠ l)
          ∨ ∃ i v, s.dev.vpt.filter (fun p => p.2.lane = l) = [(i, v)] ∧ SMap.find s.dev.vpt i = some v ∧ v.slot = k.val ∧ v.state = .confirmed) →
        s.dev.val Obj.timeRefState = 0 → a.needs c ≤ a.granules.length → r.run ≠ .waitAlt →
        ∃ s', exec (.altRelease t lane) s = .next s'
          ∧ (let left := a.granules.drop (a.granules.takeWhile (fun g => g.stamp ≤ d.now + 40)).length
            ∃ b, (s'.dev.chain l).alt k.val = some b ∧ b.playing = true ∧ (∀ g ∈ b.granules, g ∈ left)
              ∧ ((∀ g ∈ a.granules, g.shot = a.shot) → (s'.dev.chain l).breach = none → b = { a with playing := true, granules := left }))
          ∧ (s'.dev.chain l).furrow.length ≤ c.furrow.length ∧ s'.mem = s.mem)
    ∧ (∀ a, c.alt0 = some a → c.alt1 = none → a.playing = false → d.now + 40 < a.releaseStamp → r.run ≠ .waitAlt →
        exec (.altRelease t lane) s = .next (s.withDev d))
    ∧ (∀ (k : Fin 2) (a : AltSlot), c.alt k.val = some a → a.playing = true → a.releaseStamp + 64 * a.length ≤ d.now →
        ∃ s', exec (.altSpanEnd t lane k) s = .next s' ∧ (s'.dev.chain l).alt k.val = none
          ∧ (∀ p ∈ s'.dev.vpt, ¬(p.2.lane = l ∧ p.2.slot = k.val)) ∧ s'.mem = s.mem
          ∧ (a.granules = [] → s'.dev.drills = s.dev.drills ∧ s'.dev.objs = s.dev.objs))

/-- An entry whose content is known whole and lies in its slot is staged: a branch's once its drill has passed the 16 granules of the predicted path
or waits there, an alternate's once its group is closed; before that it is not (R217, R222). A final item that meets the condition of a branch's entry confirms it
and selects its slot, counting one confirmation (what its streamed granules met at the issue port then shows), and one that does not strikes the entry off; a void or a late one leaves it unconfirmable and its
lane muted (R218, R222, R227–R229). -/
def Obligations.EntriesAreStagedAndResolved : Prop :=
  ∀ (t : Nat) (s : State), s.Runs →
    let d := s.devAt t
    (∀ (entry : Slot) (v : VptEntry) (a : AltSlot), SMap.find s.dev.vpt entry.val = some v → v.state = .staging →
        (s.dev.chain v.lane).alt v.slot = some a →
        let r := s.dev.drill v.lane
        let known :=
          (v.isBranch = true → ∀ sh, r.shadow = some sh → sh.cursor + 16 ≤ r.cursor ∨ r.run = .waitConfirm)
            ∧ (v.isBranch = false → ∀ g, r.alt = some g → g.closed = true ∨ d.cursorTime v.lane g.release ≠ v.release + 40)
        (known → a.granules.length = a.length →
          exec (.vptStaged t entry) s = .next (s.withDev { d with vpt := SMap.set d.vpt entry.val { v with state := .staged } }))
        ∧ (¬known ∨ a.granules.length ≠ a.length → exec (.vptStaged t entry) s = .next (s.withDev d)))
    ∧ (∀ (item : Fin 1284) (i : Nat) (v : VptEntry) (x : Item), SMap.find s.dev.vpt i = some v →
        s.dev.vpt.filter (fun p => p.2.fid = item.val) = [(i, v)] → v.group = none → (v.isBranch = true ∧ v.slot ≤ 1) ∨ v.slot = 0 →
        v.state ≠ .confirmed → d.entryItem v = some x →
        (d.now ≤ v.release → x.void = false → v.holds x = true →
          ∃ s', exec (.vptFinalItem t item) s = .next s' ∧ SMap.find s'.dev.vpt i = some { v with state := .confirmed }
            ∧ s'.dev.val Obj.fbSpecConfirmed = wrap 64 (s.dev.val Obj.fbSpecConfirmed + 1) ∧ s'.mem = s.mem
            ∧ (∀ a, (s.dev.chain v.lane).alt v.slot = some a → a.lost = [] →
              (s'.dev.chain v.lane).alt v.slot = some { a with selected := true } ∧ s'.dev.drills = s.dev.drills))
        ∧ (d.now ≤ v.release → x.void = false → v.holds x = false →
          ∃ s', exec (.vptFinalItem t item) s = .next s' ∧ SMap.find s'.dev.vpt i = none
            ∧ s'.dev.val Obj.fbSpecSquashed = wrap 64 (s.dev.val Obj.fbSpecSquashed + 1)
            ∧ (s'.dev.chain v.lane).alt v.slot = none ∧ s'.mem = s.mem)
        ∧ (v.release < d.now ∨ x.void = true →
          ∃ s', exec (.vptFinalItem t item) s = .next s' ∧ SMap.find s'.dev.vpt i = none
            ∧ s'.dev.val Obj.fbSpecUnconfirmable = wrap 32 (s.dev.val Obj.fbSpecUnconfirmable + 1)
            ∧ (s'.dev.chain v.lane).muteFrom.isSome = true ∧ s'.mem = s.mem))

/-! ### Shots, issue and arrival (R91, R98, R113–R116, R157, R163, R245) -/

/-- A join whose counted members all stand at it begins the shot for all of them with one number and one origin (R115): each goes on with the
instruction behind its `shot.begin` at cursor 0, and no other lane moves. A first join in mode 0 has its origin at least 8,192 ticks ahead on
a multiple of 64 (R114). Without the event of mode 1 every member waits for it. -/
def Obligations.JoinsBeginTheShotOfAllMembers : Prop :=
  ∀ (t : Nat) (g : Fin 576) (s : State), s.Runs →
    let d := s.devAt t
    let x := s.dev.group g.val
    let lanes := d.joinLanes g.val
    ∀ lead mode chan gap, lead ∈ lanes → (∀ m ∈ lanes, lead ≤ m) → lanes.Nodup → x.inShot = false → (∀ m ∈ lanes, d.joinReady m = true) →
      ((s.dev.drill lead).grain (s.dev.drill lead).pc).map decodeGrain = some (.shotBegin mode chan gap) →
      (∀ tick skipped moved, x.started = true → d.originOf x lead mode chan gap = .at tick skipped moved →
        ∃ s', exec (.shotJoin t g) s = .next s' ∧ (s'.dev.group g.val).inShot = true
          ∧ (s'.dev.group g.val).shot = s.dev.val Obj.devShotNumber + 1 ∧ (s'.dev.group g.val).origin = tick
          ∧ (s'.dev.group g.val).took = lanes ∧ s'.dev.val Obj.devShotNumber = wrap 64 (s.dev.val Obj.devShotNumber + 1)
          ∧ (∀ m ∈ lanes, (s'.dev.drill m).run = .inShot ∧ (s'.dev.drill m).cursor = 0 ∧ (s'.dev.drill m).pc = (s.dev.drill m).pc + 1)
          ∧ (∀ m, m ∉ lanes → s'.dev.drill m = s.dev.drill m) ∧ (∀ k, k ≠ g.val → s'.dev.group k = s.dev.group k) ∧ s'.mem = s.mem)
      ∧ (x.started = false → mode = 0 → x.earliest = 0 →
        ∃ s', exec (.shotJoin t g) s = .next s' ∧ (s'.dev.group g.val).inShot = true
          ∧ (s'.dev.group g.val).origin = up64 (d.now + 8192) + 64 * gap ∧ (s'.dev.group g.val).took = lanes
          ∧ (∀ m ∈ lanes, (s'.dev.drill m).run = .inShot ∧ (s'.dev.drill m).cursor = 0) ∧ s'.mem = s.mem)
      ∧ (x.started = true → mode = 1 → SMap.find (s.dev.drill lead).latches chan = none →
        ∃ s', exec (.shotJoin t g) s = .next s' ∧ (s'.dev.group g.val).inShot = false
          ∧ (∀ m ∈ lanes, s'.dev.drill m = { s.dev.drill m with run := .waitOrigin })
          ∧ (∀ m, m ∉ lanes → s'.dev.drill m = s.dev.drill m) ∧ s'.dev.objs = s.dev.objs ∧ s'.mem = s.mem)

/-- `shot.end` ends the lane's part of the shot at max(cursor, busy-until): its latches are empty, its watch is disarmed and a segment ends
there (R115, R134, R135), once its cutoff has passed (R133). The shot goes on while a running member has not passed its own `shot.end`; with the last it ends at the latest
of all ends. -/
def Obligations.ShotEndEndsTheLanesPart : Prop :=
  ∀ (t : Nat) (lane : Lane) (s : State), s.Runs →
    let d := s.devAt t
    let l := lane.val
    let r := s.dev.drill l
    let g := d.groupOf l
    let x := s.dev.group g
    let stop := d.cursorTime l (max r.cursor r.busy)
    s.Executes t lane .shotEnd → r.run = .inShot → r.alt = none → r.shadow = none → d.reached l (max r.cursor r.busy) = true →
    (d.commitOf (Obj.laneCommit l)).waits 2 = false → (d.commitOf (Obj.biasCommit l)).waits 2 = false →
    (d.endWaits l (max r.cursor r.busy) = true → exec (.shotEnd t lane) s = .next (s.withDev d))
    ∧ (d.endWaits l (max r.cursor r.busy) = false → x.inShot = true → (∃ m ∈ x.members, m ≠ l ∧ ∀ p ∈ x.ended, p.1 ≠ m) →
        ∃ s', exec (.shotEnd t lane) s = .next s' ∧ (s'.dev.drill l).run = .between ∧ (s'.dev.drill l).pc = r.pc + 1
          ∧ (s'.dev.drill l).latches = [] ∧ (s'.dev.drill l).watch = none ∧ (s'.dev.drill l).segEnds.head? = some stop
          ∧ s'.dev.group g = { x with ended := x.ended ++ [(l, stop)] } ∧ s'.dev.shots = s.dev.shots
          ∧ (∀ k, k ≠ l → s'.dev.drill k = s.dev.drill k) ∧ s'.mem = s.mem)
    ∧ (d.endWaits l (max r.cursor r.busy) = false → x.inShot = true → (∀ m ∈ x.members, m = l ∨ ∃ p ∈ x.ended, p.1 = m) → s.dev.vpt = [] → s.dev.commits = [] →
        (∀ m ∈ x.took, (s.dev.drill m).stopAtBoundary = false) → r.stopAtBoundary = false →
        ∃ s', exec (.shotEnd t lane) s = .next s' ∧ (s'.dev.drill l).run = .between ∧ (s'.dev.drill l).latches = []
          ∧ (s'.dev.group g).inShot = false ∧ (s'.dev.group g).prevOrigin = x.origin
          ∧ (s'.dev.group g).prevEnd = ({ x with ended := x.ended ++ [(l, stop)] } : Group).endTick d.now ∧ s'.mem = s.mem)

/-- The issue port serves the drill R98 names: its granule, scaled (R149) and with its estimate for allowance (R240), leaves for the
converter die when it is within every ceiling; every other drill with a granule ready counts one grant more. -/
def Obligations.TheIssuePortServesOneGranule : Prop :=
  ∀ (t : Nat) (strip : Strip) (s : State), s.Runs →
    let d := s.devAt t
    ∀ (c : Claim) (j : PlayJob), s.dev.val (Obj.stripState strip.val) = 0 → chooseClaim (d.claims strip.val) = some c →
      d.issuable c.lane = some j → j.streamed = false →
      let r := s.dev.drill c.lane
      let e := r.entryOf j.waveform
      let data := d.waveData s.mem e
      let est := estimate e.peak j.amplitude (d.laneAt c.lane (Obj.laneDigitalGain c.lane) j.stamp)
      (j.reserved = true ∨ d.spanAt c.lane j.stamp = true ∨ d.firstBreach c.lane [{ lane := c.lane, stamp := j.stamp, code := est, span := none }] = none) →
      ∃ s', exec (.issueGrant t strip true) s = .next s'
        ∧ (s'.dev.chain c.lane).flight = (s.dev.chain c.lane).flight ++
            [{ stamp := j.stamp, first := j.first && j.next = 0, last := j.last && j.next + 1 = j.length, shotTag := j.shot % 16, streamed := false
               phase := j.phase, frame := j.frame, samples := (granuleSamples data j.next).map (scaleSample j.amplitude), allowance := est
               shot := j.shot, urgent := j.urgent, altSlot := j.altSlot, reserved := j.reserved
               seg := if j.next = 0 then j.seg else none, why := j.why }]
        ∧ (s'.dev.drill c.lane).passed = 0
        ∧ (∀ o ∈ d.claims strip.val, o.lane ≠ c.lane → (s'.dev.drill o.lane).passed = (s.dev.drill o.lane).passed + 1)
        ∧ s'.dev.objs = s.dev.objs ∧ s'.mem = s.mem

/-- What crosses to the converter die arrives in order, each kind for itself, and is on time when at least 2 ticks are left (R91): a granule
joins the furrow (R88), a marker, window, bias or frame request its queue; one that is late is not carried out (R92, R126). -/
def Obligations.ArrivalsAreOnTimeOrNotCarriedOut : Prop :=
  ∀ (t : Nat) (lane : Lane) (s : State), s.Runs →
    let d := s.devAt t
    let l := lane.val
    let c := s.dev.chain l
    let chained := fun (x : Chain) => s.withDev (d.setChain l x)
    (∀ g rest, c.flight = g :: rest → c.muteFrom = none → g.altSlot = none → c.furrow.length < 128 →
        (∀ q, c.lastStamp = some q → q + 64 ≤ g.stamp) → d.now + 2 ≤ releaseTick l g.stamp →
        exec (.granuleArrive t lane .granule) s = .next (chained
          { c with
            flight := rest, furrow := c.furrow ++ [g], lastStamp := some g.stamp
            leads := SMap.set c.leads g.stamp ((releaseTick l g.stamp - d.now) / 64) }))
    ∧ (∀ g rest, c.flight = g :: rest → c.discards g = true →
        ∃ s', exec (.granuleArrive t lane .granule) s = .next s' ∧ s'.dev.chain l = { c with flight := rest } ∧ s'.dev.objs = s.dev.objs
          ∧ s'.mem = s.mem)
    ∧ (∀ pin action width stamp why rest, c.timed = ⟨.pin pin action width stamp, why⟩ :: rest → d.now + 2 ≤ releaseTick l stamp →
        exec (.granuleArrive t lane .marker) s = .next (chained
          { c with timed := rest, markers := c.markers ++ [.pin pin action width stamp] }))
    ∧ (∀ ch stamp why rest, c.timed = ⟨.event ch stamp, why⟩ :: rest → d.now + 2 ≤ releaseTick l stamp →
        exec (.granuleArrive t lane .marker) s = .next (chained { c with timed := rest, markers := c.markers ++ [.event ch stamp] }))
    ∧ (∀ ch stamp why rest, c.timed = ⟨.event ch stamp, why⟩ :: rest → releaseTick l stamp < d.now + 2 →
        ∃ s', exec (.granuleArrive t lane .marker) s = .next s' ∧ (s'.dev.chain l).timed = rest ∧ (s'.dev.chain l).markers = c.markers
          ∧ s'.dev.val (Obj.stripLateGranules (l / 8) (l % 8)) = wrap 32 (s.dev.val (Obj.stripLateGranules (l / 8) (l % 8)) + 1)
          ∧ (s'.dev.chain l).muteFrom.isSome = true ∧ s'.mem = s.mem)
    ∧ (∀ slot stamp shot why rest, c.timed = ⟨.window slot stamp shot, why⟩ :: rest → d.now + 2 ≤ stamp →
        ∃ s', exec (.granuleArrive t lane .acquire) s = .next s' ∧ (s'.dev.chain l).timed = rest
          ∧ s'.dev.slot slot =
              { s.dev.slot slot with
                asked := insertAsked
                  { slot := slot, start := stamp, stop := stamp + 32 * s.dev.val (Obj.slotWindowLength slot), lane := l, shot := shot, late := false }
                  (s.dev.slot slot).asked }
          ∧ s'.dev.objs = s.dev.objs ∧ s'.mem = s.mem)
    ∧ (∀ code stamp why rest, c.timed = ⟨.bias code stamp, why⟩ :: rest → d.now + 2 ≤ stamp →
        exec (.granuleArrive t lane .bias) s = .next (chained { c with timed := rest, biases := c.biases ++ [(stamp, code)] }))
    ∧ (∀ what f v effect commit why rest, c.timed = ⟨.frame what f v effect commit, why⟩ :: rest → c.frameQ.length < 16 →
        (commit = true ∨ ((∀ q, c.firstRelease l effect = some q → d.now + 2 ≤ q) ∧ ∀ g, c.last = some g → g.stamp < effect)) →
        exec (.granuleArrive t lane .frame) s = .next (chained
          { c with timed := rest, frameQ := insertFrame (.frame what f v effect commit) c.frameQ }))

/-- The furrow releases its head at its release tick and at no other, while RF is on, into the chain, whose interval it begins (R89, R162); the
entry whose segment it begins shows in LaneSegEntry (R174). While the reference is lost it goes nowhere. The oldest frame record acts when its
time has come (R157). The marker requests whose stamp has come act and leave the others waiting: a set and a pulse raise their ball, a clear lowers
it where nothing holds it, an event fires (R125, R163). A lane's DAC output settles (R160). The oldest interval's sum is charged to its lane in all
three windows (R245); a difference in the governor's checks is a Grave fault (R253). -/
def Obligations.TheConverterDieActsOnTime : Prop :=
  ∀ (t : Nat) (lane : Lane) (s : State), s.Runs →
    let d := s.devAt t
    let l := lane.val
    let c := s.dev.chain l
    (∀ g rest, c.furrow = g :: rest → d.now = releaseTick l g.stamp → s.dev.flag Obj.devRfEnable = true →
        (s.dev.val Obj.timeRefState = 0 →
          ∃ s', exec (.granuleRelease t lane) s = .next s' ∧ (s'.dev.chain l).last = some g ∧ (s'.dev.chain l).nextInterval = g.stamp + 64
            ∧ (s'.dev.chain l).sums.getLast?.map Prod.fst = some g.stamp ∧ (∃ codes, Output.aout l g.stamp codes ∈ s'.dev.out)
            ∧ SMap.look (s'.dev.chain l).leadMin g.shot 255 = min (SMap.look c.leadMin g.shot 255) (SMap.look c.leads g.stamp 255)
            ∧ (∀ i, g.seg = some i → (∀ what f v e k, .frame what f v e k ∈ c.frameQ → f < 8) → s'.dev.val (Obj.laneSegEntry l) = i)
            ∧ (c.history = [] → (s'.dev.chain l).sums.length = c.sums.length + 1) ∧ s'.mem = s.mem)
        ∧ (s.dev.val Obj.timeRefState ≠ 0 →
          ∃ s', exec (.granuleRelease t lane) s = .next s' ∧ (s'.dev.chain l).furrow = rest ∧ s'.dev.out = s.dev.out ∧ s'.mem = s.mem))
    ∧ (∀ g rest, c.furrow = g :: rest → d.now ≠ releaseTick l g.stamp ∨ s.dev.flag Obj.devRfEnable = false →
        exec (.granuleRelease t lane) s = .next (s.withDev d))
    ∧ (∀ what f v e commit rest, c.frameQ = .frame what f v e commit :: rest → what < 5 →
        let key := if what = 0 then Obj.laneFrameFreq l f else if what = 3 then Obj.laneFrameOrigin l f
          else if what = 4 then Obj.laneDigitalGain l else Obj.laneFramePhase l f
        (e ≤ d.now ∨ (∃ q, c.firstRelease l e = some q ∧ q ≤ d.now) →
          exec (.frameRecordApply t lane) s = .next (s.withDev ((d.setChain l { c with frameQ := rest }).put key
            (if what = 2 then wrap 24 (s.dev.val key + v) else v))))
        ∧ (d.now < e → (∀ q, c.firstRelease l e = some q → d.now < q) → exec (.frameRecordApply t lane) s = .next (s.withDev d)))
    ∧ (s.dev.val Obj.timeRefState = 0 → s.dev.faults.safe = 0 →
        let due := c.markers.filter (Timed.due d.now)
        ∃ s', exec (.markerRelease t lane) s = .next s' ∧ (s'.dev.chain l).markers = c.markers.filter (fun x => !(x.due d.now))
          ∧ (∀ p action width stamp, .pin p action width stamp ∈ due → (∀ x ∈ due, x.pinOf = some p → x = .pin p action width stamp) →
            (action = 1 → s'.dev.pin p = true)
            ∧ (action = 0 → d.now < stamp + max width 10 → s'.dev.pin p = true ∧ (p, stamp + max width 10) ∈ s'.dev.pulses)
            ∧ (action = 2 → SMap.find s.dev.pinSets p ≠ some (true, stamp) → (∀ q ∈ s.dev.pulses, q.1 ≠ p) → s'.dev.pin p = false))
          ∧ (∀ p, (∀ x ∈ due, x.pinOf ≠ some p) → (∀ q ∈ s.dev.pulses, q.1 = p → d.now < q.2) → s'.dev.pin p = s.dev.pin p)
          ∧ (∀ ch stamp, due = [.event ch stamp] → ch < 128 → s.dev.router.waves.length < 64 → s.dev.pulses = [] →
            s'.dev.router.waves = s.dev.router.waves ++ [{ channel := ch, time := { tick := stamp, ps := 0 }, fromLink := false }])
          ∧ s'.dev.drills = s.dev.drills ∧ s'.mem = s.mem)
    ∧ (s.dev.val Obj.timeRefState ≠ 0 ∨ s.dev.faults.safe ≠ 0 → exec (.markerRelease t lane) s =
        .next (s.withDev (d.setChain l { c with markers := c.markers.filter (fun x => !(x.due d.now)) })))
    ∧ exec (.dacOutputSettled t lane) s = .next (s.withDev (d.setChain l { c with settleAt := min c.settleAt d.now }))
    ∧ (∀ start code k rest checkOk, ((d.runTail l).chain l).sums = (start, code, k) :: rest →
        ∃ s', exec (.energyIntervalSum t lane checkOk) s = .next s' ∧ (s'.dev.chain l).sums = rest
          ∧ (∀ w, w < 3 →
            let charged := fun (x : State) => SMap.look (SMap.look x.dev.energy.laneCharge (3 * l + w) []) (start / bucketTicks w) 0
            charged s' = charged s + lineEnergy (s.dev.profileAt start) k l code)
          ∧ (checkOk = false → bit s.dev.faults.sticky 0 = false → bit s'.dev.faults.sticky 0 = true ∧ s'.dev.faults.safe = 2) ∧ s'.mem = s.mem)

/-! ### Segment tables, streams and long programs (R153, R154, R168–R170, R318, R319) -/

/-- `seg` plays its table one repetition at a time (R168). The first command enters at the first entry that plays, from the one it names, or returns
when there is none; a watch that fires there replaces it (R134). A later command, at the end of the repetition before it, leaves the entry on a
condition latched by the cutoff and counts that (R169), repeats it, or goes to the next entry that plays, or returns behind the `seg`, where a
segment begins (R170). An entry with a condition is not decided before 20 ns past its cutoff (log entry 41). In shadow state the drill waits for
its confirmation (R171; log entry 41). No commit waits for a segment end. -/
def Obligations.SegmentTablesPlayEntryByEntry : Prop :=
  ∀ (t : Nat) (lane : Lane) (s : State), s.Runs →
    let d := s.devAt t
    let l := lane.val
    let r := s.dev.drill l
    let cut := d.cutoff l r.cursor
    let stop := d.cursorTime l r.cursor
    let frame := fun (s' : State) => (∀ k, k ≠ l → s'.dev.drill k = s.dev.drill k ∧ s'.dev.chain k = s.dev.chain k) ∧ s'.mem = s.mem
    let plays := fun (s' : State) (i rep start : Nat) (prev : Option (Nat × Nat)) =>
      (s'.dev.drill l).pc = r.pc ∧ (s'.dev.drill l).seg = some { entry := i, rep := rep, entryStart := start, prev := prev }
        ∧ (s'.dev.drill l).segStart = r.cursor ∧ (s'.dev.drill l).cursor = r.cursor + (r.entryOf (r.segEntry i).wave).length ∧ frame s'
    let returns := fun (s' : State) =>
      (s'.dev.drill l).pc = r.pc + 1 ∧ (s'.dev.drill l).seg = none ∧ (s'.dev.drill l).segStart = r.cursor ∧ (s'.dev.drill l).segDue = false
        ∧ (s'.dev.drill l).cursor = r.cursor ∧ (s'.dev.drill l).ready = r.ready ∧ frame s'
    let goesFrom := fun (s' : State) (i : Nat) =>
      match r.segPlays 4096 i with
      | some j => plays s' j 1 stop none
      | none => returns s'
    ∀ first, s.Executes t lane (.seg first) → r.run = .inShot →
      (r.shadow.isSome = true → exec (.seg t lane) s = .next (s.withDev (d.setDrill l { r with run := .waitConfirm })))
      ∧ (r.shadow = none → (d.commitOf (Obj.laneCommit l)).waits 2 = false → (d.commitOf (Obj.biasCommit l)).waits 2 = false →
        (r.seg = none →
          (d.watchWaits l = true → exec (.seg t lane) s = .next (s.withDev d))
          ∧ (d.watchWaits l = false → (r.segStart < r.cursor → r.watchFires cut = none) →
            ∃ s', exec (.seg t lane) s = .next s' ∧ goesFrom s' first ∧ s'.dev.objs = s.dev.objs)
          ∧ (∀ w, d.watchWaits l = false → r.segStart < r.cursor → r.watchFires cut = some w →
            ∃ s', exec (.seg t lane) s = .next s' ∧ (s'.dev.drill l).pc = w.target ∧ (s'.dev.drill l).seg = none
              ∧ (s'.dev.drill l).watch = none ∧ (s'.dev.drill l).cursor = r.cursor ∧ frame s'))
        ∧ (∀ w, r.seg = some w →
          let e := r.segEntry w.entry
          let jumps := s.dev.val (Obj.laneSegJumps l)
          let next := fun (s' : State) => if e.last then returns s' else goesFrom s' e.next
          (d.endWaits l r.cursor = true ∨ (e.cond ≠ 0 ∧ d.now < cut + 200) → exec (.seg t lane) s = .next (s.withDev d))
          ∧ (d.endWaits l r.cursor = false → e.cond = 0 ∨ cut + 200 ≤ d.now →
            (∀ v, r.segEvent w = some v → v.by cut = true →
              ∃ s', exec (.seg t lane) s = .next s' ∧ next s' ∧ s'.dev.val (Obj.laneSegJumps l) = wrap 32 (jumps + 1)
                ∧ SMap.find (s'.dev.drill l).latches (tableChan ((r.table[1]?).getD 0) e.cond) = none)
            ∧ ((∀ v, r.segEvent w = some v → v.past cut = true) → (e.forever = true ∨ w.rep < e.rep) →
              ∃ s', exec (.seg t lane) s = .next s'
                ∧ plays s' w.entry (w.rep + 1) (if w.rep = 0 then stop else w.entryStart) (some (cut, stop)) ∧ s'.dev.objs = s.dev.objs)
            ∧ ((∀ v, r.segEvent w = some v → v.past cut = true) → e.forever = false → e.rep ≤ w.rep →
              ∃ s', exec (.seg t lane) s = .next s' ∧ next s'
                ∧ ((∀ v, r.segEvent w = some v → stop ≤ v.tick) → s'.dev.objs = s.dev.objs)
                ∧ (∀ v, r.segEvent w = some v → v.tick < stop →
                  s'.dev.val (Obj.laneLateJumps l) = wrap 32 (s.dev.val (Obj.laneLateJumps l) + 1))))))

/-- A refill block of 64 granules or an entry's rest, when the stream buffer has room for it beside what is there or on its way, or the next
program line of 64 grains, is asked for as class 1 on every channel that holds bytes of it; beyond what the lane's meter holds it is demoted and
counted (R153, R307, R318, R319). -/
def Obligations.LaneFetchesAreClassOneRequests : Prop :=
  ∀ (t : Nat) (lane : Lane) (s : State), s.Runs →
    let d := s.devAt t
    let l := lane.val
    let r := s.dev.drill l
    let asks := fun (s' : State) (address bytes : Nat) (line : Option Nat) (short : Bool) =>
      (∃ q : DdrReq, q.cls = 1 ∧ q.address = address ∧ q.bytes = bytes ∧ q.lane = some l ∧ q.line = line ∧ q.demoted = short
        ∧ ∀ ch, ch < 8 → SMap.look s'.dev.memctl.queues ch [] = SMap.look s.dev.memctl.queues ch [] ++
            (if q.on ch = 0 then [] else [{ req := q, bytes := q.on ch, late := false, bad := false }]))
        ∧ (short = false → s'.dev.objs = s.dev.objs)
        ∧ (short = true → s'.dev.val (Obj.laneClass1Demoted l) = wrap 32 (s.dev.val (Obj.laneClass1Demoted l) + 1))
        ∧ s'.dev.drills = s.dev.drills ∧ s'.mem = s.mem
    s.dev.val Obj.memState = 3 → s.dev.val (Obj.stripState (stripOf l)) = 0 →
    (∀ e i,
        let place := d.streamEnd l
        let total := ((r.streams).map LibEntry.length).sum
        let n := min 64 (e.length - i)
        0 < s.dev.val (Obj.laneStreamRate l) → 0 < total → place + n ≤ s.dev.val (Obj.laneStreamBuffer l) + r.streamWant →
        seekStream r.streams (place % total) = some (e, i) → d.reach (actsFor (d.laneOwner l)) e.region (e.offset + 18 * i) (18 * n) = true →
        let meter := Meter.filledTo (SMap.find s.dev.memctl.streamMeter l) (s.dev.val (Obj.laneStreamRate l)) 46080000 d.now
        ∃ s', exec (.streamRefill t lane) s = .next s'
          ∧ asks s' (d.regionAddr e.region (e.offset + 18 * i)) (18 * n) none (decide (meter.credit < 180000 * n)))
    ∧ (∀ n, 3640 < r.length → 0 < s.dev.val (Obj.laneFetchRate l) → d.nextLine l = some n →
        d.reach (actsFor (d.laneOwner l)) (domRegion (s.dev.val (Obj.laneProgram l))) (domOffset (s.dev.val (Obj.laneProgram l)) + 576 * n) 576 = true →
        let meter := Meter.filledTo (SMap.find s.dev.memctl.fetchMeter l) (s.dev.val (Obj.laneFetchRate l)) 23040000 d.now
        ∃ s', exec (.programLineFetch t lane) s = .next s'
          ∧ asks s' (d.regionAddr (domRegion (s.dev.val (Obj.laneProgram l))) (domOffset (s.dev.val (Obj.laneProgram l)) + 576 * n)) 576 (some n)
            (decide (meter.credit < 5760000)))

/-! ### The object dictionary (R16, R20–R26, R33–R35, R41, R48–R55, R356, R357, R368, R369, R491) -/

/-- A response leaves on its path: into the function's mailbox with its MSI-X vector, as a frame of class 4, or to CAN. It carries the
request's tag and object, and data only on success; an abort is counted (R49, R51, R356). Nothing else changes. -/
def Obligations.ResponsesLeaveOnTheirPath : Prop :=
  ∀ (d : Dev) (path : Path) (op tag idx sub ty : Nat) (data : List Byte) (abort : Nat),
    let d' := d.respond path op tag idx sub ty data abort
    let sent := if abort = 0 then data else []
    (path = .can → d'.out = d.out ++ [Output.usdo (0x580 + d.can.nodeId) idx sub ty sent abort])
    ∧ ((∃ p, path = .gargor p) → ∃ before, d'.out = d.out ++ before ++ [Output.response path tag idx sub ty sent abort])
    ∧ (∀ f, Path.function path = some f → (d.fn f).stale = [] →
        (d'.fn f).mailbox = 2 ∧ (d'.fn f).response = responseBytes op tag idx sub ty sent abort
          ∧ ∃ before, d'.out = d.out ++ before ++ [Output.response path tag idx sub ty sent abort])
    ∧ (∀ f r rest, Path.function path = some f → (d.fn f).stale = r :: rest → (d'.fn f).stale = rest ∧ d'.out = d.out)
    ∧ d'.drills = d.drills ∧ d'.chains = d.chains ∧ d'.groups = d.groups ∧ d'.slots = d.slots ∧ d'.energy = d.energy
    ∧ d'.staged = d.staged ∧ d'.commits = d.commits ∧ d'.faults = d.faults ∧ d'.power = d.power ∧ d'.nv = d.nv ∧ d'.clock = d.clock
    ∧ d'.biases = d.biases ∧ d'.now = d.now ∧ (abort = 0 → (∀ p, path ≠ .gargor p) → d'.objs = d.objs)
    ∧ (abort ≠ 0 → (∀ p, path ≠ .gargor p) → d'.objs = SMap.set d.objs Obj.devMailboxAborts (wrap 32 (d.val Obj.devMailboxAborts + 1)))

/-- The request served on a path is the one submitted there (R48, R356). A read answers the object's value, little-endian, or its highest
sub-index; read-staged its staging entry, read-group all fields of its group, describe its type, access, boundaries, commit object and default (R16,
R19, R22, R35, R50, R491). Reading changes nothing but the answer; GgMarginMin alone is measured as it is read (R396). -/
def Obligations.ReadsAnswerAndChangeNothing : Prop :=
  ∀ (t : Nat) (path : Path) (rung req : Request) (r : Row) (s : State), s.Runs →
    let d := s.devAt t
    let key := req.index * 256 + req.sub
    let served := fun (op : Nat) => d.onPath path op rung = some req
    d.pathThere path = true → d.pathOpen path = true → d.mayRead (Path.partition path) req.index req.sub = true →
    (req.typ = 0 ∨ req.typ = r.ty.code) →
    (rowAt req.index req.sub = some r →
      (served 1 →
        let e := d.measure req
        ((req.index < 0x2D10 ∨ 0x2D13 < req.index ∨ req.sub ≠ 0x14) → e = d)
        ∧ (r.acc ≠ .wo →
          exec (.read t path rung) s = .next (s.withDev (e.deliver path 1 req
            { ty := r.ty.code, data := e.readBytes path r req.index req.sub, abort := 0 })))
        ∧ (r.acc = .wo → exec (.read t path rung) s = .next (s.withDev (e.deliver path 1 req (.refuse r.ty.code 0x06010001)))))
      ∧ (served 3 → path ≠ .can →
        (r.acc = .rwc ∨ r.acc = .cnt →
          exec (.readStaged t path rung) s = .next (s.withDev (d.deliver path 3 req
            { ty := r.ty.code, data := leBytes r.ty.size (d.stagedVal key), abort := 0 })))
        ∧ (r.acc ≠ .rwc → r.acc ≠ .cnt →
          exec (.readStaged t path rung) s = .next (s.withDev (d.deliver path 3 req (.refuse r.ty.code 0x05040001)))))
      ∧ (served 4 → path ≠ .can →
        (∀ k n, memberOf req.index req.sub = some (k, n) →
          exec (.readGroup t path rung) s = .next (s.withDev (d.deliver path 4 req
            { ty := r.ty.code, abort := 0
              data := ((groupFields k n).map (fun x => match rowAt (keyIndex x) (keySub x) with
                | some m => leBytes m.ty.size (d.val x)
                | none => [])).flatten })))
        ∧ (memberOf req.index req.sub = none →
          exec (.readGroup t path rung) s = .next (s.withDev (d.deliver path 4 req (.refuse r.ty.code 0x05040001)))))
      ∧ (served 5 → path ≠ .can →
        let group := memberOf req.index req.sub
        let commit := (group.map (fun g => commitKey g.1 g.2)).getD 0
        exec (.describe t path rung) s = .next (s.withDev (d.deliver path 5 req
          { ty := r.ty.code, abort := 0
            data := leBytes 2 r.ty.code ++ leBytes 1 r.acc.code ++ leBytes 1 ((group.map (fun g => boundaryMask g.1)).getD 0)
              ++ leBytes 2 (keyIndex commit) ++ leBytes 1 (keySub commit) ++ leBytes 1 0
              ++ (if r.acc = .ro ∨ r.acc = .wo ∨ r.acc = .konst then [] else leBytes r.ty.size (d.dflt key)) })))
      ∧ (path = .can → rung = req → exec (.readStaged t path rung) s = .next (s.withDev (d.deliver path 3 req (.refuse 0 abortOperation)))
        ∧ exec (.readGroup t path rung) s = .next (s.withDev (d.deliver path 4 req (.refuse 0 abortOperation)))
        ∧ exec (.describe t path rung) s = .next (s.withDev (d.deliver path 5 req (.refuse 0 abortOperation)))))
    ∧ (served 1 → req.sub = 0 → req.typ = 0 → rowAt req.index 0 = none → indexExists req.index = true → 1 < highestSub req.index →
        exec (.read t path rung) s = .next (s.withDev (d.deliver path 1 req
          { ty := Ty.u8.code, data := leBytes 1 (highestSub req.index), abort := 0 })))
    ∧ ((d.fn 0).mailbox = 1 → path = .pf0 → field (d.fn 0).request 0 1 ≠ 1 → exec (.read t path rung) s = .next (s.withDev d))

/-- A write of a group's field that passes every check is staged with its path, and its commit object shows status 1 (R22, R26, R33); while a
commit of the group is pending it is refused. An NV object is in force at once and due in flash (R41). A read-only object, a wrong type code
and a value that fails R20 are refused, and nothing changes. -/
def Obligations.WritesStageOrAreRefused : Prop :=
  ∀ (t : Nat) (path : Path) (rung req : Request) (r : Row) (s : State), s.Runs →
    let d := s.devAt t
    let key := req.index * 256 + req.sub
    let v := ofLe req.data
    let answers := fun (x : Dev) (a : Nat) => exec (.write t path rung) s = .next (s.withDev (x.deliver path 2 req (.refuse r.ty.code a)))
    d.onPath path 2 rung = some req → d.pathThere path = true → d.pathOpen path = true → rowAt req.index req.sub = some r → d.writeGate path key = 0 →
    (r.acc = .ro ∨ r.acc = .konst → answers d 0x06010002)
    ∧ (r.acc ≠ .ro → r.acc ≠ .konst → req.typ ≠ 0 → req.typ ≠ r.ty.code → answers d 0x06070010)
    ∧ (r.acc ≠ .ro → r.acc ≠ .konst → (req.typ = 0 ∨ req.typ = r.ty.code) →
        (r.valueAbort req.data ≠ 0 → answers d (r.valueAbort req.data))
        ∧ (r.valueAbort req.data = 0 → (r.ty ≠ .domain ∨ d.domainAbort (Path.partition path) v = 0) →
            d.foreignChannel req.index req.sub v = false →
            (∀ k n, memberOf req.index req.sub = some (k, n) → (d.commitOf (commitKey k n)).status ≠ 2 →
              answers (({ d with staged := SMap.set d.staged key (stagedForm key v, Path.number path) } : Dev).setCommit (commitKey k n)
                { d.commitOf (commitKey k n) with status := 1 }) 0)
            ∧ (∀ k n, memberOf req.index req.sub = some (k, n) → (d.commitOf (commitKey k n)).status = 2 → answers d abortPending)
            ∧ (memberOf req.index req.sub = none → commitAt req.index req.sub = none → r.acc = .nv → req.index < 0x3200 →
              s.dev.val Obj.devNvWear < 100000 → s.dev.nv.pending = [] →
              answers (({ d with nv := { d.nv with pending := [key], since := d.now } } : Dev).put key v) 0)))

/-- A doorbell on an idle mailbox submits its record and makes it busy; on a busy one it is discarded and counted; an unknown operation is
answered with an abort, on a disabled partition's function as every request there (R58). A status read of 2 frees the mailbox, another dword of BAR0
reads its register, and any other access 0xFFFFFFFF (R48, R52, R356, R357). -/
def Obligations.MailboxesTakeOneRequestAtATime : Prop :=
  ∀ (t : Nat) (fn : Fn) (s : State), s.Runs →
    let d := s.devAt t
    let x := s.dev.fn fn.val
    s.dev.val Obj.pcieLinkState = 2 → fn.val ≤ s.dev.val Obj.pcieNumVfs →
    (∀ record, x.mailbox ≠ 1 → 1 ≤ field record 0 1 → field record 0 1 ≤ 5 →
        exec (.mailboxDoorbell t fn record) s = .next (s.withDev (d.setFn fn.val { x with mailbox := 1, request := record })))
    ∧ (∀ record, x.mailbox = 1 → exec (.mailboxDoorbell t fn record) s = .next (s.withDev (d.bump Obj.devMailboxDiscards)))
    ∧ (∀ record, x.mailbox ≠ 1 → (field record 0 1 = 0 ∨ 5 < field record 0 1) →
        let open' := fn.val = 0 ∨ bit (s.dev.val Obj.devPartitionsEnabled) fn.val = true
        ∃ s', exec (.mailboxDoorbell t fn record) s = .next s' ∧ (s'.dev.fn fn.val).mailbox = 2
          ∧ (s'.dev.fn fn.val).response =
              responseBytes (field record 0 1) (field record 1 1) (field record 2 2) (field record 4 1) 0 []
                (if open' then 0x05040001 else 0x08000022)
          ∧ s'.mem = s.mem)
    ∧ (x.mailbox = 2 → exec (.mailboxStatusRead t ⟨fn, 0x2004, 4⟩) s =
        .next (s.withDev ((d.emit (.mailboxStatus fn.val 2)).setFn fn.val { x with mailbox := 0 })))
    ∧ (x.mailbox ≠ 2 → exec (.mailboxStatusRead t ⟨fn, 0x2004, 4⟩) s = .next (s.withDev (d.emit (.mailboxStatus fn.val x.mailbox))))
    ∧ (∀ o, o < 0x10000 → o ≠ 0x2004 → o % 4 = 0 →
        exec (.mailboxStatusRead t ⟨fn, o, 4⟩) s = .next (s.withDev (d.emit (.bar fn.val 0 (d.bar0 fn.val o)))))
    ∧ (∀ o n, o < 0x10000 → (n ≠ 4 ∨ o % 4 ≠ 0) →
        exec (.mailboxStatusRead t ⟨fn, o, n⟩) s = .next (s.withDev (d.emit (.bar fn.val 0 0xFFFFFFFF))))

/-- Over CAN a value of up to 4 bytes is answered at once and a longer one occupies the path until its last segment; another object's
transfer is then discarded and counted. A block transfer is refused, and a transfer without a segment for 1 s is aborted; a frame with another
node's COB-ID asks nothing (R52, R54, R368, R369). -/
def Obligations.CanTransfersAreAnswered : Prop :=
  ∀ (t : Nat) (index sub : Nat) (s : State), s.Runs →
    let d := s.devAt t
    let req := usdoRequest index sub []
    let object : UsdoObject := ⟨0x600 + s.dev.can.nodeId, index⟩
    (∀ c complete, c ≠ 0x600 + s.dev.can.nodeId → exec (.usdoUpload t ⟨c, index⟩ sub complete) s = .next (s.withDev d))
    ∧ (d.pathThere .can = true →
    (s.dev.can.transfer = none → (index < 0x2D10 ∨ 0x2D13 < index ∨ sub ≠ 0x14) →
      (∀ complete, (complete = true ∨ (d.answerRead .can req).data.length ≤ 4) →
        exec (.usdoUpload t object sub complete) s = .next (s.withDev ((d.setTransfer none).deliver .can 1 req (d.answerRead .can req))))
      ∧ (4 < (d.answerRead .can req).data.length →
        exec (.usdoUpload t object sub false) s = .next (s.withDev (d.setTransfer (some (index, sub, d.now)))))
      ∧ (∀ data r, rowAt index sub = some r → 4 < r.ty.size →
        exec (.usdoDownload t object sub data false) s = .next (s.withDev (d.setTransfer (some (index, sub, d.now)))))
      ∧ (∀ data r, rowAt index sub = some r → d.writeGate .can (index * 256 + sub) = 0 → r.acc = .ro →
        exec (.usdoDownload t object sub data true) s = .next (s.withDev ((d.setTransfer none).deliver .can 2 (usdoRequest index sub data)
          (.refuse r.ty.code 0x06010002))))
      ∧ (∀ data r k n, rowAt index sub = some r → d.writeGate .can (index * 256 + sub) = 0 → r.acc = .rwc → r.ty ≠ .domain →
        r.valueAbort data = 0 → d.foreignChannel index sub (ofLe data) = false → memberOf index sub = some (k, n) →
        (d.commitOf (commitKey k n)).status ≠ 2 →
        ∃ s', exec (.usdoDownload t object sub data true) s = .next s'
          ∧ SMap.find s'.dev.staged (index * 256 + sub) = some (stagedForm (index * 256 + sub) (ofLe data), 9)
          ∧ (s'.dev.commitOf (commitKey k n)).status = 1 ∧ s'.dev.objs = s.dev.objs ∧ s'.mem = s.mem)
      ∧ exec (.usdoBlockTransfer t object sub) s = .next (s.withDev (d.deliver .can 0 req (.refuse 0 0x05040001))))
    ∧ (∀ i u since, s.dev.can.transfer = some (i, u, since) →
      ((i ≠ index ∨ u ≠ sub) → exec (.usdoUpload t object sub true) s = .next (s.withDev (d.bump Obj.devMailboxDiscards)))
      ∧ (since + ticksS ≤ d.now → exec (.usdoSegmentTimeout t) s =
          .next (s.withDev ((d.setTransfer none).deliver .can 0 (usdoRequest i u []) (.refuse 0 0x05040001))))))

/-! ### Commits (R25–R40, R47, R147, R200, R312, R323, R490) -/

/-- While a commit is pending, a further commit write and every write of a field of its group is refused, and boundary 0 cancels it (R33). A
commit write with a boundary its group does not take is refused (R28, R29); boundary 0 discards what is staged; boundary 1 on an idle unit takes effect at once;
boundaries 2 and 3 wait, and nothing changes until they have come, but that each segment end the drill has passed already, and that is still to come
in grid time, counts as deferred (R29, R133). -/
def Obligations.CommitWritesAreAcceptedRefusedOrCancelled : Prop :=
  ∀ (t : Nat) (path : Path) (index sub : Nat) (force : Bool) (k : GKind) (n : Nat) (s : State), s.Runs →
    let d := s.devAt t
    let key := index * 256 + sub
    let c := d.commitOf key
    let answers := fun (x : Dev) (a : Nat) => Host.Outcome.next (s.withDev (x.answerWrite path key a))
    let taken := fun (b : Nat) =>
      (d.setCommit key { c with status := 2, boundary := b, acceptedAt := d.now, loading := false, path := Path.number path, carried := none }).askLoads
        s.mem key k n
    let asked := fun (b : Nat) => s.Asked t path key (b + ofBool force * 256)
    sub < 256 → s.Reaches t path key → commitAt index sub = some (k, n) →
    (c.status = 2 →
        (asked 1 → exec (.commitImmediateIfIdle t path index sub force) s = answers d 0xA0000002)
        ∧ (asked 2 → exec (.commitNextSegmentEnd t path index sub force) s = answers d 0xA0000002)
        ∧ (asked 3 → exec (.commitNextShotBoundary t path index sub force) s = answers d 0xA0000002)
        ∧ (asked 0 → ∃ s', exec (.commitCancel t path index sub force) s = .next s' ∧ (s'.dev.commitOf key).status = 0
            ∧ (∀ x ∈ d.stagedKeys k n, SMap.find s'.dev.staged x = none) ∧ s'.dev.groups = s.dev.groups ∧ s'.mem = s.mem)
        ∧ ∀ (req : Request) (r : Row), rowAt req.index req.sub = some r → memberOf req.index req.sub = some (k, n) →
            d.writeGate path (req.index * 256 + req.sub) = 0 → r.acc ≠ .ro → r.acc ≠ .konst → (req.typ = 0 ∨ req.typ = r.ty.code) →
            r.valueAbort req.data = 0 → (r.ty ≠ .domain ∨ d.domainAbort (Path.partition path) (ofLe req.data) = 0) →
            d.foreignChannel req.index req.sub (ofLe req.data) = false →
            ∀ rung, d.onPath path 2 rung = some req →
            exec (.write t path rung) s = .next (s.withDev (d.deliver path 2 req (.refuse r.ty.code 0xA0000002))))
    ∧ (c.status ≠ 2 → asked 0 →
        exec (.commitCancel t path index sub force) s = answers
          (({ d with staged := d.staged.filter (fun p => !((d.stagedKeys k n).contains p.1)) } : Dev).setCommit key
            { c with status := 0, boundary := 0, loading := false, carried := none }) 0)
    ∧ (c.status ≠ 2 → bit (boundaryMask k) 1 = false → asked 2 →
        exec (.commitNextSegmentEnd t path index sub force) s = answers (d.refuseCommit key 0x06090030) 0x06090030)
    ∧ (c.status ≠ 2 → bit (boundaryMask k) 2 = false → asked 3 →
        exec (.commitNextShotBoundary t path index sub force) s = answers (d.refuseCommit key (boundaryAbort k 3)) (boundaryAbort k 3))
    ∧ (c.status ≠ 2 → bit (boundaryMask k) 0 = false → asked 1 →
        exec (.commitImmediateIfIdle t path index sub force) s = answers (d.refuseCommit key 0x06090030) 0x06090030)
    ∧ (c.status ≠ 2 → d.groupVoid k n = false → s.dev.val Obj.memState ≠ 4 → (k = .bias → d.faultHolds = false ∧ d.power.preparing = false) → force = true →
        isCounted k = false → k ≠ .csRollback → k ≠ .csImage → k ≠ .monitor → k ≠ .memory → k ≠ .program →
        d.groupCheck s.mem k n none = (d, 0) → d.needsLoad k n 1 = false →
        (asked 1 → bit (boundaryMask k) 0 = true → coversSeveral k = false → d.groupIdle k n = true → d.readsLive k n = false →
          (taken 1).readsLive k n = false →
          (taken 1).groupCheck s.mem k n none = (taken 1, 0) →
          exec (.commitImmediateIfIdle t path index sub force) s =
            .next (s.withDev (s.dev.seal (((taken 1).applyCommit s.mem key k n d.now).answerWrite path key 0))))
        ∧ (asked 2 → bit (boundaryMask k) 1 = true → (k = .lane ∨ k = .bias) → d.groupIdle k n = false →
          let passed := (d.drill n).segEnds.filter (fun e => d.now < e)
          (passed = [] → exec (.commitNextSegmentEnd t path index sub force) s = answers (taken 2) 0)
          ∧ (passed ≠ [] → exec (.commitNextSegmentEnd t path index sub force) s =
            answers (((taken 2).bumpBy Obj.devCommitsDeferred passed.length).bump (Obj.laneLateJumps n)) 0))
        ∧ (asked 3 → bit (boundaryMask k) 2 = true → (coversSeveral k = true ∨ (s.dev.group (d.groupOf n)).inShot = true) → d.groupIdle k n = false →
          exec (.commitNextShotBoundary t path index sub force) s = answers (taken 3) 0))

/-- A commit that takes effect brings the staged values of its group into force in one step (R27): for every group whose values are only read
where they are used, each staged field holds what was staged, nothing of the group stays staged, its status is 3, and no other object changes. -/
def Obligations.AppliedCommitsBringTheStagedValues : Prop :=
  ∀ (d : Dev) (m : Mem) (key : Nat) (k : GKind) (n tick : Nat), k.plain = true → (d.commitOf key).carried = none →
    (∀ x ∈ d.stagedKeys k n, (d.applyCommit m key k n tick).val x = d.stagedVal x)
    ∧ (∀ x ∈ d.stagedKeys k n, SMap.find (d.applyCommit m key k n tick).staged x = none)
    ∧ (∀ x, x ∉ d.stagedKeys k n → SMap.find (d.applyCommit m key k n tick).objs x = SMap.find d.objs x)
    ∧ ((d.applyCommit m key k n tick).commitOf key).status = 3 ∧ (d.applyCommit m key k n tick).drills = d.drills
    ∧ (d.applyCommit m key k n tick).chains = d.chains ∧ (d.applyCommit m key k n tick).faults = d.faults

/-- A pending commit whose boundary has come takes effect (R28–R31), a counted one with its change record (R38); one whose load is done does
so, or is refused when its data could not be read (R323, R490). -/
def Obligations.PendingCommitsTakeEffectAtTheirBoundary : Prop :=
  ∀ (t index sub : Nat) (k : GKind) (n : Nat) (s : State), s.Runs →
    let d := s.devAt t
    let key := index * 256 + sub
    let c := d.commitOf key
    let loaded := d.setCommit key { c with loading := false }
    let filled := (loaded.stagedKeys k n).foldl (fun e x => e.put x (loaded.stagedVal x)) loaded
    commitAt index sub = some (k, n) → c.status = 2 →
    (c.loading = false → d.boundaryDue k n c = true → coversSeveral k = false → k ≠ .disc → k ≠ .csRollback →
        (k = .bias → d.faultHolds = false ∧ d.power.preparing = false) → ((k = .lane ∧ c.carried.isSome = true) ∨ d.readsLive k n = false) →
        d.groupCheck s.mem k n none = (d, 0) →
        ∀ burnOk, exec (.commitTakeEffect t index sub burnOk) s =
          .next (s.withDev (s.dev.seal (d.applyCommit s.mem key k n (c.carried.getD d.now)))))
    ∧ (k = .energyCeiling → d.boundaryDue k n c = true → 5 < s.dev.val Obj.devChangeRecordsLeft → s.dev.val Obj.devChangeRecordsLeft ≤ 32 →
        d.groupCheck s.mem k n none = (d, 0) →
        ∃ s', exec (.commitTakeEffect t index sub true) s = .next s' ∧ (s'.dev.commitOf key).status = 3
          ∧ s'.dev.val Obj.devChangeRecordsLeft = s.dev.val Obj.devChangeRecordsLeft - 1
          ∧ s'.dev.val (Obj.devChangeRecord (32 - s.dev.val Obj.devChangeRecordsLeft)) =
              d.groupDigest k n + pathPart c.path * 2 ^ 32 + 2 ^ 36 + (33 - s.dev.val Obj.devChangeRecordsLeft) * 2 ^ 40
          ∧ s'.dev.energy.ceilingValid = true ∧ s'.mem = s.mem)
    ∧ (c.loading = true → isCounted k = false → k ≠ .memory →
        exec (.commitLoadComplete t index sub false) s = .next (s.withDev (d.refuseCommit key 0xA0000009)))
    ∧ (c.loading = true → k = .kernel → c.boundary = 1 → loaded.groupCheck s.mem k n none = (loaded, 0) →
        ∃ s', exec (.commitLoadComplete t index sub true) s = .next s' ∧ (s'.dev.commitOf key).status = 3
          ∧ (s'.dev.slot n).kernel = kernelWeights (filled.domBytes s.mem (filled.val (Obj.slotKernel n))) (filled.val (Obj.slotWindowLength n))
          ∧ s'.mem = s.mem)

/-- The values NV objects were written with go to flash in one write; the highest erase count grows by 0 or 1, which is free (log entry 32;
R41–R43). -/
def Obligations.NvValuesGoToFlash : Prop :=
  ∀ (t : Nat) (s : State), s.Runs → s.dev.nv.pending ≠ [] →
    ∃ s', exec (.nvFlashWrite t) s = .next s' ∧ s'.dev.nv.pending = [] ∧ s'.dev.nv.writes = s.dev.nv.writes + 1
      ∧ (∀ k ∈ s.dev.nv.pending, SMap.find s'.dev.nv.stored k = some (s.dev.val k))
      ∧ (s'.dev.val Obj.devNvWear = s.dev.val Obj.devNvWear ∨ s'.dev.val Obj.devNvWear = s.dev.val Obj.devNvWear + 1)
      ∧ s'.dev.drills = s.dev.drills ∧ s'.mem = s.mem

/-! ### Lanes and RF (R60, R116, R135, R139, R476) -/

/-- LaneRun 1 starts a stopped lane with a program at its entry, its latches empty, and is refused without RF or program; LaneRun 2 waits for
the end of a shot, or stops at once between shots; LaneRun 0 stops now (R60, R116, R135, R139). DevRfEnable may be set by partition 0 once every
flux line has reached its power-up value and no fault, preparation or safe state stands in the way, and never over CAN (R55, R476); cleared, it stops
every lane (R60). -/
def Obligations.LanesAndRfStartAndStop : Prop :=
  (∀ (t : Nat) (path : Path) (lane : Lane) (s : State), s.Runs →
      let d := s.devAt t
      let l := lane.val
      let r := s.dev.drill l
      let key := Obj.laneRun l
      let x := s.dev.group (d.groupOf l)
      let goesOn := ({ x with members := x.members.filter (fun m => m != l) } : Group).allEnded = false
      s.Reaches t path key →
      (s.Asked t path key 1 → d.hasProgram l = true → s.dev.flag Obj.devRfEnable = true → d.laneOwner l ≠ 15 → d.unitState (stripOf l) = 0 → r.runs = false →
          ∃ s', exec (.laneRun t path lane) s = .next s' ∧ (s'.dev.drill l).run = .between ∧ (s'.dev.drill l).pc = r.entry
            ∧ (s'.dev.drill l).latches = [] ∧ (s'.dev.drill l).loops = [] ∧ (s'.dev.drill l).calls = [] ∧ s'.dev.val (Obj.laneRun l) = 1
            ∧ (∀ k, k ≠ l → s'.dev.drill k = s.dev.drill k) ∧ s'.mem = s.mem)
      ∧ (s.Asked t path key 1 → s.dev.flag Obj.devRfEnable = false → exec (.laneRun t path lane) s = .next (s.withDev (d.answerWrite path key 0x08000022)))
      ∧ (s.Asked t path key 2 → r.run = .inShot → exec (.laneStopAtBoundary t path lane) s =
          .next (s.withDev (((d.setDrill l { r with stopAtBoundary := true }).put key 2).answerWrite path key 0)))
      ∧ (s.Asked t path key 2 → r.run = .between → exec (.laneStopAtBoundary t path lane) s =
          .next (s.withDev ((((d.setDrill l (r.rest .stopped)).put key 0).leaveGroup l).answerWrite path key 0)))
      ∧ (s.Asked t path key 0 → (s.dev.vpt.map Prod.fst).Nodup →
          ∃ s', exec (.laneStop t path lane) s = .next s' ∧ (s'.dev.drill l).run = .stopped ∧ (s'.dev.drill l).ready = []
          ∧ s'.dev.val (Obj.laneRun l) = 0 ∧ (goesOn → ∀ k, k ≠ l → s'.dev.drill k = s.dev.drill k) ∧ s'.mem = s.mem))
  ∧ (∀ (t : Nat) (path : Path) (s : State), s.Runs →
      let d := s.devAt t
      let key := Obj.devRfEnable
      (d.pathThere path = true → s.Asked t path key 1 → d.pathOpen path = true → Path.partition path ≠ 0 →
          exec (.devRfEnableSet t path) s = .next (s.withDev (d.answerWrite path key 0xA0000001)))
      ∧ (s.Reaches t path key →
      (s.Asked t path key 1 → Path.partition path = 0 → path ≠ .can → d.devState ≠ 0 → d.devState ≠ 4 → d.devState ≠ 5 → s.dev.faults.safe = 0 →
          s.dev.power.preparing = false → (∀ l ∈ allLanes, d.biasState l ≠ 2 ∧ d.biasState l ≠ 4) →
          exec (.devRfEnableSet t path) s = .next (s.withDev ((d.put key 1).answerWrite path key 0)))
      ∧ (s.Asked t path key 1 → path = .can → exec (.devRfEnableSet t path) s = .next (s.withDev (d.answerWrite path key 0x08000021)))
      ∧ (s.Asked t path key 0 → ∃ s', exec (.devRfEnableClear t path) s = .next s' ∧ s'.dev.flag Obj.devRfEnable = false ∧ s'.mem = s.mem
          ∧ (s.dev.flag Obj.devRfEnable = true → ∀ l ∈ s.dev.drills.map Prod.fst, (s'.dev.drill l).run = .stopped)
          ∧ (s.dev.flag Obj.devRfEnable = false → s'.dev.drills = s.dev.drills))))

/-! ### Read-out and the verdict fabric (R180–R197, R203, R231–R233) -/

/-- A window whose start has come opens with its values latched (R185), beside those of its slot whose verdict is still owed; one that overlaps the
slot's window before it is a conflict (R184) and gives its void verdict 140 ticks after its start (R186). A checkpoint takes the samples of the
slot's oldest window with a checkpoint left, 140 ticks after the last of them, and may issue its provisional verdict (R192–R194). 140 ticks after
its end the oldest window gives its grain and its verdict (R188–R191, R195). -/
def Obligations.WindowsOpenRunAndGiveTheirVerdict : Prop :=
  ∀ (t : Nat) (slot : Slot) (s : State), s.Runs →
    let d := s.devAt t
    let k := slot.val
    let x := s.dev.slot k
    let kept := fun (time : Nat) => d.cellsInUse = [] ∨ d.now ≤ time + 20000
    let still := fun (s' : State) => (∀ p ∈ s.dev.drills, p.2.run ≠ .waitBranch) → s'.dev.drills = s.dev.drills
    (∀ w rest history, x.asked = w :: rest → w.start ≤ d.now → s.dev.val (Obj.tileState (tileOfSlot k)) = 0 → d.calInterrupts 1 (k / 16) = false →
        s.dev.val (Obj.slotWindowLength k) ≠ 0 → s.dev.val Obj.timeRefState = 0 →
        (x.lastEnd ≤ w.start →
          ∃ s' o, exec (.windowOpen t slot history) s = .next s' ∧ (s'.dev.slot k).win = some o ∧ (s'.dev.slot k).closing = x.windows
            ∧ (s'.dev.slot k).asked = rest
            ∧ o.start = w.start ∧ o.length = s.dev.val (Obj.slotWindowLength k) ∧ o.done = 0 ∧ o.accI = 0 ∧ o.accQ = 0 ∧ o.kernel = x.kernel
            ∧ o.history = takeCodes 80 history ∧ o.zone = s.dev.val (Obj.inputZone (k / 16))
            ∧ (s'.dev.slot k).lastEnd = w.start + 32 * s.dev.val (Obj.slotWindowLength k)
            ∧ ((∀ y ∈ history, clippedCode y = false) → s'.dev.objs = s.dev.objs) ∧ s'.mem = s.mem)
        ∧ (w.start < x.lastEnd →
          ∃ s', exec (.windowOpen t slot history) s = .next s' ∧ (s'.dev.slot k).win = x.win ∧ (s'.dev.slot k).asked = rest
            ∧ (s'.dev.slot k).voids = x.voids ++ [(w.start, w.start + 32 * s.dev.val (Obj.slotWindowLength k), w.shot, d.groupOf w.lane)]
            ∧ s'.dev.val (Obj.laneWindowConflicts w.lane) = wrap 32 (s.dev.val (Obj.laneWindowConflicts w.lane) + 1) ∧ s'.mem = s.mem))
    ∧ (∀ w j adc, (x.windows.zip (List.range 8)).find? (fun p => p.1.nextCheck < p.1.length) = some (w, j) →
        let time := w.start + 32 * w.nextCheck + 140
        let w' := OpenWin.feed (w.nextCheck - w.done) w adc
        let w'' := { w' with saturated := w'.saturated || w'.point.2 }
        (d.now < time → exec (.windowCheckpoint t slot adc) s = .next (s.withDev d))
        ∧ (time ≤ d.now → w''.provisionalAt = none →
          ∃ s', exec (.windowCheckpoint t slot adc) s = .next s' ∧ s'.dev.slot k = x.setWindow j w'' ∧ s'.dev.drills = s.dev.drills
            ∧ s'.dev.items = s.dev.items ∧ s'.mem = s.mem)
        ∧ (∀ v, time ≤ d.now → w''.provisionalAt = some v →
          ∃ s', exec (.windowCheckpoint t slot adc) s = .next s' ∧ s'.dev.slot k = x.setWindow j { w'' with provisional := some v }
            ∧ s'.dev.val (Obj.slotProvIssued k) = wrap 32 (s.dev.val (Obj.slotProvIssued k) + 1)
            ∧ (kept time → ∃ i ∈ s'.dev.items, i.id = k ∧ i.value = v ∧ i.void = false ∧ i.final = false ∧ i.windowEnd = w.stop ∧ i.time = time)
            ∧ still s' ∧ s'.mem = s.mem))
    ∧ (∀ w more adc, x.windows = w :: more → w.stop + 140 ≤ d.now →
        let w' := OpenWin.feed (w.length - w.done) w adc
        let p := w'.point.1
        ∃ s', exec (.finalVerdict t slot adc) s = .next s' ∧ (s'.dev.slot k).windows = more
          ∧ s'.dev.val (Obj.slotLastVerdict k) = w'.verdict p (2 ^ 15) ∧ s'.dev.val (Obj.slotLastGrain k) = grainWord p
          ∧ (kept (w.stop + 140) → ∃ i ∈ s'.dev.items, i.id = k ∧ i.value = w'.verdict p (2 ^ 15) ∧ i.void = false ∧ i.final = true
              ∧ i.windowEnd = w.stop ∧ i.time = w.stop + 140)
          ∧ still s' ∧ s'.mem = s.mem)
    ∧ (∀ start stop shot group rest, x.voids = (start, stop, shot, group) :: rest → start + 140 ≤ d.now →
        ∃ s', exec (.slotVoidVerdict t slot) s = .next s' ∧ (s'.dev.slot k).voids = rest ∧ s'.dev.val (Obj.slotLastVerdict k) = 4
          ∧ s'.dev.val (Obj.slotLastGrain k) = 0
          ∧ (kept (start + 140) → ∃ i ∈ s'.dev.items, i.id = k ∧ i.void = true ∧ i.windowEnd = stop ∧ i.time = start + 140)
          ∧ still s' ∧ s'.mem = s.mem)

/-- A verdict frame on an active port is counted, and each of its entries is taken by every remote register that names its port, fabric ID and
window end in a shot in progress; one that some register names and none takes is counted as a mismatch, and one that none names is nobody's (R232,
R233). -/
def Obligations.VerdictFramesReachTheirRegisters : Prop :=
  ∀ (t : Nat) (port : Port) (windowEnd shot : Nat) (s : State), s.Runs →
    let d := s.devAt t
    let p := port.val
    let reg := fun (r : Nat) => s.dev.val (Obj.fbRemoteIn r)
    let named := fun (v : VerdictEntry) =>
      (List.range 64).filter (fun r => bit (reg r) 13 && bits (reg r) 12 11 = p && bits (reg r) 10 0 = v.fabricId)
    let takes := fun (v : VerdictEntry) =>
      (named v).filter (fun r => (d.origins (bits (reg r) 25 20)).any (fun o => windowEnd = o + bits (reg r) 63 32))
    d.portActive p = true →
    (∀ entries,
        ∃ s', exec (.ggVerdictFrameReceive t port windowEnd shot entries) s = .next s'
          ∧ s'.dev.val (Obj.ggFramesReceived p 0) = wrap 64 (s.dev.val (Obj.ggFramesReceived p 0) + 1)
          ∧ wrap 64 (s'.dev.val Obj.fbRemoteAccepted) =
              wrap 64 (s.dev.val Obj.fbRemoteAccepted + (entries.map (fun v => (takes v).length)).sum)
          ∧ wrap 32 (s'.dev.val Obj.fbRemoteMismatch) =
              wrap 32 (s.dev.val Obj.fbRemoteMismatch + (entries.filter (fun v => !(named v).isEmpty && (takes v).isEmpty)).length)
          ∧ ((∀ q ∈ s.dev.drills, q.2.run ≠ .waitBranch) → s'.dev.drills = s.dev.drills) ∧ s'.mem = s.mem)
    ∧ (∀ v, named v = [] → exec (.ggVerdictFrameReceive t port windowEnd shot [v]) s = .next (s.withDev (d.received p 1)))
    ∧ (∀ v, named v ≠ [] → takes v = [] →
        exec (.ggVerdictFrameReceive t port windowEnd shot [v]) s = .next (s.withDev ((d.received p 1).bump Obj.fbRemoteMismatch)))
    ∧ (∀ v r, takes v = [r] → v.void = false → d.cellsInUse = [] → (∀ q ∈ s.dev.drills, q.2.run ≠ .waitBranch) →
        exec (.ggVerdictFrameReceive t port windowEnd shot [v]) s = .next (s.withDev ((d.received p 1).bump64 Obj.fbRemoteAccepted)))

/-! ### Bias outputs and the monitor converter (R258–R280) -/

/-- Bias requests whose stamps have come leave the queue; the last of them sets the target, and in the safe state or while power is prepared every one is
discarded and counted (R258, R259, R477); the limiter moves the code
one step toward it at its step instant and at no other time (R260, R261); a tracking difference is reported, and one above 50 mV is a Grave
fault (R267). -/
def Obligations.BiasOutputsFollowTheirTargets : Prop :=
  ∀ (t : Nat) (lane : Lane) (s : State), s.Runs →
    let d := s.devAt t
    let l := lane.val
    let b := d.biasOut l
    let c := s.dev.chain l
    (∃ s', exec (.biasTargetEffect t lane) s = .next s' ∧ (s'.dev.chain l).biases = c.biases.filter (fun p => d.now < p.1)
        ∧ (∀ due stamp code, c.biases.filter (fun p => p.1 ≤ d.now) = due ++ [(stamp, code)] →
          (d.faultHolds = false → d.power.preparing = false → (∀ p ∈ due, p.1 ≤ stamp) → b.effect ≤ stamp →
            s'.dev.biasOut l = { b with target := code, move := .normal, effect := stamp, byRequest := true }
              ∧ s'.dev.val (Obj.biasTargetTime l) = stamp ∧ s'.dev.val (Obj.biasDiscards l) = s.dev.val (Obj.biasDiscards l))
          ∧ (d.faultHolds = false → d.power.preparing = false → due = [] → stamp < b.effect →
            s'.dev.biasOut l = b ∧ s'.dev.val (Obj.biasTargetTime l) = s.dev.val (Obj.biasTargetTime l))
          ∧ (d.faultHolds = true ∨ d.power.preparing = true →
            s'.dev.biasOut l = b ∧ s'.dev.val (Obj.biasDiscards l) = wrap 32 (s.dev.val (Obj.biasDiscards l) + due.length + 1)))
        ∧ s'.dev.drills = s.dev.drills ∧ s'.mem = s.mem)
    ∧ (b.move ≠ .held → b.code ≠ b.target → d.nextStep l b ≤ d.now → d.calInterrupts 3 l = false →
        exec (.biasStepInstant t lane) s = .next (s.withDev
          ((d.setBias l { b with code := stepToward b.code b.target (d.biasRate l b).1, lastStep := some (d.nextStep l b) }).emit
            (.biasStep l (stepToward b.code b.target (d.biasRate l b).1) (d.nextStep l b)))))
    ∧ (d.now < d.nextStep l b → exec (.biasStepInstant t lane) s = .next (s.withDev d))
    ∧ (∀ e : Int, e.natAbs ≤ 50000 → exec (.biasTrackingFail t lane e) s = .next (s.withDev (d.put (Obj.biasTrackError l) (ofInt 32 e))))
    ∧ (∀ e : Int, 50000 < e.natAbs → bit s.dev.faults.sticky 3 = false →
        ∃ s', exec (.biasTrackingFail t lane e) s = .next s' ∧ bit s'.dev.faults.sticky 3 = true ∧ s'.dev.faults.safe = 2 ∧ s'.mem = s.mem)

/-- The monitor converter: in mode 3 a trigger starts its entry or is held once (R274); a restart makes entry 0 the next (R275); settling ends
after 50 µs and an integration gives its result, held to ±60 V, with its count (R269, R270, R276), the last one ends the conversion; the spare slice is
calibrated and takes over from the active slice calibrated longest ago (R278). -/
def Obligations.TheMonitorConverterRunsItsSequence : Prop :=
  ∀ (t : Nat) (s : State), s.Runs →
    let d := s.devAt t
    let m := s.dev.monitor
    let becomes := fun (x : Monitor) => s.withDev { d with monitor := x }
    (∀ ch rest, (m.asked = [] ∧ rest = [] ∧ ch = s.dev.val Obj.monTriggerChannel) ∨ m.asked = ch :: rest →
        let m' := { m with asked := rest }
        let e := ({ d with monitor := m' } : Dev)
        (s.dev.val Obj.monRunMode ≠ 3 → exec (.monTrigger t) s = .next (becomes m'))
        ∧ (s.dev.val Obj.monRunMode = 3 →
          (m.runs = true → m.held = false → exec (.monTrigger t) s = .next (becomes { m' with held := true }))
          ∧ (m.runs = true → m.held = true → exec (.monTrigger t) s = .next (s.withDev ((e.bump Obj.monOverruns).overrun ch)))
          ∧ (∀ j, m.runs = false → d.monFrom m.entry = some j ∨ (d.monFrom m.entry = none ∧ d.monFrom 0 = some j) →
              exec (.monTrigger t) s = .next (s.withDev (e.monStart j d.now)))
          ∧ (m.runs = false → d.monFrom m.entry = none → d.monFrom 0 = none → exec (.monTrigger t) s = .next (becomes m'))))
    ∧ (∀ path, s.Admits t path Obj.monRestart 1 →
        (m.runs = true → exec (.monRestart t path) s =
          .next (s.withDev (({ d with monitor := { m with restart := true } } : Dev).answerWrite path Obj.monRestart 0)))
        ∧ (m.runs = false → exec (.monRestart t path) s = .next (s.withDev ((d.monGo 0 d.now true).answerWrite path Obj.monRestart 0))))
    ∧ (m.phase = 1 → m.startedAt + 500000 ≤ d.now →
        exec (.monSettleEnd t) s = .next (becomes { m with phase := 2, startedAt := m.startedAt + 500000 }))
    ∧ (∀ value, m.phase = 2 → d.monNextEnd ≤ d.now →
        let range := monRange (d.monField m.entry 9 0)
        let v := clampI value (-range) range
        ∃ s', exec (.monResult t value) s = .next s'
          ∧ s'.dev.val (Obj.monResult m.entry) = ofInt 32 v * 2 ^ 40 + ofBool (v != value) * 2 ^ 39 + ofBool (s.dev.val Obj.timeRefState != 0) * 2 ^ 38
              + d.monField m.entry 40 40 * 2 ^ 37 + wrap 32 (SMap.look m.counts m.entry 0 + 1)
          ∧ s'.dev.val (Obj.monResultTime m.entry) = d.monNextEnd
          ∧ (m.results + 1 < d.monField m.entry 39 24 → s'.dev.monitor.results = m.results + 1 ∧ s'.dev.monitor.phase = 2)
          ∧ s'.dev.drills = s.dev.drills ∧ s'.mem = s.mem)
    ∧ (m.lent = false → m.spareBusy + 30 * s.dev.val Obj.monLinePeriod ≤ d.now →
        exec (.monSpareCalibrated t) s =
          .next (becomes { m with spareFresh := true, spareBusy := d.now, calTime := SMap.set m.calTime m.spare d.now }))
    ∧ (∀ (node : Fin 17) v, m.lent = false → m.spareFresh = true → m.diodeTurn = node.val → m.spareBusy + s.dev.val Obj.monLinePeriod ≤ d.now →
        exec (.monDiodeReading t node v) s = .next (s.withDev (s.dev.seal
          (({ d with monitor := { m with diodeTurn := (node.val + 1) % 17, spareBusy := d.now } } : Dev).diodeReading node.val v))))
    ∧ (0 < s.dev.val Obj.monRotatePeriod → m.lent = false → m.spareFresh = true →
        s.dev.val Obj.monLastRotation + s.dev.val Obj.monRotatePeriod * 10000000000 ≤ d.now →
        let first := SMap.look m.calTime m.active0 0 ≤ SMap.look m.calTime m.active1 0
        let turn := fun (x : Monitor) => s.withDev (({ d with monitor := x } : Dev).put Obj.monLastRotation d.now)
        (first → d.windowStarts false = true →
            exec (.monRotation t) s = .next (turn { m with active0 := m.spare, spare := m.active0, spareFresh := false, spareBusy := d.now }))
        ∧ (¬first → d.windowStarts true = true →
            exec (.monRotation t) s = .next (turn { m with active1 := m.spare, spare := m.active1, spareFresh := false, spareBusy := d.now })))

/-! ### Time (R63–R85) -/

/-- Wall time is set and counted as a step (R74), latched with grid time for its path (R85), and kept by a measured increment on the fallback
oscillator (R75). A reference without edges for 40 ns, or off by more than 100 ppm, is lost: grid time is unqualified and the Severe fault stands
(R63, R64); its return leaves grid time unqualified (R65). -/
def Obligations.WallTimeAndTheReference : Prop :=
  ∀ (t : Nat) (s : State), s.Runs →
    let d := s.devAt t
    let lost := fun (code : Nat) (s' : State) =>
      s'.dev.val Obj.timeRefState = code ∧ s'.dev.val Obj.timeGridState = 3 ∧ s'.dev.val Obj.timeOnFallback = 1
        ∧ bit s'.dev.faults.sticky 8 = true ∧ s'.mem = s.mem
    (∀ path value, s.Admits t path Obj.timeWallSet value →
        valueFits Obj.timeWallSet value →
        exec (.timeWallSet t path value) s = .next (s.withDev
          ((({ d with clock := { d.clock with wallBase := wallOf value, wallTick := d.wallEdge, wallSet := true } } : Dev).bump
            Obj.timeStepCount).answerWrite path Obj.timeWallSet 0)))
    ∧ (s.dev.flag Obj.timeOnFallback = false → d.wallEdge = d.now)
    ∧ (∀ path, s.Admits t path Obj.timeSnapshot 1 →
        exec (.timeSnapshot t path 1) s = .next (s.withDev
          (({ d with clock := { d.clock with snaps := SMap.set d.clock.snaps (Path.number path) (d.now, wallWord d.wallNow) } } : Dev).answerWrite path
            Obj.timeSnapshot 0)))
    ∧ (∀ cycles, s.dev.flag Obj.timeFallbackAuto = true → s.dev.val Obj.timeRefState = 0 → 0 < cycles →
        exec (.fallbackMeasure t cycles) s = .next (s.withDev (d.put Obj.timeFallbackIncrement (wrap 64 (1000000000 * 2 ^ 32 / cycles)))))
    ∧ (∀ cycles, s.dev.flag Obj.timeFallbackAuto = false → exec (.fallbackMeasure t cycles) s = .next (s.withDev d))
    ∧ (∀ edge, (s.dev.val Obj.timeRefState = 0 ∨ s.dev.val Obj.timeRefState = 3) → edge + 400 ≤ d.now → ∃ s', exec (.refEdgesMissing t edge) s = .next s' ∧ lost 1 s')
    ∧ (∀ (e : Int) edge, (s.dev.val Obj.timeRefState = 0 ∨ s.dev.val Obj.timeRefState = 3) → 100000 < e.natAbs → edge ≤ d.now →
        ∃ s', exec (.refFrequencyGate t e edge) s = .next s' ∧ lost 2 s' ∧ s'.dev.val Obj.timeRefFreqError = ofInt 32 e)
    ∧ (∀ (e : Int) edge, e.natAbs ≤ 100000 →
        exec (.refFrequencyGate t e edge) s = .next (s.withDev (d.put Obj.timeRefFreqError (ofInt 32 e))))
    ∧ (s.dev.val Obj.timeRefState = 1 ∨ s.dev.val Obj.timeRefState = 2 → exec (.refReturn t) s = .next (s.withDev (d.put Obj.timeRefState 3)))

/-- A follower asks its master, takes each reply's delay and offset, and concludes with the sixteenth: a measurement more than 25 ticks off is refused,
counted and made again after 1 s, any other gives the offset to apply while the device is quiet. It adds the offset's ticks, rounded up, at a reference
edge, and moves its delay lines one step of 0.25 ps at a time, each 1 µs or more after the one before; the last step aligns its grid time. The master
answers each request with its stamps (R66–R68). -/
def Obligations.FollowersAlignTheirEpoch : Prop :=
  ∀ (t : Nat) (s : State), s.Runs →
    let d := s.devAt t
    let e := s.dev.clock.epoch
    let epoch := fun (x : Epoch) => ({ d with clock := { d.clock with epoch := x } } : Dev)
    (∀ g1, d.toAlign = true →
        (d.exchanging = false → e.retryAt = none → e.offset = none → e.lineTarget = 0 → (e.samples.length < 16 ∨ d.quiet = true) →
          exec (.epochExchangeStart t g1) s = .next (s.withDev (d.startEpoch g1)))
        ∧ (∀ r, e.retryAt = some r → r ≤ d.now → exec (.epochRetry t g1) s = .next (s.withDev (d.startEpoch g1)))
        ∧ d.startEpoch g1 =
            ((epoch { e with running := true, port := s.dev.val Obj.timeEpochPort, g1 := g1, retryAt := none, samples := [], offset := none }).sendBody
              (s.dev.val Obj.timeEpochPort) { emptyBody with kind := 1 }))
    ∧ (∀ (port : Port) body g2 g3, d.portActive port.val = true → body.kind = 1 → s.dev.val Obj.timeEpochRole = 1 →
        (d.received port.val 2).discards port.val body = false →
        exec (.epochRequestReceive t port body g2 g3) s = .next (s.withDev ((d.received port.val 2).sendBody port.val
          { emptyBody with
            kind := 2, seconds := bits (g2 / 65536) 63 16, nanos := bits (g2 / 65536) 15 0 + (g2 % 65536) * 65536, correction := g3 / 10
            reqClockIdentity := body.clockIdentity, reqPortNumber := body.portNumber })))
    ∧ (∀ (port : Port) (body : TimeBody) (g4 next : Nat), d.portActive port.val = true → body.kind = 2 → d.exchanging = true → port.val = s.dev.val Obj.timeEpochPort →
        d.discards port.val body = false → d.toAlign = true →
        let g2 : Int := (body.seconds * 65536 + bits body.nanos 15 0) * 65536 + bits body.nanos 31 16
        let d2 : Int := ((g4 : Int) - e.g1) - (body.correction * 10 - g2)
        let samples := e.samples ++ [(d2, 2 * (g2 - e.g1) - d2)]
        let tick : Int := 400 * 2 ^ 18
        let skew := s.dev.ival 32 Obj.timeRefSkew
        let q := median2 (samples.map Prod.snd) * 400 - skew * 2 ^ 18
        let n := 100 * ((q + 50 * tick) / (100 * tick))
        ∃ s', exec (.epochReplyReceive t port body g4 next) s = .next s'
          ∧ s'.dev.clock.epoch.samples = samples
          ∧ (samples.length < 16 → s'.dev.clock.epoch.g1 = next ∧ s'.dev.clock.epoch.running = true)
          ∧ (16 ≤ samples.length → s'.dev.clock.epoch.running = false
              ∧ s'.dev.val Obj.timeEpochDelay = ofInt 64 (median2 (samples.map Prod.fst) / 40)
              ∧ (25 * tick < (q - n * tick).natAbs → s'.dev.clock.epoch.retryAt = some (d.now + 10000000000) ∧ s'.dev.clock.epoch.offset = none
                  ∧ s'.dev.val Obj.timeEpochRefusals = wrap 32 (s.dev.val Obj.timeEpochRefusals + 1) ∧ bit s'.dev.faults.sticky 126 = true)
              ∧ (((q - n * tick).natAbs : Int) ≤ 25 * tick →
                  s'.dev.clock.epoch.offset = if d.quiet then some (400 * n + skew) else none))
          ∧ s'.dev.drills = s.dev.drills ∧ s'.mem = s.mem)
    ∧ (∀ o, e.offset = some o → d.quiet = false → exec (.epochAlign t) s = .next (s.withDev (epoch { e with offset := none })))
    ∧ (e.offset = none ∨ (d.quiet = true ∧ (d.now % 100 ≠ 0 ∨ s.dev.val Obj.timeRefState ≠ 0)) → exec (.epochAlign t) s = .next (s.withDev d))
    ∧ (∀ o, e.offset = some o → d.quiet = true → d.now % 100 = 0 → s.dev.val Obj.timeRefState = 0 →
        let up := (o + 399) / 400
        ∃ s', exec (.epochAlign t) s = .next s' ∧ s'.dev.now = ((d.now : Int) + up).toNat ∧ s'.dev.val Obj.timeEpochOffset = ofInt 64 up
          ∧ s'.dev.clock.epoch.offset = none ∧ s'.dev.clock.epoch.line = 0 ∧ (s'.dev.clock.epoch.lineTarget : Int) = up * 400 - o
          ∧ (up * 400 = o → s'.dev.val Obj.timeGridState = 2) ∧ s'.mem = s.mem)
    ∧ (d.now < e.lineAt + 10000 → exec (.epochDelayLineStep t) s = .next (s.withDev d))
    ∧ (e.line < e.lineTarget → e.lineAt + 10000 ≤ d.now →
        (e.line + 1 ≠ e.lineTarget → exec (.epochDelayLineStep t) s = .next (s.withDev (epoch { e with line := e.line + 1, lineAt := d.now })))
        ∧ (e.line + 1 = e.lineTarget → s.dev.val Obj.timeGridState = 0 → exec (.epochDelayLineStep t) s =
            .next (s.withDev ((epoch { e with line := e.line + 1, lineAt := d.now }).put Obj.timeGridState 2))))

/-- A master port sends Sync and answers Delay_Req, a slave port asks and filters the answers into its path delay, an enabled port measures its
link delay; what a port's role, domain or mechanism does not take is discarded and counted (R77–R83). -/
def Obligations.TimeMessagesAreSentAndTaken : Prop :=
  ∀ (t : Nat) (port : Port) (s : State), s.Runs →
    let d := s.devAt t
    let p := port.val
    let here := d.received p 2
    d.portActive p = true →
    (∀ egress, d.role p = 1 → s.dev.val Obj.timeRefState = 0 →
        exec (.syncSend t port egress) s = .next (s.withDev ((d.sendBody p
          { (stampBody { emptyBody with logInterval := d.ival 8 (Obj.ptpLogSyncInterval p) } (d.wallStamp egress)).1 with
            correction := (stampBody { emptyBody with logInterval := d.ival 8 (Obj.ptpLogSyncInterval p) } (d.wallStamp egress)).2 }).bump
          (Obj.ptpSyncSent p))))
    ∧ (∀ egress, d.role p = 2 → s.dev.val Obj.ptpDelayMechanism = 0 →
        exec (.delayReqSend t port egress) s = .next (s.withDev ((d.setPtp p { d.ptp p with t3 := d.wallStamp egress }).sendBody p
          { emptyBody with msgType := 1, logInterval := d.ival 8 (Obj.ptpLogDelayReqInterval p) })))
    ∧ (∀ egress, d.role p ≠ 0 → s.dev.val Obj.ptpDelayMechanism = 1 →
        exec (.pdelayReqSend t port egress) s =
          .next (s.withDev ((d.setPtp p { d.ptp p with t1 := egress }).sendBody p { emptyBody with msgType := 2 })))
    ∧ (∀ body ingress residence, here.discards p body = false → body.kind = 0 → body.msgType = 0 → d.role p = 2 →
        ∃ s', exec (.syncReceive t port body ingress residence) s = .next s'
          ∧ s'.dev.val Obj.timeOffset = ofInt 64 (d.wallStamp ingress - d.bodyTime body - body.correction
              - (if s.dev.val Obj.ptpDelayMechanism = 0 then d.ival 64 Obj.timeMeanPathDelay else d.ival 64 (Obj.ptpPeerDelay p)))
          ∧ s'.dev.val (Obj.ptpSyncReceived p) = wrap 32 (s.dev.val (Obj.ptpSyncReceived p) + 1) ∧ s'.dev.drills = s.dev.drills ∧ s'.mem = s.mem)
    ∧ (∀ body ingress residence, here.discards p body = false → body.kind = 0 → body.msgType = 1 → d.role p = 1 →
        exec (.delayReqReceive t port body ingress residence) s = .next (s.withDev (here.sendBody p
          { (stampBody { emptyBody with msgType := 9 } (d.wallStamp ingress)).1 with
            correction := body.correction - (stampBody { emptyBody with msgType := 9 } (d.wallStamp ingress)).2
            reqClockIdentity := body.clockIdentity, reqPortNumber := body.portNumber })))
    ∧ (∀ body ingress residence delta, here.discards p body = false → body.kind = 0 → body.msgType = 9 → d.role p = 2 →
        body.reqClockIdentity = s.dev.val Obj.ptpClockIdentity → body.reqPortNumber = p + 1 →
        (d.ptp p).syncDelta = some delta →
        exec (.delayRespReceive t port body ingress residence) s = .next (s.withDev (here.filterDelay Obj.timeMeanPathDelay
          ((delta + (d.bodyTime body - (d.ptp p).t3 - body.correction)) / 2))))
    ∧ (∀ body ingress egress, here.discards p body = false → body.kind = 0 → body.msgType = 2 →
        exec (.pdelayReqReceive t port body ingress egress) s = .next (s.withDev (here.sendBody p
          { emptyBody with
            msgType := 3, correction := body.correction + ((egress : Int) - ingress)
            reqClockIdentity := body.clockIdentity, reqPortNumber := body.portNumber })))
    ∧ (∀ body (ingress : Nat), here.discards p body = false → body.kind = 0 → body.msgType = 3 →
        body.reqClockIdentity = s.dev.val Obj.ptpClockIdentity → body.reqPortNumber = p + 1 →
        let e := here.filterDelay (Obj.ptpPeerDelay p) (((ingress : Int) - (d.ptp p).t1 - body.correction) / 2)
        (d.role p ≠ 2 → exec (.pdelayRespReceive t port body ingress) s = .next (s.withDev e))
        ∧ (d.role p = 2 → exec (.pdelayRespReceive t port body ingress) s =
            .next (s.withDev (e.put Obj.timeMeanPathDelay (e.val (Obj.ptpPeerDelay p))))))
    ∧ (∀ body, d.discards p body = true → exec (.timeMessageDiscard t port body) s = .next (s.withDev (here.bump (Obj.ptpRxDiscards p))))
    ∧ (d.slavePort = some p → 0 < s.dev.val Obj.ptpSyncTimeout →
        let log := (d.ptp p).lastLog.getD (d.ival 8 (Obj.ptpLogSyncInterval p))
        let second := s.dev.val Obj.ptpSyncTimeout * 10000000000
        (d.ptp p).lastSync + (if log < 0 then second / 2 ^ log.natAbs else second * 2 ^ log.natAbs) ≤ d.now →
        ∃ s', exec (.ptpSyncTimeout t) s = .next s' ∧ s'.dev.val Obj.timeLocked = 0 ∧ bit s'.dev.faults.sticky 127 = true ∧ s'.mem = s.mem)

/-! ### Strips and tiles (R15, R53, R103–R108) -/

/-- A powered unit takes a reset or a power-down and a powered-down one a power-up (R104, R108); told so it enters the void state with every
lane of its own stopped (R105), leaves it when its time is over, and reports state 0 when it has returned (R107). -/
def Obligations.UnitsGoVoidAndReturn : Prop :=
  ∀ (t : Nat) (path : Path) (s : State), s.Runs →
    let d := s.devAt t
    let resets := fun (c : Instr) (u key : Nat) =>
      s.Admits t path key 1 →
      (d.unitState u ≠ 3 → d.powered u = true → exec c s = .next (s.withDev ((d.askVoid u 1).answerWrite path key 0)))
      ∧ (d.unitState u = 3 ∨ d.powered u = false → exec c s = .next (s.withDev (d.answerWrite path key 0x08000022)))
    let downs := fun (c : Instr) (u key : Nat) =>
      s.Admits t path key 0 → d.powered u = true → exec c s = .next (s.withDev (((d.put key 0).askVoid u 3).answerWrite path key 0))
    let ups := fun (c : Instr) (u key : Nat) =>
      s.Admits t path key 1 → d.unitState u = 3 → exec c s = .next (s.withDev (s.dev.seal
        ((((d.put key 1).unraise (checkBit u)).setUnit u
          { d.unit u with wakeAt := some (d.now + wakeTime u), checked := false, reloading := false }).answerWrite path key 0)))
    (∀ k : Strip, resets (.stripReset t path k) k.val (Obj.stripReset k.val))
    ∧ (∀ k : Tile, resets (.tileReset t path k) (64 + k.val) (Obj.tileReset k.val))
    ∧ (∀ k : Strip, downs (.stripPowerDown t path k) k.val (Obj.stripPower k.val))
    ∧ (∀ k : Tile, downs (.tilePowerDown t path k) (64 + k.val) (Obj.tilePower k.val))
    ∧ (∀ k : Strip, ups (.stripPowerUp t path k) k.val (Obj.stripPower k.val))
    ∧ (∀ k : Tile, ups (.tilePowerUp t path k) (64 + k.val) (Obj.tilePower k.val))
    ∧ (∀ unit : EngineUnit, let u := EngineUnit.number unit
        ((d.unit u).entering ≠ 0 →
          ∃ s', exec (.unitVoidEntry t unit) s = .next s' ∧ s'.dev.unitState u = (d.unit u).entering ∧ (s'.dev.unit u).entering = 0
            ∧ (s'.dev.unit u).since = d.now ∧ (u < 64 → ∀ l ∈ stripLanes u, (s'.dev.drill l).run = .stopped) ∧ s'.mem = s.mem)
        ∧ (d.voidOver u = true →
          ∃ s', exec (.unitVoidEnd t unit) s = .next s' ∧ s'.dev.unitState u = 4 ∧ s'.dev.drills = s.dev.drills ∧ s'.mem = s.mem)
        ∧ (d.unitState u = 4 → ∃ s', exec (.unitReturn t unit) s = .next s' ∧ s'.dev.unitState u = 0 ∧ s'.mem = s.mem))

/-! ### Rings, digitisers, gleaners, captures and sheaves (chapter 12) -/

/-- A record put into a ring lies whole inside the ring's block and never wraps; the byte before the read offset stays free, and the write
offset stays inside the block (R281). -/
def Obligations.RingRecordsStayInsideTheirBlock : Prop :=
  ∀ (d d' : Dev) (k : Nat) (data : List Byte) (ops : List MemOp), k < 104 →
    let len := domLength (d.ringBlock k)
    let w := d.val (ringKeys k).2.1
    let r := d.val (ringKeys k).2.2
    w < len → r < len → data ≠ [] → d.ringPut k data = some (d', ops) →
    d'.val (ringKeys k).2.1 < len ∧ d'.val (ringKeys k).2.2 = r ∧ d'.val (ringKeys k).2.1 ≠ r
      ∧ (∃ pos mark, ops = mark ++ [MemOp.put (d.domAddr (d.ringBlock k) + pos) data] ∧ pos + data.length ≤ len ∧ (pos = w ∨ pos = 0)
          ∧ (pos = w → mark = [])
          ∧ ∀ o ∈ mark, ∃ bs, o = MemOp.put (d.domAddr (d.ringBlock k) + w) bs ∧ w + bs.length ≤ len)

/-- A read offset inside the ring and not past the write offset is taken through its window, and any other is dropped and counted; a window reads
its ring's offsets, or 0, counted, where it does not reach the ring (R281, R356, R359). An edge of the chosen polarity is accepted but for one of an interrupted input, which is lost, or one too close to the last, which is held off;
an accepted edge is stamped, counted and, while the stream is enabled, queued behind the gap records, or lost when 512 wait (R282–R287). A queued
stamp and a gleaner record go to their ring when it has room; an edge in a void tile only moves the level, and a void tile writes nothing (R104). -/
def Obligations.EdgesAndRecordsReachTheirRings : Prop :=
  ∀ (t : Nat) (s : State), s.Runs →
    let d := s.devAt t
    (∀ (ring : Fin 104) (path : Path) (f value : Nat),
        let k := ring.val
        let reached := d.pathOpen path = true ∧ s.dev.val Obj.devState ≠ 0 ∧ d.ringOwner k = Path.partition path
        let good := (d.setReadOffset k (wrap 32 value)).2 = 0 ∧ reached ∧ s.dev.faults.safe ≠ 2
        Path.function path = some f → s.dev.val Obj.pcieLinkState = 2 → f ≤ s.dev.val Obj.pcieNumVfs →
        (good → exec (.ringReadOffsetWrite t path ring (.write 4 4 value)) s = .next (s.withDev (d.put (ringKeys k).2.2 (wrap 32 value))))
        ∧ (¬good → exec (.ringReadOffsetWrite t path ring (.write 4 4 value)) s = .next (s.withDev (d.bump Obj.pcieRingRefused)))
        ∧ (∀ o n, (o ≠ 4 ∨ n ≠ 4) → exec (.ringReadOffsetWrite t path ring (.write o n value)) s = .next (s.withDev d))
        ∧ (reached →
          exec (.ringReadOffsetWrite t path ring (.read 0 4)) s = .next (s.withDev (d.emit (.bar f 4 (s.dev.val (ringKeys k).2.1))))
          ∧ exec (.ringReadOffsetWrite t path ring (.read 4 4)) s = .next (s.withDev (d.emit (.bar f 4 (s.dev.val (ringKeys k).2.2)))))
        ∧ (¬reached → ∀ o, o = 0 ∨ o = 4 →
          exec (.ringReadOffsetWrite t path ring (.read o 4)) s = .next (s.withDev ((d.bump Obj.pcieRingRefused).emit (.bar f 4 0))))
        ∧ (∀ o n, (n ≠ 4 ∨ o % 4 ≠ 0) →
          exec (.ringReadOffsetWrite t path ring (.read o n)) s = .next (s.withDev (d.emit (.bar f 4 0xFFFFFFFF)))))
    ∧ (∀ (input : Fin 16) (ps : Nat) (rising : Bool),
        let n := input.val
        let x := s.dev.trig n
        let sel := s.dev.val (Obj.trigEdge n)
        let e : EvTime := { tick := t, ps := if s.dev.val Obj.timeRefState = 0 then ps % 100 else 0 }
        let gap := fun (a : EvTime) => (e.tick * 100 + e.ps) - (a.tick * 100 + a.ps)
        let close := ∃ a, x.lastAccepted = some a ∧ (gap a < 5000 ∨ gap a < s.dev.val (Obj.trigHoldOff n) * 100)
        let fit := x.lost.take (512 - x.queue.length)
        let behind := x.queue ++ fit.map (fun p => { time := p.1, wordA := wrap 32 (p.2.1 - p.1 + 1), low := p.2.2, typ := 2 })
        ∃ s', exec (.trigEdge t input ps rising) s = .next s' ∧ s'.dev.val (Obj.trigLevel n) = ofBool rising ∧ s'.dev.drills = s.dev.drills ∧ s'.mem = s.mem
          ∧ ((d.unitState (64 + n) ≠ 0 ∨ ¬(sel = 2 ∨ (sel = 0 ∧ rising = true) ∨ (sel = 1 ∧ rising = false))) →
              s'.dev.trig n = x ∧ s'.dev.val (Obj.trigEdges n) = s.dev.val (Obj.trigEdges n))
          ∧ (d.unitState (64 + n) = 0 → (sel = 2 ∨ (sel = 0 ∧ rising = true) ∨ (sel = 1 ∧ rising = false)) →
            (x.interrupted = true → s'.dev.val (Obj.tdcLost n) = wrap 64 (s.dev.val (Obj.tdcLost n) + 1) ∧ (s'.dev.trig n).queue = x.queue)
            ∧ (x.interrupted = false → close → s'.dev.trig n = x ∧ s'.dev.val (Obj.trigHeldOff n) = wrap 32 (s.dev.val (Obj.trigHeldOff n) + 1))
            ∧ (x.interrupted = false → ¬close →
              s'.dev.val (Obj.trigEdges n) = wrap 64 (s.dev.val (Obj.trigEdges n) + 1) ∧ s'.dev.val (Obj.tdcLastTick n) = t
                ∧ s'.dev.val (Obj.tdcLastPs n) = e.ps ∧ (s'.dev.trig n).seq = wrap 32 (x.seq + 1) ∧ (s'.dev.trig n).lastAccepted = some e
                ∧ (s.dev.flag (Obj.tdcStreamEnable n) = false → (s'.dev.trig n).queue = x.queue)
                ∧ (s.dev.flag (Obj.tdcStreamEnable n) = true → behind.length < 512 →
                    (s'.dev.trig n).queue = behind ++ [{ time := t, wordA := x.seq, typ := 1
                                                         low := e.ps + 256 * ofBool (!rising) + 512 * ofBool (s.dev.val Obj.timeRefState != 0) }])
                ∧ (s.dev.flag (Obj.tdcStreamEnable n) = true → 512 ≤ behind.length →
                    (s'.dev.trig n).queue = behind ∧ s'.dev.val (Obj.tdcLost n) = wrap 64 (s.dev.val (Obj.tdcLost n) + 1)))))
    ∧ (∀ (input : Fin 16) r rest,
        let n := input.val
        let x := s.dev.trig n
        let taken := d.setTrig n { x with queue := rest }
        x.queue = r :: rest →
        (d.unitState (64 + n) ≠ 0 → exec (.tdcRecordWrite t input) s = .next (s.withDev d))
        ∧ (d.unitState (64 + n) = 0 →
          (∀ p, domLength (d.ringBlock (80 + n)) ≠ 0 → taken.ringPut (80 + n) (tdcBytes n r) = some p →
            exec (.tdcRecordWrite t input) s = .next { s.withDev (p.1.queueGaps n) with mem := s.mem.apply p.2 })
          ∧ (domLength (d.ringBlock (80 + n)) = 0 → exec (.tdcRecordWrite t input) s = .next (s.withDev (taken.queueGaps n)))
          ∧ (domLength (d.ringBlock (80 + n)) ≠ 0 → taken.ringPut (80 + n) (tdcBytes n r) = none →
            exec (.tdcRecordWrite t input) s = .next (s.withDev d)))
        ∧ (x.lost = [] → (taken.queueGaps n).trig n = { x with queue := rest }))
    ∧ (∀ (tile : Tile) r rest,
        let k := tile.val
        let g := s.dev.gleaner k
        g.buffer = r :: rest → d.unitState (64 + k) = 0 →
        (∀ p, (d.setGleaner k { g with buffer := rest }).ringPut (64 + k) (glnBytes r) = some p →
          exec (.gleanerRecordWrite t tile) s = .next { s.withDev ((p.1.bump64 (Obj.glnRecords k)).reportGaps k) with mem := s.mem.apply p.2 })
        ∧ ((d.setGleaner k { g with buffer := rest }).ringPut (64 + k) (glnBytes r) = none →
          exec (.gleanerRecordWrite t tile) s = .next (s.withDev (d.reportGaps k)))
        ∧ (g.lost = [] → d.reportGaps k = d))

/-- A capture engine arms and disarms, and an armed trigger starts it on an even tick or, while a capture runs, acts by its policy (R293–R295); the
capture ends once its last sample has been taken, its record waits in the buffer and goes to the ring (R296). A shot's sheaf closes 1 µs after its end
and goes to its ring with the losses before it, sealed, or waits in the following channel's queue, or is lost (R298, R301, R362). -/
def Obligations.CapturesAndSheavesAreWritten : Prop :=
  ∀ (t : Nat) (s : State), s.Runs →
    let d := s.devAt t
    (∀ (engine : Fin 8) (path : Path), s.Reaches t path (Obj.capArm engine.val) →
        let k := engine.val
        let x := s.dev.capture k
        (s.Asked t path (Obj.capArm k) 1 → x.run = none → exec (.capArm t path engine) s =
          .next (s.withDev ((d.setCapture k { x with armed := true }).answerWrite path (Obj.capArm k) 0)))
        ∧ (s.Asked t path (Obj.capArm k) 1 → x.run ≠ none → exec (.capArm t path engine) s =
          .next (s.withDev ((d.setCapture k { x with armDue := true }).answerWrite path (Obj.capArm k) 0)))
        ∧ (s.Asked t path (Obj.capArm k) 0 → exec (.capDisarm t path engine) s =
          .next (s.withDev ((d.setCapture k { x with armed := false, armDue := false }).answerWrite path (Obj.capArm k) 0))))
    ∧ (∀ (engine : Fin 8) (e : Nat),
        let k := engine.val
        let x := s.dev.capture k
        let source := s.dev.val (Obj.capSource k)
        let void := d.unitState (64 + captureInput source / 4) ≠ 0
        let y : Capture := { x with asked := x.asked.erase e }
        let d' := d.setCapture k y
        (e ∉ x.asked → exec (.capTrigger t engine e) s = .next (s.withDev d))
        ∧ (e ∈ x.asked → x.armed = false ∨ source = 0xFFF ∨ void → exec (.capTrigger t engine e) s = .next (s.withDev d'))
        ∧ (e ∈ x.asked → x.armed = true → source ≠ 0xFFF → ¬void →
          (x.run = none → exec (.capTrigger t engine e) s = .next (s.withDev (d'.setCapture k { y with run := some (d'.capRun k e) })))
          ∧ (∀ r, x.run = some r →
            (s.dev.val (Obj.capPolicy k) = 0 → exec (.capTrigger t engine e) s = .next (s.withDev (d'.bump (Obj.capIgnored k))))
            ∧ (s.dev.val (Obj.capPolicy k) = 1 → exec (.capTrigger t engine e) s = .next (s.withDev
              ((d'.setCapture k { y with run := some { r with cut := true }
                                         follow := x.follow.map (fun f => { f with cut := true }) ++ [d'.capRun k e] }).bump (Obj.capRestarts k))))
            ∧ (2 ≤ s.dev.val (Obj.capPolicy k) → x.heldTrigger = none → exec (.capTrigger t engine e) s =
              .next (s.withDev (d'.setCapture k { y with heldTrigger := some e, heldShots := [(0, s.dev.val Obj.devShotNumber)] })))
            ∧ (2 ≤ s.dev.val (Obj.capPolicy k) → x.heldTrigger ≠ none → exec (.capTrigger t engine e) s =
              .next (s.withDev ((d'.bump (Obj.capOverruns k)).overrun (s.dev.val (Obj.capTriggerChannel k)))))))
        ∧ (d.capRun k e).start % 2 = 0 ∧ e + s.dev.val (Obj.capDelay k) ≤ (d.capRun k e).start)
    ∧ (∀ (engine : Fin 8) stored held adc r,
        let k := engine.val
        let x := s.dev.capture k
        let n := d.captureStored k r x.follow.head? stored
        x.run = some r →
        (d.now < r.lastAt n → ∃ s', exec (.capEnd t engine stored held adc) s = .next s' ∧ (s'.dev.capture k).run = some r)
        ∧ (r.lastAt n ≤ d.now →
          let record := capRecord k r x.seq n (decide (n < r.taken x.follow.head?)) ((captureCodes r.source n held adc).2.any clippedCode)
            (d.captureContent r n held adc)
          ∃ s', exec (.capEnd t engine stored held adc) s = .next s' ∧ (s'.dev.capture k).seq = wrap 32 (x.seq + 1)
            ∧ (∀ f fs, x.follow = f :: fs → (s'.dev.capture k).run = some f ∧ (s'.dev.capture k).follow = fs)
            ∧ (x.follow = [] → x.heldTrigger = none → (s'.dev.capture k).run = none
                ∧ (s'.dev.capture k).armed = (x.armDue || (x.armed && s.dev.val (Obj.capMode k) = 1)))
            ∧ (domLength (d.ringBlock (96 + k)) = 0 → s'.mem = s.mem ∧ (s'.dev.capture k).waiting = [])
            ∧ (domLength (d.ringBlock (96 + k)) ≠ 0 → d.ringReach (96 + k) = false → s'.mem = s.mem ∧ (s'.dev.capture k).waiting = [])
            ∧ (domLength (d.ringBlock (96 + k)) ≠ 0 → d.ringReach (96 + k) = true → x.waiting = [] →
              (∀ p, d.ringPut (96 + k) record = some p → s'.mem = s.mem.apply p.2 ∧ (s'.dev.capture k).waiting = []
                ∧ s'.dev.val (Obj.capRecords k) = wrap 64 (s.dev.val (Obj.capRecords k) + 1))
              ∧ (d.ringPut (96 + k) record = none → s'.mem = s.mem ∧ (s'.dev.capture k).waiting = [record]))))
    ∧ (∀ (group : Fin 64) r,
        let g := group.val
        let ring := s.dev.val (Obj.sheafRing g)
        let closed := ({ d with shots := s.dev.shots.filter (fun x => !(x.group = g && x.shot = r.shot)), closed := s.dev.closed ++ [r] } : Dev)
        s.dev.shots.find? (fun x => x.group = g) = some r →
        (d.now < r.stop + 10000 → exec (.sheafClose t group) s = .next (s.withDev d))
        ∧ (r.stop + 10000 ≤ d.now → domLength ring = 0 → exec (.sheafClose t group) s = .next (s.withDev closed))
        ∧ (r.stop + 10000 ≤ d.now → domLength ring ≠ 0 → regionOwner (d.region (domRegion ring)) = d.laneOwner (r.members.head?.getD 0) →
            exec (.sheafClose t group) s = .next (s.withDev
              { closed with sheaves := SMap.set closed.sheaves g (SMap.look closed.sheaves g [] ++ [d.sheafBytes r]) })))
    ∧ (∀ (group : Fin 64) b bs,
        let g := group.val
        let mine := fun (x : List Byte) => domLength (s.dev.val (Obj.sheafRing g)) ≠ 0 ∧ d.ringOwner g = field x 33 1
        SMap.look s.dev.sheaves g [] = b :: bs →
        let taken := ({ d with sheaves := SMap.set s.dev.sheaves g bs } : Dev)
        (∀ c q qs, d.follower g = some c → (s.dev.dmaCh c).queue = q :: qs → (((q :: qs).map List.length).sum + b.length ≤ 65536) →
          let queued := taken.setDma c { s.dev.dmaCh c with queue := q :: qs ++ [b] }
          (mine q → queued.ringPut g (sealSheaf q (SMap.look s.dev.sheafLostNow g 0)) = none → exec (.sheafWrite t group) s = .next (s.withDev queued))
          ∧ (∀ p, mine q → queued.ringPut g (sealSheaf q (SMap.look s.dev.sheafLostNow g 0)) = some p →
            ∃ s', exec (.sheafWrite t group) s = .next s' ∧ (s'.dev.dmaCh c).queue = qs ++ [b] ∧ SMap.look s'.dev.sheaves g [] = bs
              ∧ s'.mem = s.mem.apply p.2))
        ∧ ((∀ c, d.follower g = some c → (s.dev.dmaCh c).queue = []) →
          (domLength (s.dev.val (Obj.sheafRing g)) ≠ 0 → d.ringOwner g ≠ field b 33 1 → exec (.sheafWrite t group) s = .next (s.withDev (taken.loseSheaf g)))
          ∧ (∀ p, mine b → taken.ringPut g (sealSheaf b (SMap.look s.dev.sheafLostNow g 0)) = some p →
            exec (.sheafWrite t group) s = .next { s.withDev (({ p.1 with sheafLostNow := SMap.set p.1.sheafLostNow g 0 } : Dev).bump64 (Obj.sheafWritten g)) with
              mem := s.mem.apply p.2 })
          ∧ (mine b → taken.ringPut g (sealSheaf b (SMap.look s.dev.sheafLostNow g 0)) = none →
            (d.follower g = none → exec (.sheafWrite t group) s = .next (s.withDev (taken.loseSheaf g)))
            ∧ (∀ c, d.follower g = some c →
              (b.length ≤ 65536 → exec (.sheafWrite t group) s = .next (s.withDev (taken.setDma c { s.dev.dmaCh c with queue := [b] })))
              ∧ (65536 < b.length → exec (.sheafWrite t group) s = .next (s.withDev (taken.loseSheaf g)))))))

/-! ### DDR5 (R304–R324) -/

/-- Trained channels that are fitted alike give their capacity (R305), and cleared memory reads 0 everywhere in it (R308). A channel serves what it
has of the request the arbiter names and reports what its error code found; with the last part the request is counted once in its class, and a read
that could not be corrected refuses its commit or ends its job (R306, R307, R314, R316, R323). A bank's refresh is issued or postponed (R322), and a
channel reports its ranks' heat (R324). -/
def Obligations.MemoryStartsAndServes : Prop :=
  ∀ (t : Nat) (s : State), s.Runs →
    let d := s.devAt t
    (∀ channels, s.dev.val Obj.memState = 1 → channelsOk channels = true →
        ∃ s', exec (.memoryTrainingComplete t channels) s = .next s' ∧ s'.dev.val Obj.memState = 2
          ∧ s'.dev.val Obj.memCapacity = 4096 * bits (channels.head?.getD 0) 7 0 ∧ s'.mem = s.mem ∧ s'.dev.drills = s.dev.drills)
    ∧ (∀ channels, s.dev.val Obj.memState = 1 → channelsOk channels = false →
        ∃ s', exec (.memoryTrainingComplete t channels) s = .next s' ∧ s'.dev.val Obj.memState = 4 ∧ bit s'.dev.faults.sticky 116 = true
          ∧ s'.mem = s.mem)
    ∧ (s.dev.val Obj.memState = 2 →
        ∃ s', exec (.memoryClearComplete t) s = .next s' ∧ s'.dev = d.put Obj.memState 3
          ∧ ∀ a, s'.mem.byte a = if a < s.dev.val Obj.memCapacity * 2 ^ 21 then 0 else s.mem.byte a)
    ∧ (∀ (channel : Fin 8) ecc n p,
        let r := p.req
        let ch := channel.val
        let found := r.use.meets ecc
        let late := p.late || r.bound < d.now - r.arrived
        let bad := p.bad || found = .uncorrectable
        let served := d.partServed ch n p late bad
        let count := Obj.memClassCount (3 * (r.cls - 1) + if late || r.demoted then 1 else 0)
        d.serves ch = some (n, p) → 1 ≤ r.cls → r.cls ≤ 4 →
        ∃ s', exec (.ddrTransaction t channel ecc) s = .next s' ∧ s'.mem = s.mem
          ∧ (r.lane = none ∨ r.line = none ∨ bad = false →
            s'.dev.memctl = served.memctl
              ∧ (n = 1 → s'.dev.val Obj.memHostForced = wrap 64 (s.dev.val Obj.memHostForced + 1))
              ∧ (served.partsLeft r.id = false → s'.dev.val count = wrap 64 (s.dev.val count + 1))
              ∧ (served.partsLeft r.id = true → s'.dev.val count = s.dev.val count ∧ s'.dev.drills = s.dev.drills))
          ∧ (found = .corrected → s'.dev.val (Obj.memEccCorrected ch) = wrap 64 (s.dev.val (Obj.memEccCorrected ch) + 1))
          ∧ (found = .retried → s'.dev.val (Obj.memEccRetries ch) = wrap 32 (s.dev.val (Obj.memEccRetries ch) + 1))
          ∧ (found = .uncorrectable → r.lane = none ∨ r.line = none →
            s'.dev.val (Obj.memEccUncorrected ch) = wrap 32 (s.dev.val (Obj.memEccUncorrected ch) + 1) ∧ bit s'.dev.faults.sticky 117 = true)
          ∧ (served.partsLeft r.id = false →
            (∀ l k, r.lane = some l → r.line = some k → bad = false →
              SMap.find (s'.dev.drill l).lines k = some (grainsOf (s.mem.bytes r.address r.bytes) 64))
            ∧ (∀ l, r.lane = some l → r.line = none →
              (s'.dev.drill l).streamPos = ((s.dev.drill l).refilled (r.place, r.bytes / 18)).streamPos)
            ∧ (∀ key, r.lane = none → r.use = .load key → bad = true → (s.dev.commitOf key).status = 2 →
              (s'.dev.commitOf key).status = 4 ∧ (s'.dev.commitOf key).reason = 9)
            ∧ (∀ q o, r.lane = none → r.use = .bale q o → bad = true → ∀ j ∈ s'.dev.jobs q, j.offset = o → j.started = true → j.ended = false →
              j.status = 7 ∧ j.writes = [])))
    ∧ (∀ (channel : Fin 8) bank,
        let key := 64 * channel.val + bank % 64
        let owed := fun (n : Nat) => ({ d with memctl := { d.memctl with owed := SMap.set d.memctl.owed key n } } : Dev)
        let waits := d.bankWanted channel.val bank
        (waits = false → ∀ limit, exec (.dramRefresh t channel bank limit) s = .next (s.withDev (owed 0)))
        ∧ (waits = true → exec (.dramRefresh t channel bank false) s = .next (s.withDev (owed (SMap.look s.dev.memctl.owed key 0 + 1))))
        ∧ (waits = true → exec (.dramRefresh t channel bank true) s = .next (s.withDev ((owed 0).bump (Obj.memRefreshForced channel.val)))))
    ∧ (∀ (channel : Fin 8) (worst : Fin 3),
        ∃ s', exec (.mr4Poll t channel worst) s = .next s' ∧ s'.dev.val (Obj.memDramTemp channel.val) = worst.val
          ∧ (worst.val = 2 → SMap.look s.dev.memctl.hot channel.val false = false → bit s'.dev.faults.sticky 118 = true) ∧ s'.mem = s.mem)

/-! ### Bales (chapter 14) -/

/-- What a compress job writes for the whole of its input decodes to that input again, whatever the encoder's choices (R335, R343). -/
def Obligations.CompressedBalesDecodeToTheirInput : Prop :=
  ∀ (delta storedOnly : Bool) (effort label cap : Nat) (input out : List Byte) (covered : Nat), input.length ≤ 65536 →
    baleEncode delta storedOnly effort label cap input = some (out, covered, 1) →
    covered = input.length ∧ out.length ≤ cap ∧ baleDecode out = .content input

/-- A tail write submits the descriptors it passes (R349); a free unit of the right kind takes the oldest job it may and runs it as its
descriptor says, with status 11, 6 or 7 when the descriptor is bad, a block is out of reach or memory fails (R339–R347, Table 14-6); the job ends
with what it writes and its status word written and the queue's head moved on (R341, R342). A bale that a commit load waits for goes before any job
(R338), and one that cannot be decoded refuses the commit (R348). -/
def Obligations.BaleJobsAreTakenRunAndEnded : Prop :=
  ∀ (t : Nat) (queue : Part) (offset : Nat) (s : State), s.Runs →
    let d := s.devAt t
    let q := queue.val
    let x := d.descriptor s.mem q offset
    let runs := fun (c : Bool → Instr) (op : Nat) (blocks : List Nat) (r : JobResult) =>
      (x.op = op ∨ x.op = 0 ∨ 4 < x.op) → (∃ u, d.freeUnit (op = 1) = some u) →
      d.mayStart s.mem q offset (fun n => (n = 0 || 4 < n) || (if op = 1 then n = 1 else n != 1)) = true →
      (op = 1 ∨ s.dev.baleWaits = []) →
      (d.descriptorOk q x = true → (∀ v ∈ blocks, d.blockOk q v = true) →
        (∃ s', exec (c true) s = .next s' ∧ s'.mem = s.mem
          ∧ (∀ j ∈ s'.dev.jobs q, j.offset = offset → j.started = true ∧ j.ended = false ∧ j.status = r.status ∧ j.consumed = r.consumed
              ∧ j.produced = r.produced ∧ j.writes = r.writes.map (fun w => (d.domAddr w.1, w.2)))
          ∧ s'.dev.drills = s.dev.drills)
        ∧ (∃ s', exec (c false) s = .next s' ∧ s'.mem = s.mem ∧ ∀ j ∈ s'.dev.jobs q, j.offset = offset → j.status = 7))
      ∧ (d.descriptorOk q x = true → (∃ v ∈ blocks, d.blockOk q v = false) →
        ∃ s', exec (c true) s = .next s' ∧ s'.mem = s.mem ∧ ∀ j ∈ s'.dev.jobs q, j.offset = offset → j.status = 6)
      ∧ (d.descriptorOk q x = false →
        ∃ s', exec (c true) s = .next s' ∧ s'.mem = s.mem ∧ ∀ j ∈ s'.dev.jobs q, j.offset = offset → j.status = 11)
    (∀ path value, s.Admits t path (Obj.baleQueueTail q) value →
        valueFits (Obj.baleQueueTail q) value →
        let len := domLength (s.dev.val (Obj.baleQueueRing q))
        let head := s.dev.val (Obj.baleQueueHead q)
        let tail := s.dev.val (Obj.baleQueueTail q)
        (value % 64 = 0 → value < len → (tail + len - head) % len ≤ (value + len - head) % len →
          exec (.baleQueueTailWrite t path queue value) s = .next (s.withDev (((d.put (Obj.baleQueueTail q) value).setJobs q
            (d.jobs q ++ (ringSteps len ((value + len - tail) % len / 64) tail).map BaleJob.submit)).answerWrite path (Obj.baleQueueTail q) 0)))
        ∧ (value % 64 ≠ 0 → exec (.baleQueueTailWrite t path queue value) s =
            .next (s.withDev (d.answerWrite path (Obj.baleQueueTail q) 0x06090030))))
    ∧ runs (.baleCompress t queue offset) 1 [x.input, x.output] (d.compressJob s.mem x)
    ∧ runs (.baleDecompress t queue offset) 2 [x.input, x.output, x.state] (d.decompressJob s.mem x)
    ∧ runs (.baleResumeDecompress t queue offset) 3 [x.input, x.output, x.state] (d.resumeJob s.mem x)
    ∧ runs (.baleCheckOnly t queue offset) 4 [x.input] (d.checkJob s.mem x)
    ∧ (∀ j, (d.jobs q).find? (fun j => j.offset = offset && j.started && !j.ended) = some j → j.status = 1 →
        ∃ s', exec (.baleJobEnd t queue offset) s = .next s'
          ∧ s'.mem = s.mem.apply (j.writes.map (fun w => MemOp.put w.1 w.2)
              ++ [.put (d.domAddr (s.dev.val (Obj.baleQueueRing q)) + offset + 56) (leBytes 8 j.word)])
          ∧ s'.dev.val (Obj.baleJobsDone q) = wrap 64 (s.dev.val (Obj.baleJobsDone q) + 1)
          ∧ (∀ k rest, s'.dev.jobs q = k :: rest → k.ended = false ∧ s'.dev.val (Obj.baleQueueHead q) = k.offset)
          ∧ (s'.dev.jobs q = [] → s'.dev.val (Obj.baleQueueHead q) = s.dev.val (Obj.baleQueueTail q)))
    ∧ (∀ (lane : Lane) region off memOk w,
        let mine := fun (w : BaleWait) =>
          (w.commit = Obj.laneProgCommit lane.val || w.commit = Obj.laneWaveCommit lane.val) && w.region = region && w.offset = off
        let bs := d.baleAt s.mem region off
        s.dev.baleWaits.find? mine = some w → d.freeUnit false ≠ none →
        (memOk = true → (∃ content, baleDecode bs = .content content) →
          ∃ s', exec (.baleLoadDecode t lane region off memOk) s = .next s' ∧ s'.dev.commits = s.dev.commits
            ∧ s'.dev.baleWaits = s.dev.baleWaits.erase w ∧ s'.dev.val Obj.baleLoadDecodes = wrap 64 (s.dev.val Obj.baleLoadDecodes + 1)
            ∧ s'.dev.drills = s.dev.drills ∧ s'.mem = s.mem)
        ∧ (memOk = false ∨ (∃ status, baleDecode bs = .bad status) →
          ∃ s', exec (.baleLoadDecode t lane region off memOk) s = .next s' ∧ (s'.dev.commitOf w.commit).status = 4
            ∧ (s'.dev.commitOf w.commit).reason = 9 ∧ (s'.dev.drill lane.val).held = false ∧ s'.mem = s.mem))

/-! ### PCI Express (R350–R365, R372) -/

/-- A link that trains shows its rate and width (R350), and a function its identity (Table 15-1); a retrain, link-down, PE_PERST and hot reset
idle every mailbox and end SR-IOV (R352–R354, R483), a function-level reset idles one and leaves the others, and an unmasked vector sends what
was pending (R364). -/
def Obligations.LinkEventsResetTheFunctions : Prop :=
  ∀ (t : Nat) (s : State), s.Runs →
    let d := s.devAt t
    let down := fun (s' : State) =>
      s'.dev.val Obj.pcieLinkState = 0 ∧ s'.dev.val Obj.pcieNumVfs = 0 ∧ (∀ f, f < 9 → (s'.dev.fn f).mailbox = 0)
        ∧ bit s'.dev.faults.sticky 129 = true ∧ s'.mem = s.mem
    (∀ rate width, 1 ≤ rate → rate ≤ 5 → (width = 1 ∨ width = 2 ∨ width = 4 ∨ width = 8) →
        ∃ s', exec (.pcieLinkUp t rate width) s = .next s' ∧ s'.dev.val Obj.pcieLinkState = 2 ∧ s'.dev.val Obj.pcieLinkRate = rate
          ∧ s'.dev.val Obj.pcieLinkWidth = width ∧ s'.dev.val Obj.pcieDegraded = ofBool (rate < 5 || width < 8)
          ∧ (s.dev.val Obj.pcieLinkState = 2 → s'.dev.val Obj.pcieNumVfs = 0 ∧ ∀ f, f < 9 → (s'.dev.fn f).mailbox = 0)
          ∧ s'.dev.drills = s.dev.drills ∧ s'.mem = s.mem)
    ∧ (s.dev.val Obj.pcieLinkState ≠ 0 →
        (∃ s', exec (.pcieLinkDown t) s = .next s' ∧ down s') ∧ (∃ s', exec (.pePerstAssert t) s = .next s' ∧ down s'))
    ∧ (s.dev.val Obj.pcieLinkState = 2 →
        (∃ s', exec (.pcieHotReset t) s = .next s' ∧ s'.dev.val Obj.pcieLinkState = 2 ∧ s'.dev.val Obj.pcieNumVfs = 0
          ∧ (∀ f, f < 9 → (s'.dev.fn f).mailbox = 0) ∧ s'.mem = s.mem)
        ∧ (∀ fn : Fn, fn.val ≤ s.dev.val Obj.pcieNumVfs →
          ∃ s', exec (.functionLevelReset t fn) s = .next s' ∧ (s'.dev.fn fn.val).mailbox = 0 ∧ (s'.dev.fn fn.val).masked = 2 ^ 64 - 1
            ∧ (s'.dev.fn fn.val).stale = (s.dev.fn fn.val).stale ++ (if (s.dev.fn fn.val).mailbox = 1 then [(s.dev.fn fn.val).request] else [])
            ∧ (s'.dev.fn fn.val).bars = [0, 0, 0] ∧ (∀ g, fn.val ≠ 0 → g ≠ fn.val → s'.dev.fn g = s.dev.fn g)
            ∧ (fn.val = 0 → s'.dev.val Obj.pcieNumVfs = 0 ∧ ∀ g, g ≤ s.dev.val Obj.pcieNumVfs → (s'.dev.fn g).mailbox = 0) ∧ s'.mem = s.mem)
        ∧ (∀ n, n ≤ 8 → ∃ s', exec (.sriovVfEnable t (.setVfs n)) s = .next s' ∧ s'.dev.val Obj.pcieNumVfs = n ∧ s'.mem = s.mem
            ∧ ∀ f, n < f → f ≤ s.dev.val Obj.pcieNumVfs → f < 9 → (s'.dev.fn f).mailbox = 0)
        ∧ (∀ (fn : Fn), fn.val ≤ s.dev.val Obj.pcieNumVfs →
          exec (.sriovVfEnable t (.read fn)) s = .next (s.withDev
            (d.emit (.config fn.val 0x1FA7 (if fn.val = 0 then 0x5120 else 0x5121) 0x120000 (s.dev.fn fn.val).bars))))
        ∧ (∀ (fn : Fn) (v : Fin 64), fn.val ≤ s.dev.val Obj.pcieNumVfs →
          let x := s.dev.fn fn.val
          let open' := d.setFn fn.val { x with masked := putBit x.masked v.val false, pending := putBit x.pending v.val false }
          (bit x.pending v.val = true → exec (.msixVectorUnmask t fn ⟨v, 12, 4, 0⟩) s = .next (s.withDev (open'.emit (.msix fn.val v.val))))
          ∧ (bit x.pending v.val = false → exec (.msixVectorUnmask t fn ⟨v, 12, 4, 0⟩) s = .next (s.withDev open'))))

/-- A channel's tail is written by its function (R360); a copy moves a descriptor's bytes to or from the host and ends it with its status (R361,
R363), a follow channel keeps up with its ring (R362), and an idle channel changes owner (R372). An access through BAR2 reads or writes the
function's region, or is refused and counted (R358). -/
def Obligations.DmaAndTheApertureMoveData : Prop :=
  ∀ (t : Nat) (s : State), s.Runs →
    let d := s.devAt t
    (∀ (fn : Fn) (channel : Fin 16) v, d.hostOpen fn.val = true → d.dmaOwner channel.val = fn.val →
        s.dev.val (Obj.pcieDmaMode channel.val) = 0 → v < d.dmaEntries channel.val →
        exec (.dmaTailWrite t fn channel v) s =
          .next (s.withDev (d.setDma channel.val { s.dev.dmaCh channel.val with tail := v, halted := false })))
    ∧ (∀ (channel : Fin 16) b,
        let c := channel.val
        let v := field b 16 16
        d.dmaReady c = true → d.copyStatus c b = 0 →
        (field b 0 1 = 1 →
          exec (.dmaCopyToHost t channel b true true) s = .next (s.withDev
            ((((d.ddrAsk 4 (d.dmaOwner c) (domRegion v) (domOffset v) (domLength v) .read).used).emit
              (.hostWrite (d.dmaOwner c) (field b 8 8) (s.mem.bytes (d.domAddr v) (domLength v)))).endDescriptor c (field b 1 1) 1 (domLength v))))
        ∧ (∀ hostOk memOk, field b 0 1 = 1 → hostOk = false ∨ memOk = false →
          ∃ s', exec (.dmaCopyToHost t channel b hostOk memOk) s = .next s' ∧ (s'.dev.dmaCh c).head = ((d.dmaCh c).head + 1) % d.dmaEntries c
            ∧ s'.dev.drills = s.dev.drills ∧ s'.mem = s.mem)
        ∧ (∀ data, field b 0 1 = 2 → data.length = domLength v →
          exec (.dmaCopyFromHost t channel b data true) s = .next
            { s.withDev ((d.ddrAsk 4 (d.dmaOwner c) (domRegion v) (domOffset v) data.length .write).endDescriptor c (field b 1 1) 1 data.length) with
              mem := s.mem.putBytes (d.domAddr v) data }))
    ∧ (∀ (channel : Fin 16),
        let c := channel.val
        let x := s.dev.dmaCh c
        let k := s.dev.val (Obj.pcieDmaFollow c)
        let ring := d.ringBlock k
        s.dev.val (Obj.pcieDmaMode c) = 1 → k < 104 → x.halted = false → d.hostOpen (d.dmaOwner c) = true → s.dev.val (Obj.pcieDmaRingBytes c) ≠ 0 →
        x.followed ≠ s.dev.val (ringKeys k).2.1 → d.hostReach (d.dmaOwner c) (domRegion ring) (domOffset ring) (domLength ring) false = true →
        ∃ s', exec (.dmaFollowCopy t channel) s = .next s' ∧ (s'.dev.dmaCh c).followed = s.dev.val (ringKeys k).2.1
          ∧ s'.dev.drills = s.dev.drills ∧ s'.mem = s.mem)
    ∧ (∀ (channel : Fin 16) (path : Path) v,
        let c := channel.val
        let key := Obj.pcieDmaOwner c
        s.Admits t path key v →
        valueFits key v →
        (d.dmaState c ≠ 0 → exec (.pcieDmaOwnerWrite t path channel v) s = .next (s.withDev (d.answerWrite path key 0xA0000004)))
        ∧ (d.dmaState c = 0 → ∃ s', exec (.pcieDmaOwnerWrite t path channel v) s = .next s' ∧ s'.dev.dmaOwner c = v
            ∧ s'.dev.drills = s.dev.drills ∧ s'.mem = s.mem))
    ∧ (∀ (fn : Fn) offset,
        let f := fn.val
        let a := d.aperture f offset
        s.dev.val Obj.pcieLinkState = 2 → f ≤ s.dev.val Obj.pcieNumVfs →
        (∀ length memOk, offset + length ≤ 2 ^ 28 → d.hostOpen f = true → d.hostReach f a.1 a.2 length false = true →
          let asked := d.ddrAsk 4 f a.1 a.2 length .read
          exec (.bar2Read t fn offset length memOk) s = .next (s.withDev ((if memOk then asked else asked.memFail (d.regionAddr a.1 a.2)).emit
            (.bar2 f (some (s.mem.bytes (d.regionAddr a.1 a.2) length)) (!memOk)))))
        ∧ (∀ data : List Byte, offset + data.length ≤ 2 ^ 28 → d.hostOpen f = true → d.hostReach f a.1 a.2 data.length true = true →
          exec (.bar2Write t fn offset data) s = .next
            { s.withDev (d.ddrAsk 4 f a.1 a.2 data.length .write) with mem := s.mem.putBytes (d.regionAddr a.1 a.2) data })
        ∧ (∀ length memOk, offset + length ≤ 2 ^ 28 → d.hostReach f a.1 a.2 length false = false →
          exec (.bar2Read t fn offset length memOk) s = .next (s.withDev ((d.refuseAperture a.1).emit (.bar2 f none false))))
        ∧ (∀ data : List Byte, offset + data.length ≤ 2 ^ 28 → d.hostReach f a.1 a.2 data.length true = false →
          exec (.bar2Write t fn offset data) s = .next (s.withDev (d.refuseAperture a.1))))

/-! ### The CAN FD port (R366–R371) -/

/-- An NMT command to this node moves CanNmtState, while the CAN write mask lets it (R55; that bit 1 covers these services is the model's
reading, log entry 52); a reset command starts the port anew, pre-operational, and resets nothing else; one for another node does nothing
(R368). A classical frame is discarded (R366). Heartbeats and emergency messages go out when due, in every state but stopped (R369, R370).
Each bus-off is counted and ends when the port rejoins the bus (R371). -/
def Obligations.TheCanPortFollowsItsBus : Prop :=
  ∀ (t : Nat) (s : State), s.Runs →
    let d := s.devAt t
    (∀ node, d.nmtMine node = true →
        (bit (s.dev.val Obj.devCanWriteMask) 1 = true →
          exec (.nmtStart t node) s = .next (s.withDev (d.put Obj.canNmtState 5))
          ∧ exec (.nmtStop t node) s = .next (s.withDev (d.put Obj.canNmtState 4))
          ∧ exec (.nmtEnterPreOperational t node) s = .next (s.withDev (d.put Obj.canNmtState 127)))
        ∧ (bit (s.dev.val Obj.devCanWriteMask) 1 = false →
          exec (.nmtStart t node) s = .next (s.withDev d) ∧ exec (.nmtStop t node) s = .next (s.withDev d)
          ∧ exec (.nmtEnterPreOperational t node) s = .next (s.withDev d))
        ∧ ∃ s', exec (.nmtResetCommunication t node) s = .next s' ∧ exec (.nmtResetNode t node) s = .next s'
          ∧ s'.dev.val Obj.canNmtState = 127 ∧ s'.dev.can.nodeId = s.dev.val Obj.canNodeId ∧ s'.dev.can.transfer = none
          ∧ s'.dev.out = s.dev.out ++ [.can (0x700 + s.dev.val Obj.canNodeId) [0]]
          ∧ s'.dev.power = s.dev.power ∧ s'.dev.drills = s.dev.drills ∧ s'.mem = s.mem)
    ∧ (∀ node, d.nmtMine node = false →
        exec (.nmtStart t node) s = .next (s.withDev d) ∧ exec (.nmtStop t node) s = .next (s.withDev d)
        ∧ exec (.nmtEnterPreOperational t node) s = .next (s.withDev d) ∧ exec (.nmtResetCommunication t node) s = .next (s.withDev d)
        ∧ exec (.nmtResetNode t node) s = .next (s.withDev d))
    ∧ (∀ id data, exec (.classicalCanFrame t id data) s = .next (s.withDev d))
    ∧ (let state := s.dev.val Obj.canNmtState
      let period := s.dev.val Obj.heartbeatTime * 10000000
      (d.canOn = true → period ≠ 0 → state ≠ 4 → (∀ b, s.dev.can.lastBeat = some b → b + period ≤ d.now) →
          exec (.heartbeat t) s = .next (s.withDev
            (({ d with can := { d.can with lastBeat := some d.now } } : Dev).emit (.can (0x700 + d.can.nodeId) (leBytes 1 state)))))
      ∧ (d.canOn = false ∨ period = 0 ∨ state = 4 ∨ (∃ b, s.dev.can.lastBeat = some b ∧ d.now < b + period) →
          exec (.heartbeat t) s = .next (s.withDev d))
      ∧ (∀ code register source time rest, s.dev.can.emcy = (code, register, source, time) :: rest →
          (d.canOn = true → state ≠ 4 → (∀ b, s.dev.can.lastEmcy = some b → b + 100000000 ≤ d.now) →
            exec (.emcySend t) s = .next (s.withDev
              (({ d with can := { d.can with emcy := rest, lastEmcy := some d.now } } : Dev).emit (.emcy (0x80 + d.can.nodeId) code register source time))))
          ∧ (d.canOn = false ∨ state = 4 ∨ (∃ b, s.dev.can.lastEmcy = some b ∧ d.now < b + 100000000) →
            exec (.emcySend t) s = .next (s.withDev d))))
    ∧ (s.dev.val Obj.canBusState ≠ 2 → exec (.canBusOff t) s = .next (s.withDev ((d.put Obj.canBusState 2).bump Obj.canBusOffCount)))
    ∧ (s.dev.val Obj.canBusState = 2 → exec (.canBusOffRecovery t) s = .next (s.withDev (d.put Obj.canBusState 0)))

/-! ### Gargor ports (chapter 16) -/

/-- Markers set lane order and their parity is checked, skips move the elastic buffer, credits release waiting frames (R374–R377, R381).
Capability is acknowledged when every lane has heard it three times, and both acknowledgements bring the port up; another version or this device's
own serial number fails it (R390). Training requests move one tap within its limits (R391, R392); Retrain and Rest stripes are followed (R393, R397). -/
def Obligations.GargorBlocksSteerTheirPort : Prop :=
  ∀ (t : Nat) (port : Port) (s : State), s.Runs →
    let d := s.devAt t
    let p := port.val
    let x := s.dev.port p
    let state := s.dev.val (Obj.ggPortState p)
    (∀ (lane : Fin 4) number (parity : MarkerParity) arrival, state ≠ 0 →
        let e := d.setPort p { x with
          laneNumbers := SMap.set x.laneNumbers lane.val (number % 4), arrivals := SMap.set x.arrivals lane.val arrival
          frozen := !x.heard, heard := false }
        exec (.markerBlockReceive t port lane number parity arrival) s =
          .next (s.withDev (if parity.bip = parity.computed then e else e.bump (Obj.ggBipErrors p))))
    ∧ (∀ fill : Int, state ≠ 0 →
        (0 < fill → exec (.skipBlockReceive t port fill) s = .next (s.withDev (d.setPort p { x with elastic := fill - 1 })))
        ∧ (fill < 0 → exec (.skipBlockReceive t port fill) s = .next (s.withDev (d.setPort p { x with elastic := fill + 1 })))
        ∧ (fill = 0 → exec (.skipBlockReceive t port fill) s = .next (s.withDev (d.setPort p { x with elastic := 0 }))))
    ∧ (∀ n, state = 4 →
        exec (.creditBlockReceive t port 4 n) s = .next (s.withDev (s.dev.seal ((d.setPort p { x with credit4 := x.credit4 + n }).drainPort p)))
        ∧ exec (.creditBlockReceive t port 5 n) s =
          .next (s.withDev (s.dev.seal ((d.setPort p { x with credit5 := x.credit5 + n }).drainPort p))))
    ∧ (∀ (lane : Fin 4) (block : CapabilityBlock), state = 2 →
        let plain := { block with ack := false }
        let seen := if x.capLast = some plain then x.capSeen else []
        let seen' := SMap.set seen lane.val (SMap.look seen lane.val 0 + 1)
        let all := (List.range 4).all (fun l => 3 ≤ SMap.look seen' l 0)
        let agreed := min (s.dev.val (Obj.ggMaxRate p)) block.maxRate
        let good := block.version = 1 ∧ block.serial ≠ wrap 24 Config.serialNumber
        (¬good → exec (.capabilityBlockReceive t port lane block) s = .next (s.withDev (s.dev.seal ((d.setPortState p 8).raise (130 + p) true))))
        ∧ (good → (block.ack = false ∨ all = false ∨ agreed = 0) →
          exec (.capabilityBlockReceive t port lane block) s = .next (s.withDev
            ((d.setPort p { x with capSeen := seen', capLast := some plain, ackSent := all, partnerRest := block.rest, agreed := agreed }).put
              (Obj.ggPartnerSerial p) (wrap 24 block.serial))))
        ∧ (good → block.ack = true → all = true → agreed = 1 →
          ∃ s', exec (.capabilityBlockReceive t port lane block) s = .next s' ∧ s'.dev.val (Obj.ggPortState p) = 4 ∧ s'.dev.val (Obj.ggRate p) = 1
            ∧ s'.mem = s.mem)
        ∧ (good → block.ack = true → all = true → 1 < agreed →
          ∃ s', exec (.capabilityBlockReceive t port lane block) s = .next s' ∧ s'.dev.val (Obj.ggPortState p) = 3
            ∧ (s'.dev.port p).training = 2 ∧ (s'.dev.port p).agreed = agreed ∧ s'.mem = s.mem))
    ∧ (∀ (lane : Fin 4) (block : TrainingBlock), state = 3 ∨ state = 7 → block.rate = x.training →
        let tap := 4 * block.rate + lane.val
        let now := d.tapsAt p block.rate lane.val
        let up := (now.1 + 1, now.2.1, now.2.2)
        (∃ s', exec (.trainingBlockReceive t port lane block) s = .next s' ∧ (s'.dev.port p).partnerReady = block.ready
          ∧ (s'.dev.port p).frozen = false ∧ (∀ q, q ≠ p → s'.dev.port q = s.dev.port q) ∧ s'.dev.drills = s.dev.drills ∧ s'.mem = s.mem)
        ∧ (block.reqPre = 1 → block.reqMain = 0 → block.reqPost = 0 → SMap.look x.tapReqs lane.val 0 = 0 → d.fixedTaps p lane.val = 0 →
          ∃ s', exec (.trainingBlockReceive t port lane block) s = .next s'
            ∧ SMap.find (s'.dev.port p).taps tap = some (if tapsOk up then up else now)
            ∧ SMap.look (s'.dev.port p).tapStatus lane.val 0 = if tapsOk up then 1 else 2)
        ∧ (block.reqPre = 1 → block.reqMain = 0 → block.reqPost = 0 → SMap.look x.tapReqs lane.val 0 = 1 → d.fixedTaps p lane.val = 0 →
          ∃ s', exec (.trainingBlockReceive t port lane block) s = .next s' ∧ SMap.find (s'.dev.port p).taps tap = some now))
    ∧ (∀ rate, state = 4 → ∃ s', exec (.retrainBlockReceive t port rate) s = .next s' ∧ s'.dev.val (Obj.ggPortState p) = 7
        ∧ s'.dev.val (Obj.ggRate p) = 0 ∧ (s'.dev.port p).training = s.dev.val (Obj.ggRate p) ∧ s'.mem = s.mem)
    ∧ (state = 4 ∨ state = 5 →
        exec (.restBlockReceive t port) s = .next (s.withDev (d.setPort p { x with partnerIdle := true, frozen := true })))
    ∧ (state ≠ 0 → state ≠ 5 →
        let e := d.drainPort p
        let per := stripeTime (if state = 4 then s.dev.val (Obj.ggRate p) else x.training)
        exec (.ggMarkerStripeDue t port) s = .next (s.withDev
          (((e.setPort p ((e.port p).marker per (10 * d.now))).stripes p 0x4B 1).stripes p 0x2D 8))
        ∧ ((e.port p).marker per (10 * d.now)).markersSent = x.markersSent + 1)

/-- A frame as it is sent is taken without an error (R378); bad frames, header errors and frames missing in the sequences are counted, and a frame begun inside another is good only where its class pre-empts
(R380, R382); an event frame fires its line's channel at its own time where both devices
are aligned, else at its arrival, and a notice fires its channel (R385, R386). A dictionary request waits on its path or is discarded, a response
ends the remote request (R388), which a doorbell sends and 10 ms without a response end. -/
def Obligations.GargorFramesAreTaken : Prop :=
  ∀ (t : Nat) (port : Port) (s : State), s.Runs →
    let d := s.devAt t
    let p := port.val
    let key := Obj.ggRemoteDoorbell p
    let block := s.dev.val (Obj.ggRemoteBuffer p)
    let quiet : Receiver := { frames := [], fill := false, bad := 0, header := 0 }
    (∀ cls seq (payload : List Byte), 1 ≤ cls → cls ≤ 5 → lengthOk cls payload.length = true → seq < 65536 →
      let r := receive quiet 0 (frameBlocks cls seq payload)
      r.frames = [] ∧ r.bad = 0 ∧ r.header = 0
        ∧ ∃ head rest, frameBlocks cls seq payload = .control head :: rest
          ∧ startBlock head = { cls := cls, length := payload.length, seq := seq, good := true })
    ∧ (s.dev.val (Obj.ggPortState p) = 4 →
      (∀ blocks next,
          let r := receive quiet 0 blocks
          ∃ s', exec (.ggFrameError t port { blocks := blocks, next := next }) s = .next s'
            ∧ s'.dev.val (Obj.ggFrameErrors p) = wrap 32 (s.dev.val (Obj.ggFrameErrors p) + r.bad)
            ∧ s'.dev.val (Obj.ggHeaderErrors p) = wrap 32 (s.dev.val (Obj.ggHeaderErrors p) + r.header)
            ∧ (next = [] → s'.dev.val (Obj.ggFramesLost p) = s.dev.val (Obj.ggFramesLost p))
            ∧ (∀ c n, next = [(c, n)] → SMap.look (s'.dev.port p).rxSeqs c 0 = n
                ∧ s'.dev.val (Obj.ggFramesLost p) =
                  wrap 32 (s.dev.val (Obj.ggFramesLost p) + wrap 16 (n + 65536 - SMap.look (s.dev.port p).rxSeqs c 0)))
            ∧ s'.dev.drills = s.dev.drills ∧ s'.mem = s.mem)
      ∧ (∀ (r : Receiver) f fs (b : StartBlock), r.frames = f :: fs → b.good = true →
          (∀ place, (place = 0 ∧ preempts b.cls f.cls = true) →
            (r.start place b).frames = { cls := b.cls, length := b.length, got := [], bad := false } :: f :: fs)
          ∧ (∀ place, ¬(place = 0 ∧ preempts b.cls f.cls = true) →
            (r.start place b).frames = { cls := b.cls, length := b.length, got := [], bad := true } :: { f with bad := true } :: fs))
      ∧ (∀ f : EventFrame, f.kind = 0 → f.line < 32 →
          let e := d.received p 3
          let ch := e.val (Obj.ggEventIn p f.line)
          (f.void = true → exec (.eventFrameReceive t port f) s = .next (s.withDev (e.bump (Obj.ggEventVoid p))))
          ∧ (f.void = false → 128 ≤ ch → exec (.eventFrameReceive t port f) s = .next (s.withDev e))
          ∧ (f.void = false → ch < 128 → f.aligned = true → e.aligned = true →
            exec (.eventFrameReceive t port f) s = .next (s.withDev (s.dev.seal (e.fireAt ch { tick := f.time, ps := f.ps } true))))
          ∧ (f.void = false → ch < 128 → (f.aligned = false ∨ e.aligned = false) →
            exec (.eventFrameReceive t port f) s =
              .next (s.withDev (s.dev.seal ((e.fireAt ch { tick := d.now, ps := 0 } true).bump (Obj.ggEventUnaligned p))))))
      ∧ (∀ f : EventFrame, f.kind = 1 ∨ f.kind = 2 →
          exec (.noticeFrameReceive t port f) s = .next (s.withDev (s.dev.seal
            ((d.received p 3).fireAt (s.dev.val Obj.ggNoticeChannel) { tick := d.now, ps := 0 } true))))
      ∧ (∀ record : List Byte, 16 ≤ record.length → record.length ≤ 4096 →
          let e := (d.received p 4).returnCredit p
          let n := 10 + p
          (SMap.find s.dev.outstanding n = none → exec (.dictionaryFrameReceive t port false record) s =
            let here := { e with outstanding := SMap.set e.outstanding n record }
            .next (s.withDev (if 1 ≤ field record 0 1 ∧ field record 0 1 ≤ 5 then here
              else here.respond (.gargor port) (field record 0 1) (field record 1 1) (field record 2 2) (field record 4 1) 0 [] 0x05040001)))
          ∧ (SMap.find s.dev.outstanding n ≠ none →
            exec (.dictionaryFrameReceive t port false record) s = .next (s.withDev (e.bump Obj.devMailboxDiscards)))
          ∧ (e.val (Obj.ggRemoteStatus p) = 1 → exec (.dictionaryFrameReceive t port true record) s = .next
            { s.withDev ((e.put (Obj.ggRemoteStatus p) 2).setPort p { e.port p with remoteSince := none }) with
              mem := s.mem.putBytes (e.domAddr (e.val (Obj.ggRemoteBuffer p)) + 4096) record })
          ∧ (e.val (Obj.ggRemoteStatus p) ≠ 1 → exec (.dictionaryFrameReceive t port true record) s = .next (s.withDev e))))
    ∧ (∀ path, s.Admits t path key 1 →
        (s.dev.val (Obj.ggRemoteStatus p) = 1 ∨ domLength block = 0 →
          exec (.ggRemoteDoorbell t path port) s = .next (s.withDev (d.answerWrite path key 0x08000022)))
        ∧ (s.dev.val (Obj.ggRemoteStatus p) ≠ 1 → domLength block ≠ 0 → s.dev.val (Obj.ggPortState p) ≠ 4 →
          exec (.ggRemoteDoorbell t path port) s = .next (s.withDev ((d.put (Obj.ggRemoteStatus p) 4).answerWrite path key 0)))
        ∧ (s.dev.val (Obj.ggRemoteStatus p) ≠ 1 → domLength block ≠ 0 → s.dev.val (Obj.ggPortState p) = 4 →
          let base := d.domAddr block
          exec (.ggRemoteDoorbell t path port) s = .next (s.withDev (s.dev.seal
            ((((d.put (Obj.ggRemoteStatus p) 1).setPort p { s.dev.port p with remoteSince := some d.now }).sendFrame p 4
              (s.mem.bytes base (min 4096 (16 + field (s.mem.bytes base 16) 8 4)))).answerWrite path key 0)))))
    ∧ (s.dev.val (Obj.ggRemoteStatus p) = 1 → (∃ b, (s.dev.port p).remoteSince = some b ∧ b + 100000000 ≤ d.now) →
        exec (.ggRemoteTimeout t port) s =
          .next (s.withDev ((d.put (Obj.ggRemoteStatus p) 3).setPort p { s.dev.port p with remoteSince := none })))

/-- A peer's bulk write or read is served from this device's memory, or refused with status 1, or 2 when memory fails; a bulk job starts, takes each
answer to the frame in flight, sends the next part, resends what has no answer for 100 µs, and ends (R389). -/
def Obligations.BulkTransfersRunToTheirEnd : Prop :=
  ∀ (t : Nat) (port : Port) (s : State), s.Runs →
    let d := s.devAt t
    let p := port.val
    let e := (d.received p 5).returnCredit p
    let key := Obj.ggBulkStart p
    (s.dev.val (Obj.ggPortState p) = 4 →
      (∀ region offset (data : List Byte),
          let asked := e.ddrAsk 3 0 region offset data.length .write
          let ack := fun (u : Dev) (status : Nat) => s.dev.seal (u.sendFrame p 5 (bulkFrame 4 status region offset data.length []))
          (e.servesBulk region offset data.length = true →
            exec (.bulkWriteData t port region offset data true) s =
              .next { s.withDev (ack asked 0) with mem := s.mem.putBytes (asked.regionAddr region offset) data }
            ∧ exec (.bulkWriteData t port region offset data false) s = .next (s.withDev (ack asked 2)))
          ∧ (e.servesBulk region offset data.length = false → ∀ memOk,
            exec (.bulkWriteData t port region offset data memOk) s = .next (s.withDev (ack (e.ddrRefuse 3 region) 1))))
      ∧ (∀ region offset length,
          let asked := e.ddrAsk 3 0 region offset length .read
          let reply := fun (u : Dev) (status n : Nat) (data : List Byte) => s.dev.seal (u.sendFrame p 5 (bulkFrame 3 status region offset n data))
          (e.servesBulk region offset length = true →
            exec (.bulkReadRequest t port region offset length true) s =
              .next (s.withDev (reply asked 0 length (s.mem.bytes (asked.regionAddr region offset) length)))
            ∧ exec (.bulkReadRequest t port region offset length false) s = .next (s.withDev (reply (asked.memFail (asked.regionAddr region offset)) 2 0 [])))
          ∧ (e.servesBulk region offset length = false → ∀ memOk,
            exec (.bulkReadRequest t port region offset length memOk) s = .next (s.withDev (reply (e.ddrRefuse 3 region) 1 0 []))))
      ∧ (∀ offset rel n, e.bulkAnswer p offset = some (rel, n) →
          (e.val (Obj.ggBulkOp p) = 2 → ∀ data : List Byte,
            let block := e.val (Obj.ggBulkLocal p)
            let part := data.take n
            let asked := e.ddrAsk 3 0 (domRegion block) (domOffset block + rel) part.length .write
            exec (.bulkReadData t port 0 offset data) s =
              .next { s.withDev (s.dev.seal ((asked.setPort p { asked.port p with bulkAcked := rel + part.length }).nextBulk s.mem p)) with
                mem := s.mem.putBytes (e.domAddr block + rel) part }
            ∧ exec (.bulkReadData t port 1 offset data) s = .next (s.withDev (e.endBulk p 3))
            ∧ exec (.bulkReadData t port 2 offset data) s = .next (s.withDev (e.endBulk p 5)))
          ∧ (e.val (Obj.ggBulkOp p) = 1 → ∀ length,
            exec (.bulkWriteAck t port 0 offset length) s =
              .next (s.withDev (s.dev.seal ((e.setPort p { e.port p with bulkAcked := rel + n }).nextBulk s.mem p)))
            ∧ exec (.bulkWriteAck t port 1 offset length) s = .next (s.withDev (e.endBulk p 3))
            ∧ exec (.bulkWriteAck t port 2 offset length) s = .next (s.withDev (e.endBulk p 5)))))
    ∧ (∀ path, s.Admits t path key 1 →
        (s.dev.val (Obj.ggBulkState p) = 1 ∨ s.dev.val (Obj.ggBulkOp p) = 0 →
          exec (.ggBulkStart t path port) s = .next (s.withDev (d.answerWrite path key 0x08000022)))
        ∧ (s.dev.val (Obj.ggBulkState p) ≠ 1 → s.dev.val (Obj.ggBulkOp p) ≠ 0 →
          exec (.ggBulkStart t path port) s = .next (s.withDev (s.dev.seal
            ((((d.put (Obj.ggBulkState p) 1).setPort p { s.dev.port p with bulkAcked := 0, bulkResends := 0 }).nextBulk s.mem p).answerWrite
              path key 0)))))
    ∧ (∀ rel n,
        let x := s.dev.port p
        x.bulkOut = some (rel, n) → s.dev.val (Obj.ggBulkState p) = 1 → x.bulkSent + 1000000 ≤ d.now →
        (3 ≤ x.bulkResends → exec (.ggBulkResend t port) s = .next (s.withDev (d.endBulk p 4)))
        ∧ (x.bulkResends < 3 → exec (.ggBulkResend t port) s =
          .next (s.withDev (s.dev.seal ((d.setPort p { x with bulkResends := x.bulkResends + 1 }).sendBulk s.mem p rel n)))))

/-- A port moves between the states of Table 16-10: lock, with the lane-to-lane skew taken up (R376), brings it from detect to capability, or from wake
back up; training succeeds or gives up a
rate; retraining succeeds within 2 ms or falls back; an idle port may rest and wakes (R390, R391, R393, R396, R397). An active port owes a refresh
burst of 32 stripes for each 1 ms without a frame, and any frame restarts the count; no other port sends one (R395). -/
def Obligations.PortsMoveBetweenTheirStates : Prop :=
  ∀ (t : Nat) (port : Port) (s : State), s.Runs →
    let d := s.devAt t
    let p := port.val
    let x := s.dev.port p
    let state := s.dev.val (Obj.ggPortState p)
    let goes := fun (c : Instr) (n : Nat) (more : Dev → Prop) =>
      ∃ s', exec c s = .next s' ∧ s'.dev.val (Obj.ggPortState p) = n ∧ more s'.dev ∧ s'.dev.drills = s.dev.drills ∧ s'.mem = s.mem
    (x.markerLock = false → exec (.ggLaneLock t port) s = .next (s.withDev d))
    ∧ (x.markerLock = true →
        (state = 1 → goes (.ggLaneLock t port) 2 (fun e => (e.port p).capSeen = [] ∧ (e.port p).ackSent = false ∧ (e.port p).deskew = x.align.deskew))
        ∧ (state = 6 → goes (.ggLaneLock t port) 4 (fun e => e.val (Obj.ggRate p) = x.training ∧ (e.port p).deskew = x.align.deskew)))
    ∧ (state = 2 → x.stateSince + 100000000 ≤ d.now → goes (.ggCapabilityTimeout t port) 1 (fun e => (e.port p).training = 1))
    ∧ (state = 3 → x.partnerReady = true → d.now ≤ x.stateSince + 100000000 →
        (x.training < x.agreed → goes (.ggTrainingSuccess t port) 3 (fun e => (e.port p).training = x.training + 1))
        ∧ (x.agreed ≤ x.training → goes (.ggTrainingSuccess t port) 4 (fun e => e.val (Obj.ggRate p) = x.training)))
    ∧ (state = 3 → x.stateSince + 100000000 ≤ d.now →
        let counted := fun (e : Dev) => e.val (Obj.ggFallbacks p) = wrap 32 (s.dev.val (Obj.ggFallbacks p) + 1) ∧ bit e.faults.sticky (130 + p) = true
        (x.training ≤ 2 → goes (.ggTrainingTimeout t port) 4 (fun e => e.val (Obj.ggRate p) = 1 ∧ counted e))
        ∧ (2 < x.training → goes (.ggTrainingTimeout t port) 3 (fun e => (e.port p).training = x.training - 1 ∧ counted e)))
    ∧ (state = 4 → ∀ cause, goes (.ggRetrainTrigger t port cause) 7 (fun e => (e.port p).training = s.dev.val (Obj.ggRate p) ∧ e.val (Obj.ggRate p) = 0
        ∧ e.val (Obj.ggHeaderErrors p) =
          match cause with
          | .headerErrors n => wrap 32 (s.dev.val (Obj.ggHeaderErrors p) + n)
          | _ => s.dev.val (Obj.ggHeaderErrors p)))
    ∧ (state = 7 → d.now ≤ x.stateSince + 20000000 →
        goes (.ggRetrainSuccess t port) 4 (fun e => e.val (Obj.ggRate p) = x.training ∧ e.val (Obj.ggRetrains p) = wrap 32 (s.dev.val (Obj.ggRetrains p) + 1)))
    ∧ (state = 7 → (x.training ≤ 1 → goes (.ggRetrainFail t port) 1 (fun _ => True))
        ∧ (1 < x.training → goes (.ggRetrainFail t port) 3 (fun e => (e.port p).training = x.training - 1)))
    ∧ (state = 4 → s.dev.val (Obj.ggRestEnable p) ≠ 0 → x.partnerRest = true → d.portNamed p = false →
        max x.lastSent x.lastHeard + s.dev.val (Obj.ggRestDelay p) * 10000 ≤ d.now →
        goes (.ggRestEntry t port) 5 (fun e => e.val (Obj.ggRate p) = 0 ∧ (e.port p).frozen = true
          ∧ e.val (Obj.ggRestEntries p) = wrap 32 (s.dev.val (Obj.ggRestEntries p) + 1)))
    ∧ (state = 5 →
        let e := d.setPortState p 6
        exec (.ggWake t port) s =
          .next (s.withDev ((((e.setPort p { e.port p with arrivals := [] }).stripes p 0x1E 119).stripes p 0x4B 1).stripes p 0x2D 8)))
    ∧ (state = 6 → 10 * (x.stateSince + 10000) + 128 * stripeTime x.training ≤ 10 * d.now →
        goes (.ggWakeTimeout t port) 7 (fun e => (e.port p).training = x.training ∧ (e.port p).partnerReady = false))
    ∧ (state = 4 → x.lastSent + (x.refreshes + 1) * 10000000 ≤ d.now →
        exec (.ggRefreshDue t port) s = .next (s.withDev ((d.setPort p { x with refreshes := x.refreshes + 1 }).stripes p 0x3C 32)))
    ∧ (state ≠ 4 ∨ d.now < x.lastSent + (x.refreshes + 1) * 10000000 → exec (.ggRefreshDue t port) s = .next (s.withDev d))
    ∧ (∀ cls payload, ((d.sendNow p cls payload).port p).lastSent = d.now ∧ ((d.sendNow p cls payload).port p).refreshes = 0)

/-! ### Events (chapter 17) -/

/-- A write of a channel number to EvtFire fires the channel at the time of the write, and is refused where the writer's partition does not own it or
it is installation-only and the writer is not partition 0 (R404). A producer's firing is a new wave, dropped and counted when 64 wait (R401). The
router delivers the wave that arrived first; one no consumer waits for is only counted. A due timer fires and a periodic one runs on (R407); flags
clear where 1 is written. -/
def Obligations.EventsFireAndWavesAreDelivered : Prop :=
  ∀ (t : Nat) (s : State), s.Runs →
    let d := s.devAt t
    (∀ path channel, s.Admits t path Obj.evtFire channel → valueFits Obj.evtFire channel →
        let part := Path.partition path
        (part = 0 ∨ (d.chanOwner channel = part ∧ d.chanInstall channel = false) →
          exec (.evtFire t path channel) s = .next (s.withDev (s.dev.seal
            ((d.fireAt channel { tick := d.now, ps := 0 } false).answerWrite path Obj.evtFire 0))))
        ∧ (part ≠ 0 → (d.chanOwner channel ≠ part ∨ d.chanInstall channel = true) →
          exec (.evtFire t path channel) s = .next (s.withDev (d.answerWrite path Obj.evtFire 0xA0000001))))
    ∧ (∀ (channel : Chan) time ps,
        let c := channel.val
        (s.dev.router.waves.length < 64 → ∃ s', exec (.eventFire t channel time ps) s = .next s'
          ∧ s'.dev.router.waves = s.dev.router.waves ++ [{ channel := c, time := { tick := time, ps := ps }, fromLink := false }]
          ∧ s'.dev.val (Obj.evtDropped c) = s.dev.val (Obj.evtDropped c) ∧ s'.dev.drills = s.dev.drills ∧ s'.mem = s.mem)
        ∧ (64 ≤ s.dev.router.waves.length → ∃ s', exec (.eventFire t channel time ps) s = .next s'
          ∧ s'.dev.router = s.dev.router ∧ s'.dev.val (Obj.evtDropped c) = wrap 32 (s.dev.val (Obj.evtDropped c) + 1)
          ∧ bit (s'.dev.val (Obj.evtFlags c)) 2 = true ∧ s'.dev.drills = s.dev.drills ∧ s'.mem = s.mem))
    ∧ (s.dev.router.waves = [] → exec (.waveDeliver t) s = .next (s.withDev d))
    ∧ (∀ w rest, s.dev.router.waves = w :: rest →
        let e := { d with router := { d.router with waves := rest } }
        let ch := w.channel
        exec (.waveDeliver t) s = .next (s.withDev (s.dev.seal (waveGo w 1200 e { todo := [(ch, 0)], fired := [], hit := [] })))
        ∧ (s.dev.drills = [] → (∀ k, k < 8 → bit (s.dev.val (Obj.evtChannelCfg ch)) k = false) → (∀ k, k < 8 → s.dev.val (Obj.capArmChannel k) ≠ ch) →
          s.dev.val Obj.monTriggerChannel ≠ ch → (∀ p j, p < 4 → j < 32 → s.dev.val (Obj.ggEventOut p j) ≠ ch) →
          (∀ f j, f ≤ s.dev.val Obj.pcieNumVfs → j < 32 → s.dev.val (Obj.pcieVectorEvent f j) ≠ ch) →
          exec (.waveDeliver t) s = .next (s.withDev (e.bump64 (Obj.evtFired ch)))))
    ∧ (∀ (timer : Fin 4),
        let n := timer.val
        (∀ due, d.timerDue n = some due → due ≤ d.now →
          exec (.evtTimerExpire t timer) s = .next (s.withDev (s.dev.seal ((d.setTimer n
            (if bit (d.val (Obj.evtTimer n)) 40 = true ∧ d.timerDelay n ≠ 0 then some (due + d.timerDelay n) else none)).fireAt
              (d.timerChannel n) { tick := due, ps := 0 } false))))
        ∧ (d.timerDue n = none ∨ (∃ due, d.timerDue n = some due ∧ d.now < due) → exec (.evtTimerExpire t timer) s = .next (s.withDev d)))
    ∧ (∀ path (channel : Chan) mask,
        let key := Obj.evtFlags channel.val
        let v := s.dev.val key
        s.Admits t path key mask → valueFits key mask →
        exec (.evtFlagsClear t path channel mask) s = .next (s.withDev ((d.put key (v - (v &&& mask))).answerWrite path key 0)))

/-! ### Calibration and ageing (chapter 18) -/

/-- CalStart queues the units of the items chosen, in the order 4, 1, 0, 2, 3, and is refused while a run lasts (R411, R412); CalAbort ends the run
(R415). The reference reading admits or refuses the bias item; an idle unit is interrupted, one not idle in time is skipped (R413); its values are
accepted, or refused for repeatability or for a limit (R416, R417). The run's end stores or notes its outcome (R418). Targets follow the lid
(R419), and a tap goes one step at its pace (R421). -/
def Obligations.CalibrationGoesUnitByUnit : Prop :=
  ∀ (t : Nat) (s : State), s.Runs →
    let d := s.devAt t
    (∀ path, s.Admits t path Obj.calStart 1 →
        (s.dev.calib.run ≠ none → exec (.calStart t path) s = .next (s.withDev (d.answerWrite path Obj.calStart 0x08000022)))
        ∧ (s.dev.calib.run = none → (∀ i, i < 5 → bit (s.dev.val Obj.calItems) i = false) →
            exec (.calStart t path) s = .next (s.withDev (d.answerWrite path Obj.calStart 0)))
        ∧ (∀ items, s.dev.calib.run = none → items = [4, 1, 0, 2, 3].filter (fun i => bit (s.dev.val Obj.calItems) i) → items ≠ [] →
          s.dev.val Obj.timeRefState = 0 → s.dev.val Obj.timeGridState ≠ 3 →
          ∃ s' r, exec (.calStart t path) s = .next s' ∧ s'.dev.calib.run = some r ∧ (∀ i ∈ items, (d.calUnits i).Pairwise (· < ·))
            ∧ r.left = (items.map (fun i => (d.calUnits i).map (fun u => (i, u)))).flatten ∧ s'.dev.val Obj.calState = r.phase
            ∧ r.idleWait = s.dev.val Obj.calIdleWait ∧ r.setSlot = s.dev.val Obj.calSetSlot ∧ s'.dev.val Obj.calUnitsLeft = r.left.length ∧ s'.dev.calib.taps = s.dev.calib.taps ∧ s'.dev.drills = s.dev.drills ∧ s'.mem = s.mem))
    ∧ (∀ path, s.Admits t path Obj.calAbort 1 →
        exec (.calAbort t path) s = .next (s.withDev (s.dev.seal (d.abortCal.answerWrite path Obj.calAbort 0)))
        ∧ d.abortCal.calib = { s.dev.calib with run := none })
    ∧ (∀ r, s.dev.calib.run = some r → r.phase = 3 → ∀ reading : Int,
        let v := s.dev.ival 32 Obj.calVcalValue
        let e := d.put Obj.calVcalMeasured (ofInt 32 (satI 32 reading))
        let ok := 10000000 ≤ v ∧ v ≤ 55000000 ∧ (reading - v).natAbs * 1000 ≤ v.natAbs
        (ok → exec (.calVcalMeasured t reading) s = .next (s.withDev (s.dev.seal (e.setCal { r with phase := 1, waitSince := d.now }))))
        ∧ (¬ok → exec (.calVcalMeasured t reading) s = .next (s.withDev (s.dev.seal ((e.calResult 3 5).setCal
            { r with phase := 1, waitSince := d.now, left := r.left.filter (fun u => u.1 != 3), full := false })))))
    ∧ (∀ r u rest, s.dev.calib.run = some r → r.phase = 1 → r.left = u :: rest →
        (d.unitIdle u.1 u.2 = true → u.1 ≠ 2 → exec (.calUnitStart t) s = .next (s.withDev (s.dev.seal (d.setCal { r with phase := 2 }))))
        ∧ (d.unitIdle u.1 u.2 = true → u.1 = 2 → exec (.calUnitStart t) s = .next (s.withDev (s.dev.seal
            ((d.setTrig u.2 { s.dev.trig u.2 with interrupted := true, fresh := true }).setCal { r with phase := 2 }))))
        ∧ (d.unitIdle u.1 u.2 = false → exec (.calUnitStart t) s = .next (s.withDev d))
        ∧ (d.unitIdle u.1 u.2 = false → r.waitSince + r.idleWait * 10000000000 ≤ d.now →
          exec (.calIdleTimeout t) s = .next (s.withDev (s.dev.seal ((d.calResult u.1 7).nextUnit { r with full := false })))))
    ∧ (∀ r u rest (first second : List Int), s.dev.calib.run = some r → r.phase = 2 → r.left = u :: rest →
        let taps := unitTaps u.1 u.2
        let pairs := taps.zip (first.zip (second ++ first.drop second.length))
        let e := d.releaseUnit u
        let vals := pairs.map (fun p => (p.1, settledValue p.1 p.2.1 p.2.2))
        let repeats := pairs.all (fun p => (twice p.1).all (fun lim => (p.2.1 - p.2.2).natAbs ≤ lim))
        let sum := (vals.map Prod.snd).foldl (· + ·) 0
        let within := vals.all (fun p => plausible p.1 p.2 ((vals.head?.map Prod.snd).getD 0) (e.previous r.lid p.1)) = true
          ∧ (u.1 = 2 → 9950 ≤ sum ∧ sum ≤ 10050)
        first.length = taps.length →
        (repeats = false → exec (.calUnitComplete t first second) s = .next (s.withDev (s.dev.seal (e.refuseUnit r u 3))))
        ∧ (repeats = true → ¬within → exec (.calUnitComplete t first second) s = .next (s.withDev (s.dev.seal (e.refuseUnit r u 2))))
        ∧ (repeats = true → within → exec (.calUnitComplete t first second) s = .next (s.withDev (s.dev.seal (e.acceptUnit r u vals)))))
    ∧ (∀ r, s.dev.calib.run = some r → r.left = [] → r.phase ≠ 3 → (∀ q ∈ s.dev.calib.sets, 1 ≤ q.1 ∧ q.1 ≤ 6) →
        r.setSlot ≤ 6 ∨ r.setSlot = 255 →
        let moved := r.moved = true ∨ 100 < (d.lidTemp - r.lid).natAbs
        ∃ s', exec (.calRunEnd t) s = .next s' ∧ s'.dev.calib.run = none ∧ s'.dev.val Obj.calState = 0 ∧ s'.dev.val Obj.calUnitsLeft = 0
          ∧ s'.dev.drills = s.dev.drills ∧ s'.mem = s.mem
          ∧ (moved → s'.dev.val Obj.calRunNote = 3 ∧ s'.dev.calib.sets = s.dev.calib.sets)
          ∧ (¬moved → ∀ i x, d.nearSet r.lid = some i → SMap.find s.dev.calib.sets i = some x →
              s'.dev.calib.sets = SMap.set s.dev.calib.sets i { x with values := r.accepted.foldl (fun m p => SMap.set m p.1 p.2) x.values }
                ∧ s'.dev.val Obj.calRunSet = i ∧ s'.dev.val Obj.calRunNote = 0)
          ∧ (¬moved → d.nearSet r.lid = none →
              (r.full = false → s'.dev.val Obj.calRunNote = 1 ∧ s'.dev.calib.sets = s.dev.calib.sets)
              ∧ (r.full = true → SMap.find s.dev.calib.sets 1 = none →
                s'.dev.calib.sets = SMap.set s.dev.calib.sets 1 { key := r.lid, values := r.accepted } ∧ s'.dev.val Obj.calRunSet = 1)))
    ∧ (let second := ∀ x, s.dev.calib.lastAim = some x → x + 10000000000 ≤ d.now
      (s.dev.val Obj.calInterp ≠ 0 → second → exec (.calTargetUpdate t) s =
        .next (s.withDev (s.dev.seal ({ d with calib := { s.dev.calib with lastAim := some d.now } } : Dev).updateTargets)))
      ∧ (s.dev.val Obj.calInterp = 0 ∨ ¬second → exec (.calTargetUpdate t) s = .next (s.withDev d)))
    ∧ (∀ tap : TapId,
        let k := tapKey tap.item.val tap.unit tap.value
        let v := s.dev.tap k
        let goal := s.dev.tapTarget k
        let due := ∀ x, SMap.find s.dev.calib.lastTap k = some x → x + (if tap.item.val = 3 then 10000000 else 10000) ≤ d.now
        (v ≠ goal → due → d.tapFree k = true → exec (.calTapStep t tap) s = .next (s.withDev { d with calib := { s.dev.calib with
            taps := SMap.set s.dev.calib.taps k (if v < goal then v + 1 else v - 1), lastTap := SMap.set s.dev.calib.lastTap k d.now } }))
        ∧ (v = goal ∨ ¬due ∨ d.tapFree k = false → exec (.calTapStep t tap) s = .next (s.withDev d)))

/-- A canary mean becomes its unit's stage delay and its worst-case delay (R423). A recomputation puts every strip's planned leads and planned stage
delay to what its delay calls for, with time and reason (R100, R424, R425); the interval's also writes the ageing log (R427). -/
def Obligations.AgeingFollowsTheCanaries : Prop :=
  ∀ (t : Nat) (s : State), s.Runs →
    let d := s.devAt t
    let planned := fun (e : Dev) (why : Nat) =>
      e.val Obj.ageLastReason = why ∧ e.val Obj.ageLastTime = d.now ∧ e.ageing.lastRecompute = d.now
        ∧ (∀ (k : Strip) (c : Fin 4), e.val (Obj.stripLeadPlan k.val c.val) = min 255 (plannedLead (d.worst k.val) c.val))
        ∧ (∀ k : Strip, e.val (Obj.stripStageDelayPlan k.val) = wrap 16 (planTenth (d.worst k.val)))
        ∧ e.drills = s.dev.drills
    (∀ (unit : Fin 80) mean,
        ∃ s', exec (.canaryMeanUpdate t unit mean) s = .next s'
          ∧ s'.dev.val (if unit.val < 64 then Obj.stripStageDelay unit.val else Obj.tileStageDelay (unit.val - 64)) = wrap 16 mean
          ∧ s'.dev.val (Obj.ageStageDelayWorst unit.val) = wrap 16 (nearest (wrap 16 mean * d.kvt unit.val) (2 ^ 16))
          ∧ s'.dev.drills = s.dev.drills ∧ s'.mem = s.mem)
    ∧ (∀ path, s.Admits t path Obj.ageRecompute 1 → ∃ s', exec (.ageRecomputeWrite t path) s = .next s' ∧ planned s'.dev 6 ∧ s'.mem = s.mem)
    ∧ (s.dev.ageing.lastRecompute + s.dev.val Obj.ageInterval * 10000000000 ≤ d.now →
        ∃ s', exec (.ageIntervalExpire t) s = .next s' ∧ planned s'.dev 1 ∧ s'.mem = s.mem
          ∧ ∀ (u : Fin 80), (SMap.look s.dev.ageing.log u.val []).length < 3650 →
            SMap.look s'.dev.ageing.log u.val [] = SMap.look s.dev.ageing.log u.val [] ++ [(d.operatingHours, d.worstTenth u.val)])
    ∧ (d.now < s.dev.ageing.lastRecompute + s.dev.val Obj.ageInterval * 10000000000 → exec (.ageIntervalExpire t) s = .next (s.withDev d))
    ∧ (∀ strip : Strip,
        ((∃ x, SMap.find s.dev.ageing.watchSince strip.val = some x ∧ x + 10000000000 ≤ d.now) →
          ∃ s', exec (.ageWatchExpire t strip) s = .next s' ∧ planned s'.dev 4 ∧ s'.mem = s.mem)
        ∧ ((∀ x, SMap.find s.dev.ageing.watchSince strip.val = some x → d.now < x + 10000000000) →
          exec (.ageWatchExpire t strip) s = .next (s.withDev d)))

/-! ### Heat and faults (chapter 19) -/

/-- A model step moves every die node by its net power (R431), and one that has reached 110 °C is shut down at once (R435); a correction moves the coolant by the mean residual (R432). Rates and the states
called for are taken each 1 ms, and a node whose state stays is left (R433–R435); a change held back comes at the dwell's end; enforcement begins
when the grace time ends (R438). A write to FaultSticky clears the bits whose condition has ended, Grave bits apart (R442). The safe state is entered
when the handler's time ends with a Severe bit set, or by a write (R444): every drill stops, RF is off and every bias output goes to its fault value
(R446). Leaving it needs every Severe and Grave bit clear (R447). -/
def Obligations.HeatAndFaultsActOnTheBlock : Prop :=
  ∀ (t : Nat) (s : State), s.Runs →
    let d := s.devAt t
    let safe := fun (c : Instr) =>
      ∃ s', exec c s = .next s' ∧ s'.dev.faults.safe = 1 ∧ s'.dev.faults.handler = none ∧ s'.dev.val Obj.devRfEnable = 0
        ∧ (∀ l, (s'.dev.drill l).run = .stopped)
        ∧ (∀ l : Lane, (s.dev.biasOut l.val).move ≠ .held → (s'.dev.biasOut l.val).move = .fault)
        ∧ s'.mem = s.mem
    (∀ powers : List Nat, s.dev.thermal.stepped + 100 ≤ d.now →
        ∃ s', exec (.thermalModelStep t powers) s = .next s' ∧ s'.mem = s.mem
          ∧ ((∀ i, i < 17 → centi (s'.dev.predicted i) < 11000) → s'.dev.drills = s.dev.drills)
          ∧ ((∀ j, SMap.look s.dev.thermal.wanted j 0 ≤ 3) → ∀ i, i < 17 → 11000 ≤ centi (s'.dev.predicted i) →
              SMap.look s'.dev.thermal.states i 0 = 3)
          ∧ ∀ i, i < 17 → s'.dev.nodeTemp i = s.dev.nodeTemp i + stepOf i (((powers[i]?.getD 0 : Nat) : Int) * 2 ^ 48
              - heatFlow (s.dev.nodeTemp i - s.dev.nodeTemp 17) (Config.thermalResistance i)))
    ∧ (let rs := s.dev.thermal.residuals
      let c : Int := (rs.map Prod.snd).foldl (· + ·) 0 / ((rs.length : Nat) : Int)
      let tau : Int := max 1 (s.dev.val Obj.thermCorrTau)
      (s.dev.thermal.corrected + 10000000000 ≤ d.now →
        rs ≠ [] → ∃ s', exec (.thermalCorrection t) s = .next s' ∧ s'.dev.thermal.residuals = []
          ∧ s'.dev.thermal.coolant = clampI (s.dev.thermal.coolant + c / tau) 0 (60 * 2 ^ 32) ∧ s'.dev.drills = s.dev.drills ∧ s'.mem = s.mem)
      ∧ (s.dev.thermal.corrected + 10000000000 ≤ d.now →
        rs = [] → ∃ s', exec (.thermalCorrection t) s = .next s' ∧ s'.dev.thermal.coolant = s.dev.thermal.coolant ∧ s'.dev.drills = s.dev.drills
          ∧ s'.mem = s.mem))
    ∧ (let calls := fun (i : Nat) =>
        (callsFor false (centi (d.predicted i)) (SMap.look s.dev.thermal.wanted (2 * i) 0), callsFor true (d.nodeRate i) (SMap.look s.dev.thermal.wanted (2 * i + 1) 0))
      (s.dev.thermal.judged + 10000000 ≤ d.now → ∃ s', exec (.thermalStateEval t) s = .next s' ∧ s'.mem = s.mem
          ∧ ((∀ i, i < 17 → max (calls i).1 (calls i).2 = SMap.look s.dev.thermal.states i 0) →
            s'.dev.thermal.states = s.dev.thermal.states ∧ s'.dev.drills = s.dev.drills)
          ∧ (∀ i, i < 19 → s'.dev.val (Obj.thermNodeRate i) = ofInt 16 (satI 16 (d.nodeRate i)))
          ∧ (∀ i, i < 17 → SMap.look s'.dev.thermal.wanted (2 * i) 0 = (calls i).1 ∧ SMap.look s'.dev.thermal.wanted (2 * i + 1) 0 = (calls i).2))
      ∧ (d.now < s.dev.thermal.judged + 10000000 → exec (.thermalStateEval t) s = .next (s.withDev d)))
    ∧ (∀ node : Fin 17,
        let n := node.val
        let want := max (SMap.look s.dev.thermal.wanted (2 * n) 0) (SMap.look s.dev.thermal.wanted (2 * n + 1) 0)
        let free := ∀ x, SMap.find s.dev.thermal.changed n = some x → x + 1000000000 ≤ d.now
        (want ≠ SMap.look s.dev.thermal.states n 0 → (free ∨ want = 3) →
          exec (.thermalDwellEnd t node) s = .next (s.withDev (s.dev.seal (d.nodeState n want))))
        ∧ (want = SMap.look s.dev.thermal.states n 0 ∨ (¬free ∧ want ≠ 3) → exec (.thermalDwellEnd t node) s = .next (s.withDev d)))
    ∧ (s.dev.val Obj.thermThrottle = 1 → (∃ g, s.dev.thermal.grace = some g ∧ g ≤ d.now) →
        exec (.throttleGraceExpire t) s = .next (s.withDev
          ((({ d with thermal := { d.thermal with grace := none } } : Dev).put Obj.thermThrottle 2).bump Obj.thermEnforcements)))
    ∧ (∀ path (word : Fin 4) mask, s.Admits t path (Obj.faultSticky word.val) mask →
        ∃ s', exec (.faultStickyClear t path word mask) s = .next s' ∧ s'.dev.faults.active = s.dev.faults.active
          ∧ s'.dev.drills = s.dev.drills ∧ s'.mem = s.mem
          ∧ ∀ b, bit s'.dev.faults.sticky b = (bit s.dev.faults.sticky b
              && !(64 * word.val ≤ b && b < 64 * word.val + 64 && bit mask (b - 64 * word.val) && !bit s.dev.faults.active b && !bit graveMask b)))
    ∧ (∀ h, s.dev.faults.handler = some h → h ≤ d.now →
        (s.dev.severeSet = true → s.dev.faults.safe = 0 → safe (.faultHandlerExpire t))
        ∧ (s.dev.severeSet = false → exec (.faultHandlerExpire t) s = .next (s.withDev { d with faults := { d.faults with handler := none } })))
    ∧ (∀ path, s.Admits t path Obj.faultEnterSafe 1 →
        (s.dev.faults.safe = 0 → safe (.faultEnterSafe t path))
        ∧ (s.dev.faults.safe ≠ 0 → exec (.faultEnterSafe t path) s = .next (s.withDev (d.answerWrite path Obj.faultEnterSafe 0))))
    ∧ (∀ path, s.Admits t path Obj.faultLeaveSafe 1 →
        (s.dev.faults.safe = 1 → s.dev.severeSet = false → s.dev.graveSet = false → exec (.faultLeaveSafe t path) s =
          .next (s.withDev (({ d with faults := { d.faults with safe := 0 } } : Dev).answerWrite path Obj.faultLeaveSafe 0)))
        ∧ (s.dev.faults.safe ≠ 1 ∨ s.dev.severeSet = true ∨ s.dev.graveSet = true →
          exec (.faultLeaveSafe t path) s = .next (s.withDev (d.answerWrite path Obj.faultLeaveSafe 0x08000022))))

/-! ### The control store (chapter 20) -/

/-- A short word names its nano-store entry and its immediate, and one with bit 16 set is no word (R453). A verified image goes to the inactive slot, which becomes the next (R459); a strip update takes a strip to the live next slot (R460). A machine
check sets its unit's bit and reloads it, or leaves it powered down within 1 s of an earlier one, and its verified stores end the condition (R456,
R457). A user routine starts, waits one deep or is dropped and counted; it ends or is abandoned after 4,096 words, its scratch registers kept
(R462). -/
def Obligations.TheControlStoreChangesAndRuns : Prop :=
  ∀ (t : Nat) (s : State), s.Runs →
    let d := s.devAt t
    (∀ nano imm slot, nano < 1024 → imm < 64 → slot < 8 → ∀ line, bits line (18 * slot + 15) (18 * slot) = nano + 1024 * imm →
        shortWord line slot = if bit line (18 * slot + 16) then none else some { nano := nano, immediate := imm })
    ∧ (s.dev.store.writing = none → exec (.csSlotWriteComplete t) s = .next (s.withDev d))
    ∧ (∀ bs, s.dev.store.writing = some bs →
        let i := 1 - s.dev.val Obj.csActiveSlot
        ∃ s', exec (.csSlotWriteComplete t) s = .next s' ∧ s'.dev.store.writing = none ∧ s'.dev.store.slot i = slotOfImage bs
          ∧ s'.dev.val Obj.csNextSlot = i ∧ s'.dev.val Obj.csImageWrites = wrap 32 (s.dev.val Obj.csImageWrites + 1)
          ∧ (s'.dev.commitOf Obj.csCommit).status = 3 ∧ (s'.dev.commitOf Obj.csCommit).loading = false
          ∧ s'.dev.drills = s.dev.drills ∧ s'.mem = s.mem)
    ∧ (∀ path k, s.Admits t path Obj.csStripUpdate k → valueFits Obj.csStripUpdate k →
        let next := s.dev.val Obj.csNextSlot
        let may := next ≠ s.dev.val Obj.csActiveSlot ∧ (s.dev.store.slot next).live = true ∧ d.slotOk next = true ∧ d.unitState k ≠ 3 ∧ d.powered k = true
        (may → exec (.csStripUpdate t path k) s = .next (s.withDev
          ((d.setUnit k { s.dev.unit k with entering := 2, wakeAt := none }).answerWrite path Obj.csStripUpdate 0)))
        ∧ (¬may → exec (.csStripUpdate t path k) s = .next (s.withDev (d.answerWrite path Obj.csStripUpdate 0x08000022))))
    ∧ (∀ unit : EngineUnit,
        let u := EngineUnit.number unit
        let e := (d.bump Obj.csMachineChecks).raise (checkBit u) true
        let again := ∃ c, SMap.find s.dev.store.checkedAt u = some c ∧ d.now ≤ c + 10000000000
        (∀ error, d.engineFails u error = true → (d.unitState u = 0 ∨ d.unitState u = 4) →
          (again → exec (.machineCheck t { unit := unit, error := error }) s = .next (s.withDev (s.dev.seal (e.enterVoid u 3))))
          ∧ (¬again →
            let v := e.enterVoid u (if u < 64 then 2 else 1)
            exec (.machineCheck t { unit := unit, error := error }) s = .next (s.withDev (s.dev.seal (v.setUnit u { v.unit u with reloading := true, checked := true })))))
        ∧ (∀ error, d.engineFails u error = false ∨ (d.unitState u ≠ 0 ∧ d.unitState u ≠ 4) →
          exec (.machineCheck t { unit := unit, error := error }) s = .next (s.withDev d))
        ∧ bit e.faults.sticky (checkBit u) = true
        ∧ ((s.dev.unit u).reloading = true → d.slotOk (d.loadSlot u) = true →
          let v := (d.setUnit u { s.dev.unit u with reloading := false }).unraise (checkBit u)
          exec (.csReloadVerified t unit) s = .next (s.withDev
            (if u < 64 ∧ (s.dev.unit u).checked = false then v.put (Obj.csStripSlot u) (d.val Obj.csNextSlot) else v)))
        ∧ ((s.dev.unit u).reloading = false ∨ d.slotOk (d.loadSlot u) = false → exec (.csReloadVerified t unit) s = .next (s.withDev d)))
    ∧ (∀ (strip : Strip),
        let k := strip.val
        let key := Obj.csUserStart k
        let starts := fun (shot reason : Nat) (c : Instr) (e : Dev) (after : Dev → Dev) =>
          SMap.look s.dev.store.userWords k [] ≠ [] →
          (SMap.find s.dev.store.user k = none → exec c s = .next (s.withDev (after
            { e with store := { e.store with user := SMap.set e.store.user k { shot := shot, reason := reason } } })))
          ∧ (SMap.find s.dev.store.user k ≠ none → SMap.find s.dev.store.userHeld k = none → exec c s = .next (s.withDev (after
            { e with store := { e.store with userHeld := SMap.set e.store.userHeld k (shot, reason) } })))
          ∧ (SMap.find s.dev.store.user k ≠ none → SMap.find s.dev.store.userHeld k ≠ none →
            exec c s = .next (s.withDev (after (e.bump (Obj.csUserOverruns k)))))
        (∀ path, s.Admits t path key 1 →
          (d.unitState k = 0 → starts 0 0 (.csUserStart t path strip) d (fun e => e.answerWrite path key 0))
          ∧ (d.unitState k ≠ 0 → exec (.csUserStart t path strip) s = .next (s.withDev (d.answerWrite path key 0xA0000008))))
        ∧ (∀ shot reason, SMap.find s.dev.store.userDue k = some (shot, reason) →
          starts shot reason (.csUserShotStart t strip) { d with store := { d.store with userDue := SMap.del d.store.userDue k } } (fun e => e))
        ∧ (∀ u c, SMap.find s.dev.store.user k = some u →
          (d.userResult k u = .ended c → exec (.csUserRoutineEnd t strip) s =
            .next (s.withDev (s.dev.seal (((d.putScratch k c).bump (Obj.csUserRuns k)).userNext k))))
          ∧ (d.userResult k u = .overran c → exec (.csUserAbort t strip) s =
            .next (s.withDev (s.dev.seal (((d.putScratch k c).bump (Obj.csUserAborts k)).userNext k))))))

/-! ### Power and reset (chapter 21) -/

/-- A low of RESET_N of 10 µs or more resets the block, one below 1 µs is ignored, one between is taken whole or not at all (R471): RW objects return
to their defaults, flash and fuse values, bias codes and the Grave latch stay (R24, R445, R478). Its rise starts the block with grid time 0 (R62,
R473), as does the end of a reset by a rail (R467); start-up resumes and ends with its ports (R473, R474). Rails out of and back in range set and end
their bit (R467); VAUX's loss resets everything (R470). PwrPrepareOff turns RF off and takes the biases to their fault values (R477); EXTEST drives
its cells while RESET_N is low (R485). -/
def Obligations.ResetsRailsAndPowerDown : Prop :=
  ∀ (t : Nat) (s : State),
    let d := s.devAt t
    let held := fun (e : Dev) (cause : Nat) =>
      e.power.inReset = true ∧ e.val Obj.pwrResetCause = cause ∧ e.drills = [] ∧ e.staged = [] ∧ e.commits = [] ∧ (∀ p, e.pin p = false)
        ∧ e.faults.sticky = s.dev.faults.sticky &&& graveMask ∧ (e.faults.safe = 2 ↔ s.dev.faults.safe = 2)
        ∧ ∀ l : Lane, (e.biasOut l.val).code = (s.dev.biasOut l.val).code
    let started := fun (c : Instr) =>
      ∃ s', exec c s = .next s' ∧ s'.dev.power.inReset = false ∧ s'.dev.power.readsOpen = true ∧ s'.dev.now = 0 ∧ s'.mem = s.mem
    (s.dev.power.vauxUp = true →
      (∀ lowNs taken,
          (s.dev.power.pinLow = false → (10000 ≤ lowNs ∨ (1000 ≤ lowNs ∧ taken = true)) →
            ∃ s', exec (.resetNAssert t lowNs taken) s = .next s' ∧ held s'.dev 1 ∧ s'.dev.power.pinLow = true ∧ s'.mem = s.mem
              ∧ (∀ k r, rowAt (keyIndex k) (keySub k) = some r → k ≠ Obj.pwrResetCause →
                (∀ v, SMap.find s.dev.nv.stored k = some v → (∀ w, (k, w) ∈ s.dev.nv.stored → w = v) → SMap.find s'.dev.objs k = some v)
                ∧ (SMap.find s.dev.nv.stored k = none → r.acc = .cnt → SMap.find s'.dev.objs k = SMap.find s.dev.objs k)
                ∧ (SMap.find s.dev.nv.stored k = none → r.acc = .rw ∨ r.acc = .rwc → keptObject k = false →
                  SMap.find s'.dev.objs k = none)))
          ∧ (s.dev.power.pinLow = true ∨ lowNs < 1000 ∨ (lowNs < 10000 ∧ taken = false) →
            exec (.resetNAssert t lowNs taken) s = .next (s.withDev d)))
      ∧ (∀ fuseOk refOk,
          (s.dev.power.pinLow = true → s.dev.power.internal = false → started (.resetNRelease t fuseOk refOk))
          ∧ (s.dev.power.pinLow = true → s.dev.power.internal = true → exec (.resetNRelease t fuseOk refOk) s =
            .next (s.withDev { d with power := { d.power with pinLow := false, fuseOk := fuseOk, refOk := refOk } }))
          ∧ (s.dev.power.pinLow = false → exec (.resetNRelease t fuseOk refOk) s = .next (s.withDev d)))
      ∧ (∀ (rail : Fin 8) (mv : Int),
          let r := rail.val
          let out := mv < (railRange r).1 ∨ (railRange r).2 < mv
          (out → s.dev.power.inReset = false → ∃ s', exec (.railOutOfRange t rail mv) s = .next s'
            ∧ s'.dev.val (Obj.pwrRailState r) = 1 ∧ s'.dev.val (Obj.pwrRailVoltage r) = ofInt 32 mv
            ∧ bit s'.dev.faults.sticky (9 + r) = true ∧ bit s'.dev.faults.active (9 + r) = true ∧ s'.mem = s.mem)
          ∧ (¬out → r ≠ 0 → exec (.railOutOfRange t rail mv) s = .next (s.withDev d))
          ∧ (¬out → ∃ s', exec (.railBackInRange t rail mv) s = .next s' ∧ s'.dev.val (Obj.pwrRailState r) = 0
            ∧ s'.dev.val (Obj.pwrRailVoltage r) = ofInt 32 mv ∧ bit s'.dev.faults.active (9 + r) = false
            ∧ s'.dev.faults.sticky = s.dev.faults.sticky ∧ s'.dev.drills = s.dev.drills ∧ s'.mem = s.mem)
          ∧ (∀ level, resetLevel r = some level → mv < level →
            ∃ s', exec (.railBelowResetLevel t rail mv) s = .next s' ∧ held s'.dev 2 ∧ s'.dev.power.internal = true ∧ s'.mem = s.mem)
          ∧ ((∀ level, resetLevel r = some level → level ≤ mv) → exec (.railBelowResetLevel t rail mv) s = .next (s.withDev d)))
      ∧ (s.dev.power.internal = true → s.dev.power.pinLow = false → started (.railRecovered t))
      ∧ (∀ cells, (s.dev.power.pinLow = true → exec (.jtagExtest t cells) s = .next (s.withDev (d.emit (.boundaryCells cells))))
          ∧ (s.dev.power.pinLow = false → exec (.jtagExtest t cells) s = .next (s.withDev d))))
    ∧ (∃ s', exec (.vauxLoss t) s = .next s' ∧ s'.dev.power.vauxUp = false ∧ s'.dev.power.inReset = true ∧ s'.dev.faults = Dev.reset.faults
        ∧ s'.dev.drills = [] ∧ s'.dev.nv.stored = s.dev.nv.stored ∧ s'.mem = s.mem ∧ ∀ l : Lane, (s'.dev.biasOut l.val).code = 131072)
    ∧ (s.dev.power.vauxUp = false → exec (.vauxPowerUp t) s = .next (s.withDev { d with power := { d.power with vauxUp := true } }))
    ∧ (s.Runs →
      (s.dev.val Obj.pwrStartStop = 4 → ∃ s', exec (.startupResume t) s = .next s' ∧ s'.dev.now = 0 ∧ s'.dev.power.refOk = true
          ∧ s'.dev.power.waited = s.dev.power.waited + d.now ∧ s'.mem = s.mem)
      ∧ (s.dev.val Obj.pwrStartStop = 5 → d.startStop ≠ 5 → exec (.startupResume t) s = .next (s.withDev (s.dev.seal d.startOn)))
      ∧ (s.dev.val Obj.pwrStartStep = 4 → s.dev.val Obj.memState = 3 ∨ s.dev.val Obj.memState = 4 →
          ∃ s', exec (.startupStep5 t) s = .next s' ∧ s'.dev.val Obj.pwrStartStep = 6 ∧ s'.dev.val Obj.devState = 1
            ∧ (∀ p : Port, s.dev.val (Obj.ggPortEnable p.val) ≠ 0 → s'.dev.val (Obj.ggPortState p.val) = 1)
            ∧ s'.dev.drills = s.dev.drills ∧ s'.mem = s.mem)
      ∧ (∀ path, s.Reaches t path Obj.pwrPrepareOff →
          (s.Asked t path Obj.pwrPrepareOff 1 → ∃ s', exec (.pwrPrepareOff t path) s = .next s' ∧ s'.dev.power.preparing = true ∧ s'.dev.val Obj.devRfEnable = 0
            ∧ (∀ l : Lane, (s.dev.biasOut l.val).move ≠ .held → (s'.dev.biasOut l.val).move = .fault) ∧ s'.mem = s.mem)
          ∧ (s.Asked t path Obj.pwrPrepareOff 0 → exec (.pwrPrepareOffEnd t path) s =
            .next (s.withDev (({ d with power := { d.power with preparing := false } } : Dev).answerWrite path Obj.pwrPrepareOff 0)))))

/-! ### The whole block -/

/-- Every step keeps DDR5's canonical form: addresses strictly rising, no byte listed that reads 0. -/
def Obligations.EveryStepKeepsMemoryCanonical : Prop :=
  ∀ s s' : State, s.mem.wf = true → step s = .next s' → s'.mem.wf = true

/-- Right after reset no command waits, DDR5 is canonical and reads 0 everywhere, no fault bit and no latch is set, the block is held in reset, and
every object holds its default (R24; which defaults the spec does not give, log entry 9 says). -/
def Obligations.ResetHoldsEveryDefault : Prop :=
  State.reset.pending = [] ∧ State.reset.mem.wf = true ∧ (∀ a, State.reset.mem.byte a = 0) ∧ State.reset.dev.faults.sticky = 0
    ∧ State.reset.dev.faults.safe = 0 ∧ State.reset.dev.live = false ∧ State.reset.dev.power.vauxUp = true
    ∧ (∀ k, isBiasKey k = false → State.reset.dev.val k = tableDefault k) ∧ State.reset.dev.staged = [] ∧ (∀ l, (State.reset.dev.drill l).run = .stopped)

/-- The Grave latch, and every Grave bit, once set outlasts every step but the loss of VAUX (R445). -/
def Obligations.OnlyVauxClearsTheGraveLatch : Prop :=
  ∀ s s' : State, (∀ c, s.pending.head? = some c → losesVaux c = false) → step s = .next s' →
    (s.dev.faults.safe = 2 → s'.dev.faults.safe = 2)
    ∧ ∀ b, bit graveMask b = true → bit s.dev.faults.sticky b = true → bit s'.dev.faults.sticky b = true

/-- Every command completes in every state. It leaves the queue alone; unless it is one of those that write DDR5, it leaves DDR5 alone; and while the
block is held in reset or VAUX is down, only the island's commands do more than let time pass (R471). -/
def Obligations.EveryCommandCompletesInItsFrame : Prop :=
  ∀ (c : Instr) (s : State), ∃ s', exec c s = .next s' ∧ s'.pending = s.pending ∧ (writesDdr5 c = false → s'.mem = s.mem)
    ∧ (s.dev.live = false → actsInReset c = false → ∃ t, s' = s.withDev (s.devAt t))
end

