-- ==== Sys2Proof/Laws/Maps.lean ====
section
/-! SUPPORT. Sparse maps and DDR5: a read after a write, what a write leaves alone, and the canonical form every write keeps. -/

namespace Sys2Proof.Machine

/-! ### Sparse maps -/

/-- An entry reads as it was set. -/
@[simp] theorem SMap.find_set_same {α : Type} (m : SMap α) (i : Nat) (v : α) : SMap.find (SMap.set m i v) i = some v := by
  induction m with
  | nil => simp [SMap.set, SMap.find]
  | cons p r ih =>
    obtain ⟨k, w⟩ := p
    simp only [SMap.set]
    split
    · simp [SMap.find]
    · split
      · simp [SMap.find]
      · rename_i h1 h2
        simp [SMap.find, ih, show ¬k = i by omega]

/-- Setting an entry leaves every other alone. -/
theorem SMap.find_set_other {α : Type} (m : SMap α) (i j : Nat) (v : α) (h : i ≠ j) : SMap.find (SMap.set m i v) j = SMap.find m j := by
  induction m with
  | nil => simp [SMap.set, SMap.find, h]
  | cons p r ih =>
    obtain ⟨k, w⟩ := p
    simp only [SMap.set]
    split
    · simp [SMap.find, h]
    · split
      · rename_i h1 h2
        simp [SMap.find, h, show ¬k = j by omega]
      · simp [SMap.find, ih]

/-- A dropped entry is not listed. -/
@[simp] theorem SMap.find_del_same {α : Type} (m : SMap α) (i : Nat) : SMap.find (SMap.del m i) i = none := by
  induction m with
  | nil => rfl
  | cons p r ih =>
    obtain ⟨k, w⟩ := p
    by_cases h : k = i
    · simpa [SMap.del, List.filter, h] using ih
    · have : SMap.del ((k, w) :: r) i = (k, w) :: SMap.del r i := by simp [SMap.del, h]
      simp [this, SMap.find, h, ih]

/-- Dropping an entry leaves every other alone. -/
theorem SMap.find_del_other {α : Type} (m : SMap α) (i j : Nat) (h : i ≠ j) : SMap.find (SMap.del m i) j = SMap.find m j := by
  induction m with
  | nil => rfl
  | cons p r ih =>
    obtain ⟨k, w⟩ := p
    by_cases hk : k = i
    · have : SMap.del ((k, w) :: r) i = SMap.del r i := by simp [SMap.del, hk]
      simp [this, SMap.find, ih, show ¬k = j by omega]
    · have : SMap.del ((k, w) :: r) i = (k, w) :: SMap.del r i := by simp [SMap.del, hk]
      simp [this, SMap.find, ih]

/-! ### DDR5 -/

/-- The canonical form of a tail. -/
theorem Mem.wf_tail {k : Nat} {v : Byte} {r : Mem} (h : Mem.wf ((k, v) :: r) = true) : Mem.wf r = true := by
  cases r with
  | nil => rfl
  | cons p r => obtain ⟨k', v'⟩ := p; simp [Mem.wf] at h; exact h.2

/-- The first address of a canonical memory lies below every other. -/
theorem Mem.wf_first_lt {k : Nat} {v : Byte} {r : Mem} (h : Mem.wf ((k, v) :: r) = true) : ∀ p ∈ r, k < p.1 := by
  induction r generalizing k v with
  | nil => simp
  | cons p r ih =>
    obtain ⟨k', v'⟩ := p
    simp [Mem.wf] at h
    intro q hq
    rcases List.mem_cons.mp hq with rfl | hq
    · exact h.1.2
    · exact Nat.lt_trans h.1.2 (ih h.2 q hq)

/-- A canonical memory with an entry below it in front. -/
theorem Mem.wf_cons {k : Nat} {v : Byte} {r : Mem} (hv : v ≠ 0) (hr : Mem.wf r = true) (hk : ∀ p ∈ r, k < p.1) :
    Mem.wf ((k, v) :: r) = true := by
  cases r with
  | nil => simpa [Mem.wf] using hv
  | cons p r =>
    obtain ⟨k', v'⟩ := p
    have hk' : k < k' := hk (k', v') (by simp)
    simpa [Mem.wf, hr, hk'] using hv

/-- The first byte of a canonical memory is not 0. -/
theorem Mem.wf_first_ne {k : Nat} {v : Byte} {r : Mem} (h : Mem.wf ((k, v) :: r) = true) : v ≠ 0 := by
  cases r with
  | nil => simpa [Mem.wf] using h
  | cons p r => obtain ⟨k', v'⟩ := p; simp [Mem.wf] at h; exact h.1.1

/-- An address below every listed one reads 0. -/
theorem Mem.byte_below {r : Mem} {a : Nat} (h : ∀ p ∈ r, a < p.1) : Mem.byte r a = 0 := by
  induction r with
  | nil => rfl
  | cons p r ih =>
    obtain ⟨k, v⟩ := p
    have hk : a < k := h (k, v) (by simp)
    simp only [Mem.byte, show ¬k = a by omega, if_false]
    exact ih (fun q hq => h q (by simp [hq]))

/-- Every entry of a memory with a byte written is the written one or was there. -/
theorem Mem.mem_put {m : Mem} {a : Nat} {b : Byte} : ∀ p ∈ Mem.put m a b, p = (a, b) ∨ p ∈ m := by
  induction m with
  | nil => simp only [Mem.put]; split <;> simp
  | cons q r ih =>
    obtain ⟨k, v⟩ := q
    simp only [Mem.put]
    intro p hp
    split at hp
    · split at hp
      · exact .inr hp
      · rcases List.mem_cons.mp hp with h | h
        · exact .inl h
        · exact .inr h
    · split at hp
      · split at hp
        · exact .inr (by simp [hp])
        · rcases List.mem_cons.mp hp with h | h
          · exact .inl h
          · exact .inr (by simp [h])
      · rcases List.mem_cons.mp hp with h | h
        · exact .inr (by simp [h])
        · rcases ih p h with h | h
          · exact .inl h
          · exact .inr (by simp [h])

/-- A byte written keeps the canonical form. -/
theorem Mem.put_wf {m : Mem} (a : Nat) (b : Byte) (h : m.wf = true) : (m.put a b).wf = true := by
  induction m with
  | nil => simp only [Mem.put]; split <;> simp_all [Mem.wf]
  | cons q r ih =>
    obtain ⟨k, v⟩ := q
    have hr := Mem.wf_tail h
    have hk := Mem.wf_first_lt h
    have hv := Mem.wf_first_ne h
    simp only [Mem.put]
    split
    · rename_i ha
      split
      · exact h
      · refine Mem.wf_cons ‹_› h (fun p hp => ?_)
        rcases List.mem_cons.mp hp with rfl | hp
        · exact ha
        · exact Nat.lt_trans ha (hk p hp)
    · split
      · rename_i ha
        split
        · exact hr
        · exact Mem.wf_cons ‹_› hr (fun p hp => by have := hk p hp; omega)
      · refine Mem.wf_cons hv (ih hr) (fun p hp => ?_)
        rcases Mem.mem_put p hp with rfl | hp
        · show k < a; omega
        · exact hk p hp

/-- A byte written reads back. -/
theorem Mem.byte_put_same {m : Mem} (a : Nat) (b : Byte) (h : m.wf = true) : (m.put a b).byte a = b := by
  induction m with
  | nil => simp only [Mem.put]; split <;> simp_all [Mem.byte]
  | cons q r ih =>
    obtain ⟨k, v⟩ := q
    have hr := Mem.wf_tail h
    have hk := Mem.wf_first_lt h
    simp only [Mem.put]
    split
    · rename_i ha
      split
      · rename_i hb
        rw [hb]
        exact Mem.byte_below (fun p hp => by
          rcases List.mem_cons.mp hp with rfl | hp
          · exact ha
          · exact Nat.lt_trans ha (hk p hp))
      · simp [Mem.byte]
    · split
      · rename_i ha
        split
        · rename_i hb
          rw [hb]
          exact Mem.byte_below (fun p hp => by have := hk p hp; omega)
        · simp [Mem.byte]
      · simp [Mem.byte, show ¬k = a by omega, ih hr]

/-- A byte written leaves every other address alone. -/
theorem Mem.byte_put_other {m : Mem} (a c : Nat) (b : Byte) (h : a ≠ c) : (m.put a b).byte c = m.byte c := by
  induction m with
  | nil => simp only [Mem.put]; split <;> simp [Mem.byte, h]
  | cons q r ih =>
    obtain ⟨k, v⟩ := q
    simp only [Mem.put]
    split
    · split
      · rfl
      · simp [Mem.byte, h]
    · split
      · split
        · simp [Mem.byte, show ¬k = c by omega]
        · simp [Mem.byte, h, show ¬k = c by omega]
      · simp [Mem.byte, ih]

/-- Bytes written keep the canonical form. -/
theorem Mem.putBytes_wf {m : Mem} (a : Nat) (bs : List Byte) (h : m.wf = true) : (m.putBytes a bs).wf = true := by
  induction bs generalizing m a with
  | nil => exact h
  | cons b bs ih => exact ih (a + 1) (Mem.put_wf a b h)

/-- Bytes written leave every address outside them alone. -/
theorem Mem.byte_putBytes_other {m : Mem} (a c : Nat) (bs : List Byte) (h : c < a ∨ a + bs.length ≤ c) :
    (m.putBytes a bs).byte c = m.byte c := by
  induction bs generalizing m a with
  | nil => rfl
  | cons b bs ih =>
    simp only [List.length_cons] at h
    simp only [Mem.putBytes]
    rw [ih (a + 1) (by omega)]
    exact Mem.byte_put_other a c b (by omega)

/-- Every part of a canonical memory that a filter keeps is canonical. -/
theorem Mem.filter_wf {m : Mem} (f : Host.Cell → Bool) (h : m.wf = true) : Mem.wf (List.filter f m) = true := by
  induction m with
  | nil => rfl
  | cons q r ih =>
    obtain ⟨k, v⟩ := q
    have hk := Mem.wf_first_lt h
    have hr := ih (Mem.wf_tail h)
    simp only [List.filter]
    split
    · exact Mem.wf_cons (Mem.wf_first_ne h) hr (fun p hp => hk p (List.mem_filter.mp hp).1)
    · exact hr

/-- A cleared block keeps the canonical form. -/
theorem Mem.clear_wf {m : Mem} (a n : Nat) (h : m.wf = true) : (m.clear a n).wf = true := Mem.filter_wf _ h

/-- One write to DDR5 keeps the canonical form. -/
theorem Mem.apply1_wf {m : Mem} (o : MemOp) (h : m.wf = true) : (m.apply1 o).wf = true := by
  cases o with
  | put a bs => exact Mem.putBytes_wf a bs h
  | clear a n => exact Mem.clear_wf a n h

/-- A command's writes to DDR5 keep the canonical form. -/
theorem Mem.apply_wf {m : Mem} (os : List MemOp) (h : m.wf = true) : (m.apply os).wf = true := by
  induction os generalizing m with
  | nil => exact h
  | cons o os ih => exact ih (Mem.apply1_wf o h)

/-- A command that writes nothing leaves DDR5 as it was. -/
@[simp] theorem Mem.apply_nil (m : Mem) : m.apply [] = m := rfl

end Sys2Proof.Machine
end

