-- ==== Sys2Proof/Laws/State.lean ====
section
/-! SUPPORT. What each update of the block leaves alone: one lemma per field per update, and what the changed field becomes. -/

namespace Sys2Proof.Machine

/-! ### tick -/

@[simp] theorem Dev.tick_objs (d : Dev) (t : Nat) : (d.tick t).objs = d.objs := rfl
@[simp] theorem Dev.tick_staged (d : Dev) (t : Nat) : (d.tick t).staged = d.staged := rfl
@[simp] theorem Dev.tick_commits (d : Dev) (t : Nat) : (d.tick t).commits = d.commits := rfl
@[simp] theorem Dev.tick_clock (d : Dev) (t : Nat) : (d.tick t).clock = d.clock := rfl
@[simp] theorem Dev.tick_power (d : Dev) (t : Nat) : (d.tick t).power = d.power := rfl
@[simp] theorem Dev.tick_nv (d : Dev) (t : Nat) : (d.tick t).nv = d.nv := rfl
@[simp] theorem Dev.tick_drills (d : Dev) (t : Nat) : (d.tick t).drills = d.drills := rfl
@[simp] theorem Dev.tick_chains (d : Dev) (t : Nat) : (d.tick t).chains = d.chains := rfl
@[simp] theorem Dev.tick_groups (d : Dev) (t : Nat) : (d.tick t).groups = d.groups := rfl
@[simp] theorem Dev.tick_shots (d : Dev) (t : Nat) : (d.tick t).shots = d.shots := rfl
@[simp] theorem Dev.tick_closed (d : Dev) (t : Nat) : (d.tick t).closed = d.closed := rfl
@[simp] theorem Dev.tick_slots (d : Dev) (t : Nat) : (d.tick t).slots = d.slots := rfl
@[simp] theorem Dev.tick_clippedAt (d : Dev) (t : Nat) : (d.tick t).clippedAt = d.clippedAt := rfl
@[simp] theorem Dev.tick_items (d : Dev) (t : Nat) : (d.tick t).items = d.items := rfl
@[simp] theorem Dev.tick_cells (d : Dev) (t : Nat) : (d.tick t).cells = d.cells := rfl
@[simp] theorem Dev.tick_tables (d : Dev) (t : Nat) : (d.tick t).tables = d.tables := rfl
@[simp] theorem Dev.tick_tableContent (d : Dev) (t : Nat) : (d.tick t).tableContent = d.tableContent := rfl
@[simp] theorem Dev.tick_vpt (d : Dev) (t : Nat) : (d.tick t).vpt = d.vpt := rfl
@[simp] theorem Dev.tick_energy (d : Dev) (t : Nat) : (d.tick t).energy = d.energy := rfl
@[simp] theorem Dev.tick_biases (d : Dev) (t : Nat) : (d.tick t).biases = d.biases := rfl
@[simp] theorem Dev.tick_monitor (d : Dev) (t : Nat) : (d.tick t).monitor = d.monitor := rfl
@[simp] theorem Dev.tick_trigs (d : Dev) (t : Nat) : (d.tick t).trigs = d.trigs := rfl
@[simp] theorem Dev.tick_gleaners (d : Dev) (t : Nat) : (d.tick t).gleaners = d.gleaners := rfl
@[simp] theorem Dev.tick_captures (d : Dev) (t : Nat) : (d.tick t).captures = d.captures := rfl
@[simp] theorem Dev.tick_sheaves (d : Dev) (t : Nat) : (d.tick t).sheaves = d.sheaves := rfl
@[simp] theorem Dev.tick_sheafLostNow (d : Dev) (t : Nat) : (d.tick t).sheafLostNow = d.sheafLostNow := rfl
@[simp] theorem Dev.tick_memctl (d : Dev) (t : Nat) : (d.tick t).memctl = d.memctl := rfl
@[simp] theorem Dev.tick_bale (d : Dev) (t : Nat) : (d.tick t).bale = d.bale := rfl
@[simp] theorem Dev.tick_baleTurn (d : Dev) (t : Nat) : (d.tick t).baleTurn = d.baleTurn := rfl
@[simp] theorem Dev.tick_baleWaits (d : Dev) (t : Nat) : (d.tick t).baleWaits = d.baleWaits := rfl
@[simp] theorem Dev.tick_fns (d : Dev) (t : Nat) : (d.tick t).fns = d.fns := rfl
@[simp] theorem Dev.tick_dma (d : Dev) (t : Nat) : (d.tick t).dma = d.dma := rfl
@[simp] theorem Dev.tick_can (d : Dev) (t : Nat) : (d.tick t).can = d.can := rfl
@[simp] theorem Dev.tick_ports (d : Dev) (t : Nat) : (d.tick t).ports = d.ports := rfl
@[simp] theorem Dev.tick_outstanding (d : Dev) (t : Nat) : (d.tick t).outstanding = d.outstanding := rfl
@[simp] theorem Dev.tick_servedPath (d : Dev) (t : Nat) : (d.tick t).servedPath = d.servedPath := rfl
@[simp] theorem Dev.tick_router (d : Dev) (t : Nat) : (d.tick t).router = d.router := rfl
@[simp] theorem Dev.tick_faults (d : Dev) (t : Nat) : (d.tick t).faults = d.faults := rfl
@[simp] theorem Dev.tick_calib (d : Dev) (t : Nat) : (d.tick t).calib = d.calib := rfl
@[simp] theorem Dev.tick_ageing (d : Dev) (t : Nat) : (d.tick t).ageing = d.ageing := rfl
@[simp] theorem Dev.tick_thermal (d : Dev) (t : Nat) : (d.tick t).thermal = d.thermal := rfl
@[simp] theorem Dev.tick_store (d : Dev) (t : Nat) : (d.tick t).store = d.store := rfl
@[simp] theorem Dev.tick_units (d : Dev) (t : Nat) : (d.tick t).units = d.units := rfl
@[simp] theorem Dev.tick_pins (d : Dev) (t : Nat) : (d.tick t).pins = d.pins := rfl
@[simp] theorem Dev.tick_pinSets (d : Dev) (t : Nat) : (d.tick t).pinSets = d.pinSets := rfl
@[simp] theorem Dev.tick_pulses (d : Dev) (t : Nat) : (d.tick t).pulses = d.pulses := rfl
@[simp] theorem Dev.tick_free (d : Dev) (t : Nat) : (d.tick t).free = d.free := rfl
@[simp] theorem Dev.tick_out (d : Dev) (t : Nat) : (d.tick t).out = d.out := rfl

/-! ### put -/

@[simp] theorem Dev.put_now (d : Dev) (k v : Nat) : (d.put k v).now = d.now := rfl
@[simp] theorem Dev.put_staged (d : Dev) (k v : Nat) : (d.put k v).staged = d.staged := rfl
@[simp] theorem Dev.put_commits (d : Dev) (k v : Nat) : (d.put k v).commits = d.commits := rfl
@[simp] theorem Dev.put_clock (d : Dev) (k v : Nat) : (d.put k v).clock = d.clock := rfl
@[simp] theorem Dev.put_power (d : Dev) (k v : Nat) : (d.put k v).power = d.power := rfl
@[simp] theorem Dev.put_nv (d : Dev) (k v : Nat) : (d.put k v).nv = d.nv := rfl
@[simp] theorem Dev.put_drills (d : Dev) (k v : Nat) : (d.put k v).drills = d.drills := rfl
@[simp] theorem Dev.put_chains (d : Dev) (k v : Nat) : (d.put k v).chains = d.chains := rfl
@[simp] theorem Dev.put_groups (d : Dev) (k v : Nat) : (d.put k v).groups = d.groups := rfl
@[simp] theorem Dev.put_shots (d : Dev) (k v : Nat) : (d.put k v).shots = d.shots := rfl
@[simp] theorem Dev.put_closed (d : Dev) (k v : Nat) : (d.put k v).closed = d.closed := rfl
@[simp] theorem Dev.put_slots (d : Dev) (k v : Nat) : (d.put k v).slots = d.slots := rfl
@[simp] theorem Dev.put_clippedAt (d : Dev) (k v : Nat) : (d.put k v).clippedAt = d.clippedAt := rfl
@[simp] theorem Dev.put_items (d : Dev) (k v : Nat) : (d.put k v).items = d.items := rfl
@[simp] theorem Dev.put_cells (d : Dev) (k v : Nat) : (d.put k v).cells = d.cells := rfl
@[simp] theorem Dev.put_tables (d : Dev) (k v : Nat) : (d.put k v).tables = d.tables := rfl
@[simp] theorem Dev.put_tableContent (d : Dev) (k v : Nat) : (d.put k v).tableContent = d.tableContent := rfl
@[simp] theorem Dev.put_vpt (d : Dev) (k v : Nat) : (d.put k v).vpt = d.vpt := rfl
@[simp] theorem Dev.put_energy (d : Dev) (k v : Nat) : (d.put k v).energy = d.energy := rfl
@[simp] theorem Dev.put_biases (d : Dev) (k v : Nat) : (d.put k v).biases = d.biases := rfl
@[simp] theorem Dev.put_monitor (d : Dev) (k v : Nat) : (d.put k v).monitor = d.monitor := rfl
@[simp] theorem Dev.put_trigs (d : Dev) (k v : Nat) : (d.put k v).trigs = d.trigs := rfl
@[simp] theorem Dev.put_gleaners (d : Dev) (k v : Nat) : (d.put k v).gleaners = d.gleaners := rfl
@[simp] theorem Dev.put_captures (d : Dev) (k v : Nat) : (d.put k v).captures = d.captures := rfl
@[simp] theorem Dev.put_sheaves (d : Dev) (k v : Nat) : (d.put k v).sheaves = d.sheaves := rfl
@[simp] theorem Dev.put_sheafLostNow (d : Dev) (k v : Nat) : (d.put k v).sheafLostNow = d.sheafLostNow := rfl
@[simp] theorem Dev.put_memctl (d : Dev) (k v : Nat) : (d.put k v).memctl = d.memctl := rfl
@[simp] theorem Dev.put_bale (d : Dev) (k v : Nat) : (d.put k v).bale = d.bale := rfl
@[simp] theorem Dev.put_baleTurn (d : Dev) (k v : Nat) : (d.put k v).baleTurn = d.baleTurn := rfl
@[simp] theorem Dev.put_baleWaits (d : Dev) (k v : Nat) : (d.put k v).baleWaits = d.baleWaits := rfl
@[simp] theorem Dev.put_fns (d : Dev) (k v : Nat) : (d.put k v).fns = d.fns := rfl
@[simp] theorem Dev.put_dma (d : Dev) (k v : Nat) : (d.put k v).dma = d.dma := rfl
@[simp] theorem Dev.put_can (d : Dev) (k v : Nat) : (d.put k v).can = d.can := rfl
@[simp] theorem Dev.put_ports (d : Dev) (k v : Nat) : (d.put k v).ports = d.ports := rfl
@[simp] theorem Dev.put_outstanding (d : Dev) (k v : Nat) : (d.put k v).outstanding = d.outstanding := rfl
@[simp] theorem Dev.put_servedPath (d : Dev) (k v : Nat) : (d.put k v).servedPath = d.servedPath := rfl
@[simp] theorem Dev.put_router (d : Dev) (k v : Nat) : (d.put k v).router = d.router := rfl
@[simp] theorem Dev.put_faults (d : Dev) (k v : Nat) : (d.put k v).faults = d.faults := rfl
@[simp] theorem Dev.put_calib (d : Dev) (k v : Nat) : (d.put k v).calib = d.calib := rfl
@[simp] theorem Dev.put_ageing (d : Dev) (k v : Nat) : (d.put k v).ageing = d.ageing := rfl
@[simp] theorem Dev.put_thermal (d : Dev) (k v : Nat) : (d.put k v).thermal = d.thermal := rfl
@[simp] theorem Dev.put_store (d : Dev) (k v : Nat) : (d.put k v).store = d.store := rfl
@[simp] theorem Dev.put_units (d : Dev) (k v : Nat) : (d.put k v).units = d.units := rfl
@[simp] theorem Dev.put_pins (d : Dev) (k v : Nat) : (d.put k v).pins = d.pins := rfl
@[simp] theorem Dev.put_pinSets (d : Dev) (k v : Nat) : (d.put k v).pinSets = d.pinSets := rfl
@[simp] theorem Dev.put_pulses (d : Dev) (k v : Nat) : (d.put k v).pulses = d.pulses := rfl
@[simp] theorem Dev.put_free (d : Dev) (k v : Nat) : (d.put k v).free = d.free := rfl
@[simp] theorem Dev.put_out (d : Dev) (k v : Nat) : (d.put k v).out = d.out := rfl

/-! ### unset -/

@[simp] theorem Dev.unset_now (d : Dev) (k : Nat) : (d.unset k).now = d.now := rfl
@[simp] theorem Dev.unset_staged (d : Dev) (k : Nat) : (d.unset k).staged = d.staged := rfl
@[simp] theorem Dev.unset_commits (d : Dev) (k : Nat) : (d.unset k).commits = d.commits := rfl
@[simp] theorem Dev.unset_clock (d : Dev) (k : Nat) : (d.unset k).clock = d.clock := rfl
@[simp] theorem Dev.unset_power (d : Dev) (k : Nat) : (d.unset k).power = d.power := rfl
@[simp] theorem Dev.unset_nv (d : Dev) (k : Nat) : (d.unset k).nv = d.nv := rfl
@[simp] theorem Dev.unset_drills (d : Dev) (k : Nat) : (d.unset k).drills = d.drills := rfl
@[simp] theorem Dev.unset_chains (d : Dev) (k : Nat) : (d.unset k).chains = d.chains := rfl
@[simp] theorem Dev.unset_groups (d : Dev) (k : Nat) : (d.unset k).groups = d.groups := rfl
@[simp] theorem Dev.unset_shots (d : Dev) (k : Nat) : (d.unset k).shots = d.shots := rfl
@[simp] theorem Dev.unset_closed (d : Dev) (k : Nat) : (d.unset k).closed = d.closed := rfl
@[simp] theorem Dev.unset_slots (d : Dev) (k : Nat) : (d.unset k).slots = d.slots := rfl
@[simp] theorem Dev.unset_clippedAt (d : Dev) (k : Nat) : (d.unset k).clippedAt = d.clippedAt := rfl
@[simp] theorem Dev.unset_items (d : Dev) (k : Nat) : (d.unset k).items = d.items := rfl
@[simp] theorem Dev.unset_cells (d : Dev) (k : Nat) : (d.unset k).cells = d.cells := rfl
@[simp] theorem Dev.unset_tables (d : Dev) (k : Nat) : (d.unset k).tables = d.tables := rfl
@[simp] theorem Dev.unset_tableContent (d : Dev) (k : Nat) : (d.unset k).tableContent = d.tableContent := rfl
@[simp] theorem Dev.unset_vpt (d : Dev) (k : Nat) : (d.unset k).vpt = d.vpt := rfl
@[simp] theorem Dev.unset_energy (d : Dev) (k : Nat) : (d.unset k).energy = d.energy := rfl
@[simp] theorem Dev.unset_biases (d : Dev) (k : Nat) : (d.unset k).biases = d.biases := rfl
@[simp] theorem Dev.unset_monitor (d : Dev) (k : Nat) : (d.unset k).monitor = d.monitor := rfl
@[simp] theorem Dev.unset_trigs (d : Dev) (k : Nat) : (d.unset k).trigs = d.trigs := rfl
@[simp] theorem Dev.unset_gleaners (d : Dev) (k : Nat) : (d.unset k).gleaners = d.gleaners := rfl
@[simp] theorem Dev.unset_captures (d : Dev) (k : Nat) : (d.unset k).captures = d.captures := rfl
@[simp] theorem Dev.unset_sheaves (d : Dev) (k : Nat) : (d.unset k).sheaves = d.sheaves := rfl
@[simp] theorem Dev.unset_sheafLostNow (d : Dev) (k : Nat) : (d.unset k).sheafLostNow = d.sheafLostNow := rfl
@[simp] theorem Dev.unset_memctl (d : Dev) (k : Nat) : (d.unset k).memctl = d.memctl := rfl
@[simp] theorem Dev.unset_bale (d : Dev) (k : Nat) : (d.unset k).bale = d.bale := rfl
@[simp] theorem Dev.unset_baleTurn (d : Dev) (k : Nat) : (d.unset k).baleTurn = d.baleTurn := rfl
@[simp] theorem Dev.unset_baleWaits (d : Dev) (k : Nat) : (d.unset k).baleWaits = d.baleWaits := rfl
@[simp] theorem Dev.unset_fns (d : Dev) (k : Nat) : (d.unset k).fns = d.fns := rfl
@[simp] theorem Dev.unset_dma (d : Dev) (k : Nat) : (d.unset k).dma = d.dma := rfl
@[simp] theorem Dev.unset_can (d : Dev) (k : Nat) : (d.unset k).can = d.can := rfl
@[simp] theorem Dev.unset_ports (d : Dev) (k : Nat) : (d.unset k).ports = d.ports := rfl
@[simp] theorem Dev.unset_outstanding (d : Dev) (k : Nat) : (d.unset k).outstanding = d.outstanding := rfl
@[simp] theorem Dev.unset_servedPath (d : Dev) (k : Nat) : (d.unset k).servedPath = d.servedPath := rfl
@[simp] theorem Dev.unset_router (d : Dev) (k : Nat) : (d.unset k).router = d.router := rfl
@[simp] theorem Dev.unset_faults (d : Dev) (k : Nat) : (d.unset k).faults = d.faults := rfl
@[simp] theorem Dev.unset_calib (d : Dev) (k : Nat) : (d.unset k).calib = d.calib := rfl
@[simp] theorem Dev.unset_ageing (d : Dev) (k : Nat) : (d.unset k).ageing = d.ageing := rfl
@[simp] theorem Dev.unset_thermal (d : Dev) (k : Nat) : (d.unset k).thermal = d.thermal := rfl
@[simp] theorem Dev.unset_store (d : Dev) (k : Nat) : (d.unset k).store = d.store := rfl
@[simp] theorem Dev.unset_units (d : Dev) (k : Nat) : (d.unset k).units = d.units := rfl
@[simp] theorem Dev.unset_pins (d : Dev) (k : Nat) : (d.unset k).pins = d.pins := rfl
@[simp] theorem Dev.unset_pinSets (d : Dev) (k : Nat) : (d.unset k).pinSets = d.pinSets := rfl
@[simp] theorem Dev.unset_pulses (d : Dev) (k : Nat) : (d.unset k).pulses = d.pulses := rfl
@[simp] theorem Dev.unset_free (d : Dev) (k : Nat) : (d.unset k).free = d.free := rfl
@[simp] theorem Dev.unset_out (d : Dev) (k : Nat) : (d.unset k).out = d.out := rfl

/-! ### bump -/

@[simp] theorem Dev.bump_now (d : Dev) (k : Nat) : (d.bump k).now = d.now := rfl
@[simp] theorem Dev.bump_staged (d : Dev) (k : Nat) : (d.bump k).staged = d.staged := rfl
@[simp] theorem Dev.bump_commits (d : Dev) (k : Nat) : (d.bump k).commits = d.commits := rfl
@[simp] theorem Dev.bump_clock (d : Dev) (k : Nat) : (d.bump k).clock = d.clock := rfl
@[simp] theorem Dev.bump_power (d : Dev) (k : Nat) : (d.bump k).power = d.power := rfl
@[simp] theorem Dev.bump_nv (d : Dev) (k : Nat) : (d.bump k).nv = d.nv := rfl
@[simp] theorem Dev.bump_drills (d : Dev) (k : Nat) : (d.bump k).drills = d.drills := rfl
@[simp] theorem Dev.bump_chains (d : Dev) (k : Nat) : (d.bump k).chains = d.chains := rfl
@[simp] theorem Dev.bump_groups (d : Dev) (k : Nat) : (d.bump k).groups = d.groups := rfl
@[simp] theorem Dev.bump_shots (d : Dev) (k : Nat) : (d.bump k).shots = d.shots := rfl
@[simp] theorem Dev.bump_closed (d : Dev) (k : Nat) : (d.bump k).closed = d.closed := rfl
@[simp] theorem Dev.bump_slots (d : Dev) (k : Nat) : (d.bump k).slots = d.slots := rfl
@[simp] theorem Dev.bump_clippedAt (d : Dev) (k : Nat) : (d.bump k).clippedAt = d.clippedAt := rfl
@[simp] theorem Dev.bump_items (d : Dev) (k : Nat) : (d.bump k).items = d.items := rfl
@[simp] theorem Dev.bump_cells (d : Dev) (k : Nat) : (d.bump k).cells = d.cells := rfl
@[simp] theorem Dev.bump_tables (d : Dev) (k : Nat) : (d.bump k).tables = d.tables := rfl
@[simp] theorem Dev.bump_tableContent (d : Dev) (k : Nat) : (d.bump k).tableContent = d.tableContent := rfl
@[simp] theorem Dev.bump_vpt (d : Dev) (k : Nat) : (d.bump k).vpt = d.vpt := rfl
@[simp] theorem Dev.bump_energy (d : Dev) (k : Nat) : (d.bump k).energy = d.energy := rfl
@[simp] theorem Dev.bump_biases (d : Dev) (k : Nat) : (d.bump k).biases = d.biases := rfl
@[simp] theorem Dev.bump_monitor (d : Dev) (k : Nat) : (d.bump k).monitor = d.monitor := rfl
@[simp] theorem Dev.bump_trigs (d : Dev) (k : Nat) : (d.bump k).trigs = d.trigs := rfl
@[simp] theorem Dev.bump_gleaners (d : Dev) (k : Nat) : (d.bump k).gleaners = d.gleaners := rfl
@[simp] theorem Dev.bump_captures (d : Dev) (k : Nat) : (d.bump k).captures = d.captures := rfl
@[simp] theorem Dev.bump_sheaves (d : Dev) (k : Nat) : (d.bump k).sheaves = d.sheaves := rfl
@[simp] theorem Dev.bump_sheafLostNow (d : Dev) (k : Nat) : (d.bump k).sheafLostNow = d.sheafLostNow := rfl
@[simp] theorem Dev.bump_memctl (d : Dev) (k : Nat) : (d.bump k).memctl = d.memctl := rfl
@[simp] theorem Dev.bump_bale (d : Dev) (k : Nat) : (d.bump k).bale = d.bale := rfl
@[simp] theorem Dev.bump_baleTurn (d : Dev) (k : Nat) : (d.bump k).baleTurn = d.baleTurn := rfl
@[simp] theorem Dev.bump_baleWaits (d : Dev) (k : Nat) : (d.bump k).baleWaits = d.baleWaits := rfl
@[simp] theorem Dev.bump_fns (d : Dev) (k : Nat) : (d.bump k).fns = d.fns := rfl
@[simp] theorem Dev.bump_dma (d : Dev) (k : Nat) : (d.bump k).dma = d.dma := rfl
@[simp] theorem Dev.bump_can (d : Dev) (k : Nat) : (d.bump k).can = d.can := rfl
@[simp] theorem Dev.bump_ports (d : Dev) (k : Nat) : (d.bump k).ports = d.ports := rfl
@[simp] theorem Dev.bump_outstanding (d : Dev) (k : Nat) : (d.bump k).outstanding = d.outstanding := rfl
@[simp] theorem Dev.bump_servedPath (d : Dev) (k : Nat) : (d.bump k).servedPath = d.servedPath := rfl
@[simp] theorem Dev.bump_router (d : Dev) (k : Nat) : (d.bump k).router = d.router := rfl
@[simp] theorem Dev.bump_faults (d : Dev) (k : Nat) : (d.bump k).faults = d.faults := rfl
@[simp] theorem Dev.bump_calib (d : Dev) (k : Nat) : (d.bump k).calib = d.calib := rfl
@[simp] theorem Dev.bump_ageing (d : Dev) (k : Nat) : (d.bump k).ageing = d.ageing := rfl
@[simp] theorem Dev.bump_thermal (d : Dev) (k : Nat) : (d.bump k).thermal = d.thermal := rfl
@[simp] theorem Dev.bump_store (d : Dev) (k : Nat) : (d.bump k).store = d.store := rfl
@[simp] theorem Dev.bump_units (d : Dev) (k : Nat) : (d.bump k).units = d.units := rfl
@[simp] theorem Dev.bump_pins (d : Dev) (k : Nat) : (d.bump k).pins = d.pins := rfl
@[simp] theorem Dev.bump_pinSets (d : Dev) (k : Nat) : (d.bump k).pinSets = d.pinSets := rfl
@[simp] theorem Dev.bump_pulses (d : Dev) (k : Nat) : (d.bump k).pulses = d.pulses := rfl
@[simp] theorem Dev.bump_free (d : Dev) (k : Nat) : (d.bump k).free = d.free := rfl
@[simp] theorem Dev.bump_out (d : Dev) (k : Nat) : (d.bump k).out = d.out := rfl

/-! ### bump64 -/

@[simp] theorem Dev.bump64_now (d : Dev) (k : Nat) : (d.bump64 k).now = d.now := rfl
@[simp] theorem Dev.bump64_staged (d : Dev) (k : Nat) : (d.bump64 k).staged = d.staged := rfl
@[simp] theorem Dev.bump64_commits (d : Dev) (k : Nat) : (d.bump64 k).commits = d.commits := rfl
@[simp] theorem Dev.bump64_clock (d : Dev) (k : Nat) : (d.bump64 k).clock = d.clock := rfl
@[simp] theorem Dev.bump64_power (d : Dev) (k : Nat) : (d.bump64 k).power = d.power := rfl
@[simp] theorem Dev.bump64_nv (d : Dev) (k : Nat) : (d.bump64 k).nv = d.nv := rfl
@[simp] theorem Dev.bump64_drills (d : Dev) (k : Nat) : (d.bump64 k).drills = d.drills := rfl
@[simp] theorem Dev.bump64_chains (d : Dev) (k : Nat) : (d.bump64 k).chains = d.chains := rfl
@[simp] theorem Dev.bump64_groups (d : Dev) (k : Nat) : (d.bump64 k).groups = d.groups := rfl
@[simp] theorem Dev.bump64_shots (d : Dev) (k : Nat) : (d.bump64 k).shots = d.shots := rfl
@[simp] theorem Dev.bump64_closed (d : Dev) (k : Nat) : (d.bump64 k).closed = d.closed := rfl
@[simp] theorem Dev.bump64_slots (d : Dev) (k : Nat) : (d.bump64 k).slots = d.slots := rfl
@[simp] theorem Dev.bump64_clippedAt (d : Dev) (k : Nat) : (d.bump64 k).clippedAt = d.clippedAt := rfl
@[simp] theorem Dev.bump64_items (d : Dev) (k : Nat) : (d.bump64 k).items = d.items := rfl
@[simp] theorem Dev.bump64_cells (d : Dev) (k : Nat) : (d.bump64 k).cells = d.cells := rfl
@[simp] theorem Dev.bump64_tables (d : Dev) (k : Nat) : (d.bump64 k).tables = d.tables := rfl
@[simp] theorem Dev.bump64_tableContent (d : Dev) (k : Nat) : (d.bump64 k).tableContent = d.tableContent := rfl
@[simp] theorem Dev.bump64_vpt (d : Dev) (k : Nat) : (d.bump64 k).vpt = d.vpt := rfl
@[simp] theorem Dev.bump64_energy (d : Dev) (k : Nat) : (d.bump64 k).energy = d.energy := rfl
@[simp] theorem Dev.bump64_biases (d : Dev) (k : Nat) : (d.bump64 k).biases = d.biases := rfl
@[simp] theorem Dev.bump64_monitor (d : Dev) (k : Nat) : (d.bump64 k).monitor = d.monitor := rfl
@[simp] theorem Dev.bump64_trigs (d : Dev) (k : Nat) : (d.bump64 k).trigs = d.trigs := rfl
@[simp] theorem Dev.bump64_gleaners (d : Dev) (k : Nat) : (d.bump64 k).gleaners = d.gleaners := rfl
@[simp] theorem Dev.bump64_captures (d : Dev) (k : Nat) : (d.bump64 k).captures = d.captures := rfl
@[simp] theorem Dev.bump64_sheaves (d : Dev) (k : Nat) : (d.bump64 k).sheaves = d.sheaves := rfl
@[simp] theorem Dev.bump64_sheafLostNow (d : Dev) (k : Nat) : (d.bump64 k).sheafLostNow = d.sheafLostNow := rfl
@[simp] theorem Dev.bump64_memctl (d : Dev) (k : Nat) : (d.bump64 k).memctl = d.memctl := rfl
@[simp] theorem Dev.bump64_bale (d : Dev) (k : Nat) : (d.bump64 k).bale = d.bale := rfl
@[simp] theorem Dev.bump64_baleTurn (d : Dev) (k : Nat) : (d.bump64 k).baleTurn = d.baleTurn := rfl
@[simp] theorem Dev.bump64_baleWaits (d : Dev) (k : Nat) : (d.bump64 k).baleWaits = d.baleWaits := rfl
@[simp] theorem Dev.bump64_fns (d : Dev) (k : Nat) : (d.bump64 k).fns = d.fns := rfl
@[simp] theorem Dev.bump64_dma (d : Dev) (k : Nat) : (d.bump64 k).dma = d.dma := rfl
@[simp] theorem Dev.bump64_can (d : Dev) (k : Nat) : (d.bump64 k).can = d.can := rfl
@[simp] theorem Dev.bump64_ports (d : Dev) (k : Nat) : (d.bump64 k).ports = d.ports := rfl
@[simp] theorem Dev.bump64_outstanding (d : Dev) (k : Nat) : (d.bump64 k).outstanding = d.outstanding := rfl
@[simp] theorem Dev.bump64_servedPath (d : Dev) (k : Nat) : (d.bump64 k).servedPath = d.servedPath := rfl
@[simp] theorem Dev.bump64_router (d : Dev) (k : Nat) : (d.bump64 k).router = d.router := rfl
@[simp] theorem Dev.bump64_faults (d : Dev) (k : Nat) : (d.bump64 k).faults = d.faults := rfl
@[simp] theorem Dev.bump64_calib (d : Dev) (k : Nat) : (d.bump64 k).calib = d.calib := rfl
@[simp] theorem Dev.bump64_ageing (d : Dev) (k : Nat) : (d.bump64 k).ageing = d.ageing := rfl
@[simp] theorem Dev.bump64_thermal (d : Dev) (k : Nat) : (d.bump64 k).thermal = d.thermal := rfl
@[simp] theorem Dev.bump64_store (d : Dev) (k : Nat) : (d.bump64 k).store = d.store := rfl
@[simp] theorem Dev.bump64_units (d : Dev) (k : Nat) : (d.bump64 k).units = d.units := rfl
@[simp] theorem Dev.bump64_pins (d : Dev) (k : Nat) : (d.bump64 k).pins = d.pins := rfl
@[simp] theorem Dev.bump64_pinSets (d : Dev) (k : Nat) : (d.bump64 k).pinSets = d.pinSets := rfl
@[simp] theorem Dev.bump64_pulses (d : Dev) (k : Nat) : (d.bump64 k).pulses = d.pulses := rfl
@[simp] theorem Dev.bump64_free (d : Dev) (k : Nat) : (d.bump64 k).free = d.free := rfl
@[simp] theorem Dev.bump64_out (d : Dev) (k : Nat) : (d.bump64 k).out = d.out := rfl

/-! ### used -/

@[simp] theorem Dev.used_now (d : Dev) : (d.used).now = d.now := rfl
@[simp] theorem Dev.used_objs (d : Dev) : (d.used).objs = d.objs := rfl
@[simp] theorem Dev.used_staged (d : Dev) : (d.used).staged = d.staged := rfl
@[simp] theorem Dev.used_commits (d : Dev) : (d.used).commits = d.commits := rfl
@[simp] theorem Dev.used_clock (d : Dev) : (d.used).clock = d.clock := rfl
@[simp] theorem Dev.used_power (d : Dev) : (d.used).power = d.power := rfl
@[simp] theorem Dev.used_nv (d : Dev) : (d.used).nv = d.nv := rfl
@[simp] theorem Dev.used_drills (d : Dev) : (d.used).drills = d.drills := rfl
@[simp] theorem Dev.used_chains (d : Dev) : (d.used).chains = d.chains := rfl
@[simp] theorem Dev.used_groups (d : Dev) : (d.used).groups = d.groups := rfl
@[simp] theorem Dev.used_shots (d : Dev) : (d.used).shots = d.shots := rfl
@[simp] theorem Dev.used_closed (d : Dev) : (d.used).closed = d.closed := rfl
@[simp] theorem Dev.used_slots (d : Dev) : (d.used).slots = d.slots := rfl
@[simp] theorem Dev.used_clippedAt (d : Dev) : (d.used).clippedAt = d.clippedAt := rfl
@[simp] theorem Dev.used_items (d : Dev) : (d.used).items = d.items := rfl
@[simp] theorem Dev.used_cells (d : Dev) : (d.used).cells = d.cells := rfl
@[simp] theorem Dev.used_tables (d : Dev) : (d.used).tables = d.tables := rfl
@[simp] theorem Dev.used_tableContent (d : Dev) : (d.used).tableContent = d.tableContent := rfl
@[simp] theorem Dev.used_vpt (d : Dev) : (d.used).vpt = d.vpt := rfl
@[simp] theorem Dev.used_energy (d : Dev) : (d.used).energy = d.energy := rfl
@[simp] theorem Dev.used_biases (d : Dev) : (d.used).biases = d.biases := rfl
@[simp] theorem Dev.used_monitor (d : Dev) : (d.used).monitor = d.monitor := rfl
@[simp] theorem Dev.used_trigs (d : Dev) : (d.used).trigs = d.trigs := rfl
@[simp] theorem Dev.used_gleaners (d : Dev) : (d.used).gleaners = d.gleaners := rfl
@[simp] theorem Dev.used_captures (d : Dev) : (d.used).captures = d.captures := rfl
@[simp] theorem Dev.used_sheaves (d : Dev) : (d.used).sheaves = d.sheaves := rfl
@[simp] theorem Dev.used_sheafLostNow (d : Dev) : (d.used).sheafLostNow = d.sheafLostNow := rfl
@[simp] theorem Dev.used_memctl (d : Dev) : (d.used).memctl = d.memctl := rfl
@[simp] theorem Dev.used_bale (d : Dev) : (d.used).bale = d.bale := rfl
@[simp] theorem Dev.used_baleTurn (d : Dev) : (d.used).baleTurn = d.baleTurn := rfl
@[simp] theorem Dev.used_baleWaits (d : Dev) : (d.used).baleWaits = d.baleWaits := rfl
@[simp] theorem Dev.used_fns (d : Dev) : (d.used).fns = d.fns := rfl
@[simp] theorem Dev.used_dma (d : Dev) : (d.used).dma = d.dma := rfl
@[simp] theorem Dev.used_can (d : Dev) : (d.used).can = d.can := rfl
@[simp] theorem Dev.used_ports (d : Dev) : (d.used).ports = d.ports := rfl
@[simp] theorem Dev.used_outstanding (d : Dev) : (d.used).outstanding = d.outstanding := rfl
@[simp] theorem Dev.used_servedPath (d : Dev) : (d.used).servedPath = d.servedPath := rfl
@[simp] theorem Dev.used_router (d : Dev) : (d.used).router = d.router := rfl
@[simp] theorem Dev.used_faults (d : Dev) : (d.used).faults = d.faults := rfl
@[simp] theorem Dev.used_calib (d : Dev) : (d.used).calib = d.calib := rfl
@[simp] theorem Dev.used_ageing (d : Dev) : (d.used).ageing = d.ageing := rfl
@[simp] theorem Dev.used_thermal (d : Dev) : (d.used).thermal = d.thermal := rfl
@[simp] theorem Dev.used_store (d : Dev) : (d.used).store = d.store := rfl
@[simp] theorem Dev.used_units (d : Dev) : (d.used).units = d.units := rfl
@[simp] theorem Dev.used_pins (d : Dev) : (d.used).pins = d.pins := rfl
@[simp] theorem Dev.used_pinSets (d : Dev) : (d.used).pinSets = d.pinSets := rfl
@[simp] theorem Dev.used_pulses (d : Dev) : (d.used).pulses = d.pulses := rfl
@[simp] theorem Dev.used_out (d : Dev) : (d.used).out = d.out := rfl

/-! ### emit -/

@[simp] theorem Dev.emit_now (d : Dev) (o : Output) : (d.emit o).now = d.now := rfl
@[simp] theorem Dev.emit_objs (d : Dev) (o : Output) : (d.emit o).objs = d.objs := rfl
@[simp] theorem Dev.emit_staged (d : Dev) (o : Output) : (d.emit o).staged = d.staged := rfl
@[simp] theorem Dev.emit_commits (d : Dev) (o : Output) : (d.emit o).commits = d.commits := rfl
@[simp] theorem Dev.emit_clock (d : Dev) (o : Output) : (d.emit o).clock = d.clock := rfl
@[simp] theorem Dev.emit_power (d : Dev) (o : Output) : (d.emit o).power = d.power := rfl
@[simp] theorem Dev.emit_nv (d : Dev) (o : Output) : (d.emit o).nv = d.nv := rfl
@[simp] theorem Dev.emit_drills (d : Dev) (o : Output) : (d.emit o).drills = d.drills := rfl
@[simp] theorem Dev.emit_chains (d : Dev) (o : Output) : (d.emit o).chains = d.chains := rfl
@[simp] theorem Dev.emit_groups (d : Dev) (o : Output) : (d.emit o).groups = d.groups := rfl
@[simp] theorem Dev.emit_shots (d : Dev) (o : Output) : (d.emit o).shots = d.shots := rfl
@[simp] theorem Dev.emit_closed (d : Dev) (o : Output) : (d.emit o).closed = d.closed := rfl
@[simp] theorem Dev.emit_slots (d : Dev) (o : Output) : (d.emit o).slots = d.slots := rfl
@[simp] theorem Dev.emit_clippedAt (d : Dev) (o : Output) : (d.emit o).clippedAt = d.clippedAt := rfl
@[simp] theorem Dev.emit_items (d : Dev) (o : Output) : (d.emit o).items = d.items := rfl
@[simp] theorem Dev.emit_cells (d : Dev) (o : Output) : (d.emit o).cells = d.cells := rfl
@[simp] theorem Dev.emit_tables (d : Dev) (o : Output) : (d.emit o).tables = d.tables := rfl
@[simp] theorem Dev.emit_tableContent (d : Dev) (o : Output) : (d.emit o).tableContent = d.tableContent := rfl
@[simp] theorem Dev.emit_vpt (d : Dev) (o : Output) : (d.emit o).vpt = d.vpt := rfl
@[simp] theorem Dev.emit_energy (d : Dev) (o : Output) : (d.emit o).energy = d.energy := rfl
@[simp] theorem Dev.emit_biases (d : Dev) (o : Output) : (d.emit o).biases = d.biases := rfl
@[simp] theorem Dev.emit_monitor (d : Dev) (o : Output) : (d.emit o).monitor = d.monitor := rfl
@[simp] theorem Dev.emit_trigs (d : Dev) (o : Output) : (d.emit o).trigs = d.trigs := rfl
@[simp] theorem Dev.emit_gleaners (d : Dev) (o : Output) : (d.emit o).gleaners = d.gleaners := rfl
@[simp] theorem Dev.emit_captures (d : Dev) (o : Output) : (d.emit o).captures = d.captures := rfl
@[simp] theorem Dev.emit_sheaves (d : Dev) (o : Output) : (d.emit o).sheaves = d.sheaves := rfl
@[simp] theorem Dev.emit_sheafLostNow (d : Dev) (o : Output) : (d.emit o).sheafLostNow = d.sheafLostNow := rfl
@[simp] theorem Dev.emit_memctl (d : Dev) (o : Output) : (d.emit o).memctl = d.memctl := rfl
@[simp] theorem Dev.emit_bale (d : Dev) (o : Output) : (d.emit o).bale = d.bale := rfl
@[simp] theorem Dev.emit_baleTurn (d : Dev) (o : Output) : (d.emit o).baleTurn = d.baleTurn := rfl
@[simp] theorem Dev.emit_baleWaits (d : Dev) (o : Output) : (d.emit o).baleWaits = d.baleWaits := rfl
@[simp] theorem Dev.emit_fns (d : Dev) (o : Output) : (d.emit o).fns = d.fns := rfl
@[simp] theorem Dev.emit_dma (d : Dev) (o : Output) : (d.emit o).dma = d.dma := rfl
@[simp] theorem Dev.emit_can (d : Dev) (o : Output) : (d.emit o).can = d.can := rfl
@[simp] theorem Dev.emit_ports (d : Dev) (o : Output) : (d.emit o).ports = d.ports := rfl
@[simp] theorem Dev.emit_outstanding (d : Dev) (o : Output) : (d.emit o).outstanding = d.outstanding := rfl
@[simp] theorem Dev.emit_servedPath (d : Dev) (o : Output) : (d.emit o).servedPath = d.servedPath := rfl
@[simp] theorem Dev.emit_router (d : Dev) (o : Output) : (d.emit o).router = d.router := rfl
@[simp] theorem Dev.emit_faults (d : Dev) (o : Output) : (d.emit o).faults = d.faults := rfl
@[simp] theorem Dev.emit_calib (d : Dev) (o : Output) : (d.emit o).calib = d.calib := rfl
@[simp] theorem Dev.emit_ageing (d : Dev) (o : Output) : (d.emit o).ageing = d.ageing := rfl
@[simp] theorem Dev.emit_thermal (d : Dev) (o : Output) : (d.emit o).thermal = d.thermal := rfl
@[simp] theorem Dev.emit_store (d : Dev) (o : Output) : (d.emit o).store = d.store := rfl
@[simp] theorem Dev.emit_units (d : Dev) (o : Output) : (d.emit o).units = d.units := rfl
@[simp] theorem Dev.emit_pins (d : Dev) (o : Output) : (d.emit o).pins = d.pins := rfl
@[simp] theorem Dev.emit_pinSets (d : Dev) (o : Output) : (d.emit o).pinSets = d.pinSets := rfl
@[simp] theorem Dev.emit_pulses (d : Dev) (o : Output) : (d.emit o).pulses = d.pulses := rfl
@[simp] theorem Dev.emit_free (d : Dev) (o : Output) : (d.emit o).free = d.free := rfl

/-! ### setDrill -/

@[simp] theorem Dev.setDrill_now (d : Dev) (n : Nat) (x : Drill) : (d.setDrill n x).now = d.now := rfl
@[simp] theorem Dev.setDrill_objs (d : Dev) (n : Nat) (x : Drill) : (d.setDrill n x).objs = d.objs := rfl
@[simp] theorem Dev.setDrill_staged (d : Dev) (n : Nat) (x : Drill) : (d.setDrill n x).staged = d.staged := rfl
@[simp] theorem Dev.setDrill_commits (d : Dev) (n : Nat) (x : Drill) : (d.setDrill n x).commits = d.commits := rfl
@[simp] theorem Dev.setDrill_clock (d : Dev) (n : Nat) (x : Drill) : (d.setDrill n x).clock = d.clock := rfl
@[simp] theorem Dev.setDrill_power (d : Dev) (n : Nat) (x : Drill) : (d.setDrill n x).power = d.power := rfl
@[simp] theorem Dev.setDrill_nv (d : Dev) (n : Nat) (x : Drill) : (d.setDrill n x).nv = d.nv := rfl
@[simp] theorem Dev.setDrill_chains (d : Dev) (n : Nat) (x : Drill) : (d.setDrill n x).chains = d.chains := rfl
@[simp] theorem Dev.setDrill_groups (d : Dev) (n : Nat) (x : Drill) : (d.setDrill n x).groups = d.groups := rfl
@[simp] theorem Dev.setDrill_shots (d : Dev) (n : Nat) (x : Drill) : (d.setDrill n x).shots = d.shots := rfl
@[simp] theorem Dev.setDrill_closed (d : Dev) (n : Nat) (x : Drill) : (d.setDrill n x).closed = d.closed := rfl
@[simp] theorem Dev.setDrill_slots (d : Dev) (n : Nat) (x : Drill) : (d.setDrill n x).slots = d.slots := rfl
@[simp] theorem Dev.setDrill_clippedAt (d : Dev) (n : Nat) (x : Drill) : (d.setDrill n x).clippedAt = d.clippedAt := rfl
@[simp] theorem Dev.setDrill_items (d : Dev) (n : Nat) (x : Drill) : (d.setDrill n x).items = d.items := rfl
@[simp] theorem Dev.setDrill_cells (d : Dev) (n : Nat) (x : Drill) : (d.setDrill n x).cells = d.cells := rfl
@[simp] theorem Dev.setDrill_tables (d : Dev) (n : Nat) (x : Drill) : (d.setDrill n x).tables = d.tables := rfl
@[simp] theorem Dev.setDrill_tableContent (d : Dev) (n : Nat) (x : Drill) : (d.setDrill n x).tableContent = d.tableContent := rfl
@[simp] theorem Dev.setDrill_vpt (d : Dev) (n : Nat) (x : Drill) : (d.setDrill n x).vpt = d.vpt := rfl
@[simp] theorem Dev.setDrill_energy (d : Dev) (n : Nat) (x : Drill) : (d.setDrill n x).energy = d.energy := rfl
@[simp] theorem Dev.setDrill_biases (d : Dev) (n : Nat) (x : Drill) : (d.setDrill n x).biases = d.biases := rfl
@[simp] theorem Dev.setDrill_monitor (d : Dev) (n : Nat) (x : Drill) : (d.setDrill n x).monitor = d.monitor := rfl
@[simp] theorem Dev.setDrill_trigs (d : Dev) (n : Nat) (x : Drill) : (d.setDrill n x).trigs = d.trigs := rfl
@[simp] theorem Dev.setDrill_gleaners (d : Dev) (n : Nat) (x : Drill) : (d.setDrill n x).gleaners = d.gleaners := rfl
@[simp] theorem Dev.setDrill_captures (d : Dev) (n : Nat) (x : Drill) : (d.setDrill n x).captures = d.captures := rfl
@[simp] theorem Dev.setDrill_sheaves (d : Dev) (n : Nat) (x : Drill) : (d.setDrill n x).sheaves = d.sheaves := rfl
@[simp] theorem Dev.setDrill_sheafLostNow (d : Dev) (n : Nat) (x : Drill) : (d.setDrill n x).sheafLostNow = d.sheafLostNow := rfl
@[simp] theorem Dev.setDrill_memctl (d : Dev) (n : Nat) (x : Drill) : (d.setDrill n x).memctl = d.memctl := rfl
@[simp] theorem Dev.setDrill_bale (d : Dev) (n : Nat) (x : Drill) : (d.setDrill n x).bale = d.bale := rfl
@[simp] theorem Dev.setDrill_baleTurn (d : Dev) (n : Nat) (x : Drill) : (d.setDrill n x).baleTurn = d.baleTurn := rfl
@[simp] theorem Dev.setDrill_baleWaits (d : Dev) (n : Nat) (x : Drill) : (d.setDrill n x).baleWaits = d.baleWaits := rfl
@[simp] theorem Dev.setDrill_fns (d : Dev) (n : Nat) (x : Drill) : (d.setDrill n x).fns = d.fns := rfl
@[simp] theorem Dev.setDrill_dma (d : Dev) (n : Nat) (x : Drill) : (d.setDrill n x).dma = d.dma := rfl
@[simp] theorem Dev.setDrill_can (d : Dev) (n : Nat) (x : Drill) : (d.setDrill n x).can = d.can := rfl
@[simp] theorem Dev.setDrill_ports (d : Dev) (n : Nat) (x : Drill) : (d.setDrill n x).ports = d.ports := rfl
@[simp] theorem Dev.setDrill_outstanding (d : Dev) (n : Nat) (x : Drill) : (d.setDrill n x).outstanding = d.outstanding := rfl
@[simp] theorem Dev.setDrill_servedPath (d : Dev) (n : Nat) (x : Drill) : (d.setDrill n x).servedPath = d.servedPath := rfl
@[simp] theorem Dev.setDrill_router (d : Dev) (n : Nat) (x : Drill) : (d.setDrill n x).router = d.router := rfl
@[simp] theorem Dev.setDrill_faults (d : Dev) (n : Nat) (x : Drill) : (d.setDrill n x).faults = d.faults := rfl
@[simp] theorem Dev.setDrill_calib (d : Dev) (n : Nat) (x : Drill) : (d.setDrill n x).calib = d.calib := rfl
@[simp] theorem Dev.setDrill_ageing (d : Dev) (n : Nat) (x : Drill) : (d.setDrill n x).ageing = d.ageing := rfl
@[simp] theorem Dev.setDrill_thermal (d : Dev) (n : Nat) (x : Drill) : (d.setDrill n x).thermal = d.thermal := rfl
@[simp] theorem Dev.setDrill_store (d : Dev) (n : Nat) (x : Drill) : (d.setDrill n x).store = d.store := rfl
@[simp] theorem Dev.setDrill_units (d : Dev) (n : Nat) (x : Drill) : (d.setDrill n x).units = d.units := rfl
@[simp] theorem Dev.setDrill_pins (d : Dev) (n : Nat) (x : Drill) : (d.setDrill n x).pins = d.pins := rfl
@[simp] theorem Dev.setDrill_pinSets (d : Dev) (n : Nat) (x : Drill) : (d.setDrill n x).pinSets = d.pinSets := rfl
@[simp] theorem Dev.setDrill_pulses (d : Dev) (n : Nat) (x : Drill) : (d.setDrill n x).pulses = d.pulses := rfl
@[simp] theorem Dev.setDrill_free (d : Dev) (n : Nat) (x : Drill) : (d.setDrill n x).free = d.free := rfl
@[simp] theorem Dev.setDrill_out (d : Dev) (n : Nat) (x : Drill) : (d.setDrill n x).out = d.out := rfl

/-! ### setChain -/

@[simp] theorem Dev.setChain_now (d : Dev) (n : Nat) (x : Chain) : (d.setChain n x).now = d.now := rfl
@[simp] theorem Dev.setChain_objs (d : Dev) (n : Nat) (x : Chain) : (d.setChain n x).objs = d.objs := rfl
@[simp] theorem Dev.setChain_staged (d : Dev) (n : Nat) (x : Chain) : (d.setChain n x).staged = d.staged := rfl
@[simp] theorem Dev.setChain_commits (d : Dev) (n : Nat) (x : Chain) : (d.setChain n x).commits = d.commits := rfl
@[simp] theorem Dev.setChain_clock (d : Dev) (n : Nat) (x : Chain) : (d.setChain n x).clock = d.clock := rfl
@[simp] theorem Dev.setChain_power (d : Dev) (n : Nat) (x : Chain) : (d.setChain n x).power = d.power := rfl
@[simp] theorem Dev.setChain_nv (d : Dev) (n : Nat) (x : Chain) : (d.setChain n x).nv = d.nv := rfl
@[simp] theorem Dev.setChain_drills (d : Dev) (n : Nat) (x : Chain) : (d.setChain n x).drills = d.drills := rfl
@[simp] theorem Dev.setChain_groups (d : Dev) (n : Nat) (x : Chain) : (d.setChain n x).groups = d.groups := rfl
@[simp] theorem Dev.setChain_shots (d : Dev) (n : Nat) (x : Chain) : (d.setChain n x).shots = d.shots := rfl
@[simp] theorem Dev.setChain_closed (d : Dev) (n : Nat) (x : Chain) : (d.setChain n x).closed = d.closed := rfl
@[simp] theorem Dev.setChain_slots (d : Dev) (n : Nat) (x : Chain) : (d.setChain n x).slots = d.slots := rfl
@[simp] theorem Dev.setChain_clippedAt (d : Dev) (n : Nat) (x : Chain) : (d.setChain n x).clippedAt = d.clippedAt := rfl
@[simp] theorem Dev.setChain_items (d : Dev) (n : Nat) (x : Chain) : (d.setChain n x).items = d.items := rfl
@[simp] theorem Dev.setChain_cells (d : Dev) (n : Nat) (x : Chain) : (d.setChain n x).cells = d.cells := rfl
@[simp] theorem Dev.setChain_tables (d : Dev) (n : Nat) (x : Chain) : (d.setChain n x).tables = d.tables := rfl
@[simp] theorem Dev.setChain_tableContent (d : Dev) (n : Nat) (x : Chain) : (d.setChain n x).tableContent = d.tableContent := rfl
@[simp] theorem Dev.setChain_vpt (d : Dev) (n : Nat) (x : Chain) : (d.setChain n x).vpt = d.vpt := rfl
@[simp] theorem Dev.setChain_energy (d : Dev) (n : Nat) (x : Chain) : (d.setChain n x).energy = d.energy := rfl
@[simp] theorem Dev.setChain_biases (d : Dev) (n : Nat) (x : Chain) : (d.setChain n x).biases = d.biases := rfl
@[simp] theorem Dev.setChain_monitor (d : Dev) (n : Nat) (x : Chain) : (d.setChain n x).monitor = d.monitor := rfl
@[simp] theorem Dev.setChain_trigs (d : Dev) (n : Nat) (x : Chain) : (d.setChain n x).trigs = d.trigs := rfl
@[simp] theorem Dev.setChain_gleaners (d : Dev) (n : Nat) (x : Chain) : (d.setChain n x).gleaners = d.gleaners := rfl
@[simp] theorem Dev.setChain_captures (d : Dev) (n : Nat) (x : Chain) : (d.setChain n x).captures = d.captures := rfl
@[simp] theorem Dev.setChain_sheaves (d : Dev) (n : Nat) (x : Chain) : (d.setChain n x).sheaves = d.sheaves := rfl
@[simp] theorem Dev.setChain_sheafLostNow (d : Dev) (n : Nat) (x : Chain) : (d.setChain n x).sheafLostNow = d.sheafLostNow := rfl
@[simp] theorem Dev.setChain_memctl (d : Dev) (n : Nat) (x : Chain) : (d.setChain n x).memctl = d.memctl := rfl
@[simp] theorem Dev.setChain_bale (d : Dev) (n : Nat) (x : Chain) : (d.setChain n x).bale = d.bale := rfl
@[simp] theorem Dev.setChain_baleTurn (d : Dev) (n : Nat) (x : Chain) : (d.setChain n x).baleTurn = d.baleTurn := rfl
@[simp] theorem Dev.setChain_baleWaits (d : Dev) (n : Nat) (x : Chain) : (d.setChain n x).baleWaits = d.baleWaits := rfl
@[simp] theorem Dev.setChain_fns (d : Dev) (n : Nat) (x : Chain) : (d.setChain n x).fns = d.fns := rfl
@[simp] theorem Dev.setChain_dma (d : Dev) (n : Nat) (x : Chain) : (d.setChain n x).dma = d.dma := rfl
@[simp] theorem Dev.setChain_can (d : Dev) (n : Nat) (x : Chain) : (d.setChain n x).can = d.can := rfl
@[simp] theorem Dev.setChain_ports (d : Dev) (n : Nat) (x : Chain) : (d.setChain n x).ports = d.ports := rfl
@[simp] theorem Dev.setChain_outstanding (d : Dev) (n : Nat) (x : Chain) : (d.setChain n x).outstanding = d.outstanding := rfl
@[simp] theorem Dev.setChain_servedPath (d : Dev) (n : Nat) (x : Chain) : (d.setChain n x).servedPath = d.servedPath := rfl
@[simp] theorem Dev.setChain_router (d : Dev) (n : Nat) (x : Chain) : (d.setChain n x).router = d.router := rfl
@[simp] theorem Dev.setChain_faults (d : Dev) (n : Nat) (x : Chain) : (d.setChain n x).faults = d.faults := rfl
@[simp] theorem Dev.setChain_calib (d : Dev) (n : Nat) (x : Chain) : (d.setChain n x).calib = d.calib := rfl
@[simp] theorem Dev.setChain_ageing (d : Dev) (n : Nat) (x : Chain) : (d.setChain n x).ageing = d.ageing := rfl
@[simp] theorem Dev.setChain_thermal (d : Dev) (n : Nat) (x : Chain) : (d.setChain n x).thermal = d.thermal := rfl
@[simp] theorem Dev.setChain_store (d : Dev) (n : Nat) (x : Chain) : (d.setChain n x).store = d.store := rfl
@[simp] theorem Dev.setChain_units (d : Dev) (n : Nat) (x : Chain) : (d.setChain n x).units = d.units := rfl
@[simp] theorem Dev.setChain_pins (d : Dev) (n : Nat) (x : Chain) : (d.setChain n x).pins = d.pins := rfl
@[simp] theorem Dev.setChain_pinSets (d : Dev) (n : Nat) (x : Chain) : (d.setChain n x).pinSets = d.pinSets := rfl
@[simp] theorem Dev.setChain_pulses (d : Dev) (n : Nat) (x : Chain) : (d.setChain n x).pulses = d.pulses := rfl
@[simp] theorem Dev.setChain_free (d : Dev) (n : Nat) (x : Chain) : (d.setChain n x).free = d.free := rfl
@[simp] theorem Dev.setChain_out (d : Dev) (n : Nat) (x : Chain) : (d.setChain n x).out = d.out := rfl

/-! ### setGroup -/

@[simp] theorem Dev.setGroup_now (d : Dev) (n : Nat) (x : Group) : (d.setGroup n x).now = d.now := rfl
@[simp] theorem Dev.setGroup_objs (d : Dev) (n : Nat) (x : Group) : (d.setGroup n x).objs = d.objs := rfl
@[simp] theorem Dev.setGroup_staged (d : Dev) (n : Nat) (x : Group) : (d.setGroup n x).staged = d.staged := rfl
@[simp] theorem Dev.setGroup_commits (d : Dev) (n : Nat) (x : Group) : (d.setGroup n x).commits = d.commits := rfl
@[simp] theorem Dev.setGroup_clock (d : Dev) (n : Nat) (x : Group) : (d.setGroup n x).clock = d.clock := rfl
@[simp] theorem Dev.setGroup_power (d : Dev) (n : Nat) (x : Group) : (d.setGroup n x).power = d.power := rfl
@[simp] theorem Dev.setGroup_nv (d : Dev) (n : Nat) (x : Group) : (d.setGroup n x).nv = d.nv := rfl
@[simp] theorem Dev.setGroup_drills (d : Dev) (n : Nat) (x : Group) : (d.setGroup n x).drills = d.drills := rfl
@[simp] theorem Dev.setGroup_chains (d : Dev) (n : Nat) (x : Group) : (d.setGroup n x).chains = d.chains := rfl
@[simp] theorem Dev.setGroup_shots (d : Dev) (n : Nat) (x : Group) : (d.setGroup n x).shots = d.shots := rfl
@[simp] theorem Dev.setGroup_closed (d : Dev) (n : Nat) (x : Group) : (d.setGroup n x).closed = d.closed := rfl
@[simp] theorem Dev.setGroup_slots (d : Dev) (n : Nat) (x : Group) : (d.setGroup n x).slots = d.slots := rfl
@[simp] theorem Dev.setGroup_clippedAt (d : Dev) (n : Nat) (x : Group) : (d.setGroup n x).clippedAt = d.clippedAt := rfl
@[simp] theorem Dev.setGroup_items (d : Dev) (n : Nat) (x : Group) : (d.setGroup n x).items = d.items := rfl
@[simp] theorem Dev.setGroup_cells (d : Dev) (n : Nat) (x : Group) : (d.setGroup n x).cells = d.cells := rfl
@[simp] theorem Dev.setGroup_tables (d : Dev) (n : Nat) (x : Group) : (d.setGroup n x).tables = d.tables := rfl
@[simp] theorem Dev.setGroup_tableContent (d : Dev) (n : Nat) (x : Group) : (d.setGroup n x).tableContent = d.tableContent := rfl
@[simp] theorem Dev.setGroup_vpt (d : Dev) (n : Nat) (x : Group) : (d.setGroup n x).vpt = d.vpt := rfl
@[simp] theorem Dev.setGroup_energy (d : Dev) (n : Nat) (x : Group) : (d.setGroup n x).energy = d.energy := rfl
@[simp] theorem Dev.setGroup_biases (d : Dev) (n : Nat) (x : Group) : (d.setGroup n x).biases = d.biases := rfl
@[simp] theorem Dev.setGroup_monitor (d : Dev) (n : Nat) (x : Group) : (d.setGroup n x).monitor = d.monitor := rfl
@[simp] theorem Dev.setGroup_trigs (d : Dev) (n : Nat) (x : Group) : (d.setGroup n x).trigs = d.trigs := rfl
@[simp] theorem Dev.setGroup_gleaners (d : Dev) (n : Nat) (x : Group) : (d.setGroup n x).gleaners = d.gleaners := rfl
@[simp] theorem Dev.setGroup_captures (d : Dev) (n : Nat) (x : Group) : (d.setGroup n x).captures = d.captures := rfl
@[simp] theorem Dev.setGroup_sheaves (d : Dev) (n : Nat) (x : Group) : (d.setGroup n x).sheaves = d.sheaves := rfl
@[simp] theorem Dev.setGroup_sheafLostNow (d : Dev) (n : Nat) (x : Group) : (d.setGroup n x).sheafLostNow = d.sheafLostNow := rfl
@[simp] theorem Dev.setGroup_memctl (d : Dev) (n : Nat) (x : Group) : (d.setGroup n x).memctl = d.memctl := rfl
@[simp] theorem Dev.setGroup_bale (d : Dev) (n : Nat) (x : Group) : (d.setGroup n x).bale = d.bale := rfl
@[simp] theorem Dev.setGroup_baleTurn (d : Dev) (n : Nat) (x : Group) : (d.setGroup n x).baleTurn = d.baleTurn := rfl
@[simp] theorem Dev.setGroup_baleWaits (d : Dev) (n : Nat) (x : Group) : (d.setGroup n x).baleWaits = d.baleWaits := rfl
@[simp] theorem Dev.setGroup_fns (d : Dev) (n : Nat) (x : Group) : (d.setGroup n x).fns = d.fns := rfl
@[simp] theorem Dev.setGroup_dma (d : Dev) (n : Nat) (x : Group) : (d.setGroup n x).dma = d.dma := rfl
@[simp] theorem Dev.setGroup_can (d : Dev) (n : Nat) (x : Group) : (d.setGroup n x).can = d.can := rfl
@[simp] theorem Dev.setGroup_ports (d : Dev) (n : Nat) (x : Group) : (d.setGroup n x).ports = d.ports := rfl
@[simp] theorem Dev.setGroup_outstanding (d : Dev) (n : Nat) (x : Group) : (d.setGroup n x).outstanding = d.outstanding := rfl
@[simp] theorem Dev.setGroup_servedPath (d : Dev) (n : Nat) (x : Group) : (d.setGroup n x).servedPath = d.servedPath := rfl
@[simp] theorem Dev.setGroup_router (d : Dev) (n : Nat) (x : Group) : (d.setGroup n x).router = d.router := rfl
@[simp] theorem Dev.setGroup_faults (d : Dev) (n : Nat) (x : Group) : (d.setGroup n x).faults = d.faults := rfl
@[simp] theorem Dev.setGroup_calib (d : Dev) (n : Nat) (x : Group) : (d.setGroup n x).calib = d.calib := rfl
@[simp] theorem Dev.setGroup_ageing (d : Dev) (n : Nat) (x : Group) : (d.setGroup n x).ageing = d.ageing := rfl
@[simp] theorem Dev.setGroup_thermal (d : Dev) (n : Nat) (x : Group) : (d.setGroup n x).thermal = d.thermal := rfl
@[simp] theorem Dev.setGroup_store (d : Dev) (n : Nat) (x : Group) : (d.setGroup n x).store = d.store := rfl
@[simp] theorem Dev.setGroup_units (d : Dev) (n : Nat) (x : Group) : (d.setGroup n x).units = d.units := rfl
@[simp] theorem Dev.setGroup_pins (d : Dev) (n : Nat) (x : Group) : (d.setGroup n x).pins = d.pins := rfl
@[simp] theorem Dev.setGroup_pinSets (d : Dev) (n : Nat) (x : Group) : (d.setGroup n x).pinSets = d.pinSets := rfl
@[simp] theorem Dev.setGroup_pulses (d : Dev) (n : Nat) (x : Group) : (d.setGroup n x).pulses = d.pulses := rfl
@[simp] theorem Dev.setGroup_free (d : Dev) (n : Nat) (x : Group) : (d.setGroup n x).free = d.free := rfl
@[simp] theorem Dev.setGroup_out (d : Dev) (n : Nat) (x : Group) : (d.setGroup n x).out = d.out := rfl

/-! ### setSlot -/

@[simp] theorem Dev.setSlot_now (d : Dev) (n : Nat) (x : SlotSt) : (d.setSlot n x).now = d.now := rfl
@[simp] theorem Dev.setSlot_objs (d : Dev) (n : Nat) (x : SlotSt) : (d.setSlot n x).objs = d.objs := rfl
@[simp] theorem Dev.setSlot_staged (d : Dev) (n : Nat) (x : SlotSt) : (d.setSlot n x).staged = d.staged := rfl
@[simp] theorem Dev.setSlot_commits (d : Dev) (n : Nat) (x : SlotSt) : (d.setSlot n x).commits = d.commits := rfl
@[simp] theorem Dev.setSlot_clock (d : Dev) (n : Nat) (x : SlotSt) : (d.setSlot n x).clock = d.clock := rfl
@[simp] theorem Dev.setSlot_power (d : Dev) (n : Nat) (x : SlotSt) : (d.setSlot n x).power = d.power := rfl
@[simp] theorem Dev.setSlot_nv (d : Dev) (n : Nat) (x : SlotSt) : (d.setSlot n x).nv = d.nv := rfl
@[simp] theorem Dev.setSlot_drills (d : Dev) (n : Nat) (x : SlotSt) : (d.setSlot n x).drills = d.drills := rfl
@[simp] theorem Dev.setSlot_chains (d : Dev) (n : Nat) (x : SlotSt) : (d.setSlot n x).chains = d.chains := rfl
@[simp] theorem Dev.setSlot_groups (d : Dev) (n : Nat) (x : SlotSt) : (d.setSlot n x).groups = d.groups := rfl
@[simp] theorem Dev.setSlot_shots (d : Dev) (n : Nat) (x : SlotSt) : (d.setSlot n x).shots = d.shots := rfl
@[simp] theorem Dev.setSlot_closed (d : Dev) (n : Nat) (x : SlotSt) : (d.setSlot n x).closed = d.closed := rfl
@[simp] theorem Dev.setSlot_clippedAt (d : Dev) (n : Nat) (x : SlotSt) : (d.setSlot n x).clippedAt = d.clippedAt := rfl
@[simp] theorem Dev.setSlot_items (d : Dev) (n : Nat) (x : SlotSt) : (d.setSlot n x).items = d.items := rfl
@[simp] theorem Dev.setSlot_cells (d : Dev) (n : Nat) (x : SlotSt) : (d.setSlot n x).cells = d.cells := rfl
@[simp] theorem Dev.setSlot_tables (d : Dev) (n : Nat) (x : SlotSt) : (d.setSlot n x).tables = d.tables := rfl
@[simp] theorem Dev.setSlot_tableContent (d : Dev) (n : Nat) (x : SlotSt) : (d.setSlot n x).tableContent = d.tableContent := rfl
@[simp] theorem Dev.setSlot_vpt (d : Dev) (n : Nat) (x : SlotSt) : (d.setSlot n x).vpt = d.vpt := rfl
@[simp] theorem Dev.setSlot_energy (d : Dev) (n : Nat) (x : SlotSt) : (d.setSlot n x).energy = d.energy := rfl
@[simp] theorem Dev.setSlot_biases (d : Dev) (n : Nat) (x : SlotSt) : (d.setSlot n x).biases = d.biases := rfl
@[simp] theorem Dev.setSlot_monitor (d : Dev) (n : Nat) (x : SlotSt) : (d.setSlot n x).monitor = d.monitor := rfl
@[simp] theorem Dev.setSlot_trigs (d : Dev) (n : Nat) (x : SlotSt) : (d.setSlot n x).trigs = d.trigs := rfl
@[simp] theorem Dev.setSlot_gleaners (d : Dev) (n : Nat) (x : SlotSt) : (d.setSlot n x).gleaners = d.gleaners := rfl
@[simp] theorem Dev.setSlot_captures (d : Dev) (n : Nat) (x : SlotSt) : (d.setSlot n x).captures = d.captures := rfl
@[simp] theorem Dev.setSlot_sheaves (d : Dev) (n : Nat) (x : SlotSt) : (d.setSlot n x).sheaves = d.sheaves := rfl
@[simp] theorem Dev.setSlot_sheafLostNow (d : Dev) (n : Nat) (x : SlotSt) : (d.setSlot n x).sheafLostNow = d.sheafLostNow := rfl
@[simp] theorem Dev.setSlot_memctl (d : Dev) (n : Nat) (x : SlotSt) : (d.setSlot n x).memctl = d.memctl := rfl
@[simp] theorem Dev.setSlot_bale (d : Dev) (n : Nat) (x : SlotSt) : (d.setSlot n x).bale = d.bale := rfl
@[simp] theorem Dev.setSlot_baleTurn (d : Dev) (n : Nat) (x : SlotSt) : (d.setSlot n x).baleTurn = d.baleTurn := rfl
@[simp] theorem Dev.setSlot_baleWaits (d : Dev) (n : Nat) (x : SlotSt) : (d.setSlot n x).baleWaits = d.baleWaits := rfl
@[simp] theorem Dev.setSlot_fns (d : Dev) (n : Nat) (x : SlotSt) : (d.setSlot n x).fns = d.fns := rfl
@[simp] theorem Dev.setSlot_dma (d : Dev) (n : Nat) (x : SlotSt) : (d.setSlot n x).dma = d.dma := rfl
@[simp] theorem Dev.setSlot_can (d : Dev) (n : Nat) (x : SlotSt) : (d.setSlot n x).can = d.can := rfl
@[simp] theorem Dev.setSlot_ports (d : Dev) (n : Nat) (x : SlotSt) : (d.setSlot n x).ports = d.ports := rfl
@[simp] theorem Dev.setSlot_outstanding (d : Dev) (n : Nat) (x : SlotSt) : (d.setSlot n x).outstanding = d.outstanding := rfl
@[simp] theorem Dev.setSlot_servedPath (d : Dev) (n : Nat) (x : SlotSt) : (d.setSlot n x).servedPath = d.servedPath := rfl
@[simp] theorem Dev.setSlot_router (d : Dev) (n : Nat) (x : SlotSt) : (d.setSlot n x).router = d.router := rfl
@[simp] theorem Dev.setSlot_faults (d : Dev) (n : Nat) (x : SlotSt) : (d.setSlot n x).faults = d.faults := rfl
@[simp] theorem Dev.setSlot_calib (d : Dev) (n : Nat) (x : SlotSt) : (d.setSlot n x).calib = d.calib := rfl
@[simp] theorem Dev.setSlot_ageing (d : Dev) (n : Nat) (x : SlotSt) : (d.setSlot n x).ageing = d.ageing := rfl
@[simp] theorem Dev.setSlot_thermal (d : Dev) (n : Nat) (x : SlotSt) : (d.setSlot n x).thermal = d.thermal := rfl
@[simp] theorem Dev.setSlot_store (d : Dev) (n : Nat) (x : SlotSt) : (d.setSlot n x).store = d.store := rfl
@[simp] theorem Dev.setSlot_units (d : Dev) (n : Nat) (x : SlotSt) : (d.setSlot n x).units = d.units := rfl
@[simp] theorem Dev.setSlot_pins (d : Dev) (n : Nat) (x : SlotSt) : (d.setSlot n x).pins = d.pins := rfl
@[simp] theorem Dev.setSlot_pinSets (d : Dev) (n : Nat) (x : SlotSt) : (d.setSlot n x).pinSets = d.pinSets := rfl
@[simp] theorem Dev.setSlot_pulses (d : Dev) (n : Nat) (x : SlotSt) : (d.setSlot n x).pulses = d.pulses := rfl
@[simp] theorem Dev.setSlot_free (d : Dev) (n : Nat) (x : SlotSt) : (d.setSlot n x).free = d.free := rfl
@[simp] theorem Dev.setSlot_out (d : Dev) (n : Nat) (x : SlotSt) : (d.setSlot n x).out = d.out := rfl

/-! ### setBias -/

@[simp] theorem Dev.setBias_now (d : Dev) (n : Nat) (x : BiasOut) : (d.setBias n x).now = d.now := rfl
@[simp] theorem Dev.setBias_objs (d : Dev) (n : Nat) (x : BiasOut) : (d.setBias n x).objs = d.objs := rfl
@[simp] theorem Dev.setBias_staged (d : Dev) (n : Nat) (x : BiasOut) : (d.setBias n x).staged = d.staged := rfl
@[simp] theorem Dev.setBias_commits (d : Dev) (n : Nat) (x : BiasOut) : (d.setBias n x).commits = d.commits := rfl
@[simp] theorem Dev.setBias_clock (d : Dev) (n : Nat) (x : BiasOut) : (d.setBias n x).clock = d.clock := rfl
@[simp] theorem Dev.setBias_power (d : Dev) (n : Nat) (x : BiasOut) : (d.setBias n x).power = d.power := rfl
@[simp] theorem Dev.setBias_nv (d : Dev) (n : Nat) (x : BiasOut) : (d.setBias n x).nv = d.nv := rfl
@[simp] theorem Dev.setBias_drills (d : Dev) (n : Nat) (x : BiasOut) : (d.setBias n x).drills = d.drills := rfl
@[simp] theorem Dev.setBias_chains (d : Dev) (n : Nat) (x : BiasOut) : (d.setBias n x).chains = d.chains := rfl
@[simp] theorem Dev.setBias_groups (d : Dev) (n : Nat) (x : BiasOut) : (d.setBias n x).groups = d.groups := rfl
@[simp] theorem Dev.setBias_shots (d : Dev) (n : Nat) (x : BiasOut) : (d.setBias n x).shots = d.shots := rfl
@[simp] theorem Dev.setBias_closed (d : Dev) (n : Nat) (x : BiasOut) : (d.setBias n x).closed = d.closed := rfl
@[simp] theorem Dev.setBias_slots (d : Dev) (n : Nat) (x : BiasOut) : (d.setBias n x).slots = d.slots := rfl
@[simp] theorem Dev.setBias_clippedAt (d : Dev) (n : Nat) (x : BiasOut) : (d.setBias n x).clippedAt = d.clippedAt := rfl
@[simp] theorem Dev.setBias_items (d : Dev) (n : Nat) (x : BiasOut) : (d.setBias n x).items = d.items := rfl
@[simp] theorem Dev.setBias_cells (d : Dev) (n : Nat) (x : BiasOut) : (d.setBias n x).cells = d.cells := rfl
@[simp] theorem Dev.setBias_tables (d : Dev) (n : Nat) (x : BiasOut) : (d.setBias n x).tables = d.tables := rfl
@[simp] theorem Dev.setBias_tableContent (d : Dev) (n : Nat) (x : BiasOut) : (d.setBias n x).tableContent = d.tableContent := rfl
@[simp] theorem Dev.setBias_vpt (d : Dev) (n : Nat) (x : BiasOut) : (d.setBias n x).vpt = d.vpt := rfl
@[simp] theorem Dev.setBias_energy (d : Dev) (n : Nat) (x : BiasOut) : (d.setBias n x).energy = d.energy := rfl
@[simp] theorem Dev.setBias_monitor (d : Dev) (n : Nat) (x : BiasOut) : (d.setBias n x).monitor = d.monitor := rfl
@[simp] theorem Dev.setBias_trigs (d : Dev) (n : Nat) (x : BiasOut) : (d.setBias n x).trigs = d.trigs := rfl
@[simp] theorem Dev.setBias_gleaners (d : Dev) (n : Nat) (x : BiasOut) : (d.setBias n x).gleaners = d.gleaners := rfl
@[simp] theorem Dev.setBias_captures (d : Dev) (n : Nat) (x : BiasOut) : (d.setBias n x).captures = d.captures := rfl
@[simp] theorem Dev.setBias_sheaves (d : Dev) (n : Nat) (x : BiasOut) : (d.setBias n x).sheaves = d.sheaves := rfl
@[simp] theorem Dev.setBias_sheafLostNow (d : Dev) (n : Nat) (x : BiasOut) : (d.setBias n x).sheafLostNow = d.sheafLostNow := rfl
@[simp] theorem Dev.setBias_memctl (d : Dev) (n : Nat) (x : BiasOut) : (d.setBias n x).memctl = d.memctl := rfl
@[simp] theorem Dev.setBias_bale (d : Dev) (n : Nat) (x : BiasOut) : (d.setBias n x).bale = d.bale := rfl
@[simp] theorem Dev.setBias_baleTurn (d : Dev) (n : Nat) (x : BiasOut) : (d.setBias n x).baleTurn = d.baleTurn := rfl
@[simp] theorem Dev.setBias_baleWaits (d : Dev) (n : Nat) (x : BiasOut) : (d.setBias n x).baleWaits = d.baleWaits := rfl
@[simp] theorem Dev.setBias_fns (d : Dev) (n : Nat) (x : BiasOut) : (d.setBias n x).fns = d.fns := rfl
@[simp] theorem Dev.setBias_dma (d : Dev) (n : Nat) (x : BiasOut) : (d.setBias n x).dma = d.dma := rfl
@[simp] theorem Dev.setBias_can (d : Dev) (n : Nat) (x : BiasOut) : (d.setBias n x).can = d.can := rfl
@[simp] theorem Dev.setBias_ports (d : Dev) (n : Nat) (x : BiasOut) : (d.setBias n x).ports = d.ports := rfl
@[simp] theorem Dev.setBias_outstanding (d : Dev) (n : Nat) (x : BiasOut) : (d.setBias n x).outstanding = d.outstanding := rfl
@[simp] theorem Dev.setBias_servedPath (d : Dev) (n : Nat) (x : BiasOut) : (d.setBias n x).servedPath = d.servedPath := rfl
@[simp] theorem Dev.setBias_router (d : Dev) (n : Nat) (x : BiasOut) : (d.setBias n x).router = d.router := rfl
@[simp] theorem Dev.setBias_faults (d : Dev) (n : Nat) (x : BiasOut) : (d.setBias n x).faults = d.faults := rfl
@[simp] theorem Dev.setBias_calib (d : Dev) (n : Nat) (x : BiasOut) : (d.setBias n x).calib = d.calib := rfl
@[simp] theorem Dev.setBias_ageing (d : Dev) (n : Nat) (x : BiasOut) : (d.setBias n x).ageing = d.ageing := rfl
@[simp] theorem Dev.setBias_thermal (d : Dev) (n : Nat) (x : BiasOut) : (d.setBias n x).thermal = d.thermal := rfl
@[simp] theorem Dev.setBias_store (d : Dev) (n : Nat) (x : BiasOut) : (d.setBias n x).store = d.store := rfl
@[simp] theorem Dev.setBias_units (d : Dev) (n : Nat) (x : BiasOut) : (d.setBias n x).units = d.units := rfl
@[simp] theorem Dev.setBias_pins (d : Dev) (n : Nat) (x : BiasOut) : (d.setBias n x).pins = d.pins := rfl
@[simp] theorem Dev.setBias_pinSets (d : Dev) (n : Nat) (x : BiasOut) : (d.setBias n x).pinSets = d.pinSets := rfl
@[simp] theorem Dev.setBias_pulses (d : Dev) (n : Nat) (x : BiasOut) : (d.setBias n x).pulses = d.pulses := rfl
@[simp] theorem Dev.setBias_free (d : Dev) (n : Nat) (x : BiasOut) : (d.setBias n x).free = d.free := rfl
@[simp] theorem Dev.setBias_out (d : Dev) (n : Nat) (x : BiasOut) : (d.setBias n x).out = d.out := rfl

/-! ### setTrig -/

@[simp] theorem Dev.setTrig_now (d : Dev) (n : Nat) (x : TrigIn) : (d.setTrig n x).now = d.now := rfl
@[simp] theorem Dev.setTrig_objs (d : Dev) (n : Nat) (x : TrigIn) : (d.setTrig n x).objs = d.objs := rfl
@[simp] theorem Dev.setTrig_staged (d : Dev) (n : Nat) (x : TrigIn) : (d.setTrig n x).staged = d.staged := rfl
@[simp] theorem Dev.setTrig_commits (d : Dev) (n : Nat) (x : TrigIn) : (d.setTrig n x).commits = d.commits := rfl
@[simp] theorem Dev.setTrig_clock (d : Dev) (n : Nat) (x : TrigIn) : (d.setTrig n x).clock = d.clock := rfl
@[simp] theorem Dev.setTrig_power (d : Dev) (n : Nat) (x : TrigIn) : (d.setTrig n x).power = d.power := rfl
@[simp] theorem Dev.setTrig_nv (d : Dev) (n : Nat) (x : TrigIn) : (d.setTrig n x).nv = d.nv := rfl
@[simp] theorem Dev.setTrig_drills (d : Dev) (n : Nat) (x : TrigIn) : (d.setTrig n x).drills = d.drills := rfl
@[simp] theorem Dev.setTrig_chains (d : Dev) (n : Nat) (x : TrigIn) : (d.setTrig n x).chains = d.chains := rfl
@[simp] theorem Dev.setTrig_groups (d : Dev) (n : Nat) (x : TrigIn) : (d.setTrig n x).groups = d.groups := rfl
@[simp] theorem Dev.setTrig_shots (d : Dev) (n : Nat) (x : TrigIn) : (d.setTrig n x).shots = d.shots := rfl
@[simp] theorem Dev.setTrig_closed (d : Dev) (n : Nat) (x : TrigIn) : (d.setTrig n x).closed = d.closed := rfl
@[simp] theorem Dev.setTrig_slots (d : Dev) (n : Nat) (x : TrigIn) : (d.setTrig n x).slots = d.slots := rfl
@[simp] theorem Dev.setTrig_clippedAt (d : Dev) (n : Nat) (x : TrigIn) : (d.setTrig n x).clippedAt = d.clippedAt := rfl
@[simp] theorem Dev.setTrig_items (d : Dev) (n : Nat) (x : TrigIn) : (d.setTrig n x).items = d.items := rfl
@[simp] theorem Dev.setTrig_cells (d : Dev) (n : Nat) (x : TrigIn) : (d.setTrig n x).cells = d.cells := rfl
@[simp] theorem Dev.setTrig_tables (d : Dev) (n : Nat) (x : TrigIn) : (d.setTrig n x).tables = d.tables := rfl
@[simp] theorem Dev.setTrig_tableContent (d : Dev) (n : Nat) (x : TrigIn) : (d.setTrig n x).tableContent = d.tableContent := rfl
@[simp] theorem Dev.setTrig_vpt (d : Dev) (n : Nat) (x : TrigIn) : (d.setTrig n x).vpt = d.vpt := rfl
@[simp] theorem Dev.setTrig_energy (d : Dev) (n : Nat) (x : TrigIn) : (d.setTrig n x).energy = d.energy := rfl
@[simp] theorem Dev.setTrig_biases (d : Dev) (n : Nat) (x : TrigIn) : (d.setTrig n x).biases = d.biases := rfl
@[simp] theorem Dev.setTrig_monitor (d : Dev) (n : Nat) (x : TrigIn) : (d.setTrig n x).monitor = d.monitor := rfl
@[simp] theorem Dev.setTrig_gleaners (d : Dev) (n : Nat) (x : TrigIn) : (d.setTrig n x).gleaners = d.gleaners := rfl
@[simp] theorem Dev.setTrig_captures (d : Dev) (n : Nat) (x : TrigIn) : (d.setTrig n x).captures = d.captures := rfl
@[simp] theorem Dev.setTrig_sheaves (d : Dev) (n : Nat) (x : TrigIn) : (d.setTrig n x).sheaves = d.sheaves := rfl
@[simp] theorem Dev.setTrig_sheafLostNow (d : Dev) (n : Nat) (x : TrigIn) : (d.setTrig n x).sheafLostNow = d.sheafLostNow := rfl
@[simp] theorem Dev.setTrig_memctl (d : Dev) (n : Nat) (x : TrigIn) : (d.setTrig n x).memctl = d.memctl := rfl
@[simp] theorem Dev.setTrig_bale (d : Dev) (n : Nat) (x : TrigIn) : (d.setTrig n x).bale = d.bale := rfl
@[simp] theorem Dev.setTrig_baleTurn (d : Dev) (n : Nat) (x : TrigIn) : (d.setTrig n x).baleTurn = d.baleTurn := rfl
@[simp] theorem Dev.setTrig_baleWaits (d : Dev) (n : Nat) (x : TrigIn) : (d.setTrig n x).baleWaits = d.baleWaits := rfl
@[simp] theorem Dev.setTrig_fns (d : Dev) (n : Nat) (x : TrigIn) : (d.setTrig n x).fns = d.fns := rfl
@[simp] theorem Dev.setTrig_dma (d : Dev) (n : Nat) (x : TrigIn) : (d.setTrig n x).dma = d.dma := rfl
@[simp] theorem Dev.setTrig_can (d : Dev) (n : Nat) (x : TrigIn) : (d.setTrig n x).can = d.can := rfl
@[simp] theorem Dev.setTrig_ports (d : Dev) (n : Nat) (x : TrigIn) : (d.setTrig n x).ports = d.ports := rfl
@[simp] theorem Dev.setTrig_outstanding (d : Dev) (n : Nat) (x : TrigIn) : (d.setTrig n x).outstanding = d.outstanding := rfl
@[simp] theorem Dev.setTrig_servedPath (d : Dev) (n : Nat) (x : TrigIn) : (d.setTrig n x).servedPath = d.servedPath := rfl
@[simp] theorem Dev.setTrig_router (d : Dev) (n : Nat) (x : TrigIn) : (d.setTrig n x).router = d.router := rfl
@[simp] theorem Dev.setTrig_faults (d : Dev) (n : Nat) (x : TrigIn) : (d.setTrig n x).faults = d.faults := rfl
@[simp] theorem Dev.setTrig_calib (d : Dev) (n : Nat) (x : TrigIn) : (d.setTrig n x).calib = d.calib := rfl
@[simp] theorem Dev.setTrig_ageing (d : Dev) (n : Nat) (x : TrigIn) : (d.setTrig n x).ageing = d.ageing := rfl
@[simp] theorem Dev.setTrig_thermal (d : Dev) (n : Nat) (x : TrigIn) : (d.setTrig n x).thermal = d.thermal := rfl
@[simp] theorem Dev.setTrig_store (d : Dev) (n : Nat) (x : TrigIn) : (d.setTrig n x).store = d.store := rfl
@[simp] theorem Dev.setTrig_units (d : Dev) (n : Nat) (x : TrigIn) : (d.setTrig n x).units = d.units := rfl
@[simp] theorem Dev.setTrig_pins (d : Dev) (n : Nat) (x : TrigIn) : (d.setTrig n x).pins = d.pins := rfl
@[simp] theorem Dev.setTrig_pinSets (d : Dev) (n : Nat) (x : TrigIn) : (d.setTrig n x).pinSets = d.pinSets := rfl
@[simp] theorem Dev.setTrig_pulses (d : Dev) (n : Nat) (x : TrigIn) : (d.setTrig n x).pulses = d.pulses := rfl
@[simp] theorem Dev.setTrig_free (d : Dev) (n : Nat) (x : TrigIn) : (d.setTrig n x).free = d.free := rfl
@[simp] theorem Dev.setTrig_out (d : Dev) (n : Nat) (x : TrigIn) : (d.setTrig n x).out = d.out := rfl

/-! ### setGleaner -/

@[simp] theorem Dev.setGleaner_now (d : Dev) (n : Nat) (x : Gleaner) : (d.setGleaner n x).now = d.now := rfl
@[simp] theorem Dev.setGleaner_objs (d : Dev) (n : Nat) (x : Gleaner) : (d.setGleaner n x).objs = d.objs := rfl
@[simp] theorem Dev.setGleaner_staged (d : Dev) (n : Nat) (x : Gleaner) : (d.setGleaner n x).staged = d.staged := rfl
@[simp] theorem Dev.setGleaner_commits (d : Dev) (n : Nat) (x : Gleaner) : (d.setGleaner n x).commits = d.commits := rfl
@[simp] theorem Dev.setGleaner_clock (d : Dev) (n : Nat) (x : Gleaner) : (d.setGleaner n x).clock = d.clock := rfl
@[simp] theorem Dev.setGleaner_power (d : Dev) (n : Nat) (x : Gleaner) : (d.setGleaner n x).power = d.power := rfl
@[simp] theorem Dev.setGleaner_nv (d : Dev) (n : Nat) (x : Gleaner) : (d.setGleaner n x).nv = d.nv := rfl
@[simp] theorem Dev.setGleaner_drills (d : Dev) (n : Nat) (x : Gleaner) : (d.setGleaner n x).drills = d.drills := rfl
@[simp] theorem Dev.setGleaner_chains (d : Dev) (n : Nat) (x : Gleaner) : (d.setGleaner n x).chains = d.chains := rfl
@[simp] theorem Dev.setGleaner_groups (d : Dev) (n : Nat) (x : Gleaner) : (d.setGleaner n x).groups = d.groups := rfl
@[simp] theorem Dev.setGleaner_shots (d : Dev) (n : Nat) (x : Gleaner) : (d.setGleaner n x).shots = d.shots := rfl
@[simp] theorem Dev.setGleaner_closed (d : Dev) (n : Nat) (x : Gleaner) : (d.setGleaner n x).closed = d.closed := rfl
@[simp] theorem Dev.setGleaner_slots (d : Dev) (n : Nat) (x : Gleaner) : (d.setGleaner n x).slots = d.slots := rfl
@[simp] theorem Dev.setGleaner_clippedAt (d : Dev) (n : Nat) (x : Gleaner) : (d.setGleaner n x).clippedAt = d.clippedAt := rfl
@[simp] theorem Dev.setGleaner_items (d : Dev) (n : Nat) (x : Gleaner) : (d.setGleaner n x).items = d.items := rfl
@[simp] theorem Dev.setGleaner_cells (d : Dev) (n : Nat) (x : Gleaner) : (d.setGleaner n x).cells = d.cells := rfl
@[simp] theorem Dev.setGleaner_tables (d : Dev) (n : Nat) (x : Gleaner) : (d.setGleaner n x).tables = d.tables := rfl
@[simp] theorem Dev.setGleaner_tableContent (d : Dev) (n : Nat) (x : Gleaner) : (d.setGleaner n x).tableContent = d.tableContent := rfl
@[simp] theorem Dev.setGleaner_vpt (d : Dev) (n : Nat) (x : Gleaner) : (d.setGleaner n x).vpt = d.vpt := rfl
@[simp] theorem Dev.setGleaner_energy (d : Dev) (n : Nat) (x : Gleaner) : (d.setGleaner n x).energy = d.energy := rfl
@[simp] theorem Dev.setGleaner_biases (d : Dev) (n : Nat) (x : Gleaner) : (d.setGleaner n x).biases = d.biases := rfl
@[simp] theorem Dev.setGleaner_monitor (d : Dev) (n : Nat) (x : Gleaner) : (d.setGleaner n x).monitor = d.monitor := rfl
@[simp] theorem Dev.setGleaner_trigs (d : Dev) (n : Nat) (x : Gleaner) : (d.setGleaner n x).trigs = d.trigs := rfl
@[simp] theorem Dev.setGleaner_captures (d : Dev) (n : Nat) (x : Gleaner) : (d.setGleaner n x).captures = d.captures := rfl
@[simp] theorem Dev.setGleaner_sheaves (d : Dev) (n : Nat) (x : Gleaner) : (d.setGleaner n x).sheaves = d.sheaves := rfl
@[simp] theorem Dev.setGleaner_sheafLostNow (d : Dev) (n : Nat) (x : Gleaner) : (d.setGleaner n x).sheafLostNow = d.sheafLostNow := rfl
@[simp] theorem Dev.setGleaner_memctl (d : Dev) (n : Nat) (x : Gleaner) : (d.setGleaner n x).memctl = d.memctl := rfl
@[simp] theorem Dev.setGleaner_bale (d : Dev) (n : Nat) (x : Gleaner) : (d.setGleaner n x).bale = d.bale := rfl
@[simp] theorem Dev.setGleaner_baleTurn (d : Dev) (n : Nat) (x : Gleaner) : (d.setGleaner n x).baleTurn = d.baleTurn := rfl
@[simp] theorem Dev.setGleaner_baleWaits (d : Dev) (n : Nat) (x : Gleaner) : (d.setGleaner n x).baleWaits = d.baleWaits := rfl
@[simp] theorem Dev.setGleaner_fns (d : Dev) (n : Nat) (x : Gleaner) : (d.setGleaner n x).fns = d.fns := rfl
@[simp] theorem Dev.setGleaner_dma (d : Dev) (n : Nat) (x : Gleaner) : (d.setGleaner n x).dma = d.dma := rfl
@[simp] theorem Dev.setGleaner_can (d : Dev) (n : Nat) (x : Gleaner) : (d.setGleaner n x).can = d.can := rfl
@[simp] theorem Dev.setGleaner_ports (d : Dev) (n : Nat) (x : Gleaner) : (d.setGleaner n x).ports = d.ports := rfl
@[simp] theorem Dev.setGleaner_outstanding (d : Dev) (n : Nat) (x : Gleaner) : (d.setGleaner n x).outstanding = d.outstanding := rfl
@[simp] theorem Dev.setGleaner_servedPath (d : Dev) (n : Nat) (x : Gleaner) : (d.setGleaner n x).servedPath = d.servedPath := rfl
@[simp] theorem Dev.setGleaner_router (d : Dev) (n : Nat) (x : Gleaner) : (d.setGleaner n x).router = d.router := rfl
@[simp] theorem Dev.setGleaner_faults (d : Dev) (n : Nat) (x : Gleaner) : (d.setGleaner n x).faults = d.faults := rfl
@[simp] theorem Dev.setGleaner_calib (d : Dev) (n : Nat) (x : Gleaner) : (d.setGleaner n x).calib = d.calib := rfl
@[simp] theorem Dev.setGleaner_ageing (d : Dev) (n : Nat) (x : Gleaner) : (d.setGleaner n x).ageing = d.ageing := rfl
@[simp] theorem Dev.setGleaner_thermal (d : Dev) (n : Nat) (x : Gleaner) : (d.setGleaner n x).thermal = d.thermal := rfl
@[simp] theorem Dev.setGleaner_store (d : Dev) (n : Nat) (x : Gleaner) : (d.setGleaner n x).store = d.store := rfl
@[simp] theorem Dev.setGleaner_units (d : Dev) (n : Nat) (x : Gleaner) : (d.setGleaner n x).units = d.units := rfl
@[simp] theorem Dev.setGleaner_pins (d : Dev) (n : Nat) (x : Gleaner) : (d.setGleaner n x).pins = d.pins := rfl
@[simp] theorem Dev.setGleaner_pinSets (d : Dev) (n : Nat) (x : Gleaner) : (d.setGleaner n x).pinSets = d.pinSets := rfl
@[simp] theorem Dev.setGleaner_pulses (d : Dev) (n : Nat) (x : Gleaner) : (d.setGleaner n x).pulses = d.pulses := rfl
@[simp] theorem Dev.setGleaner_free (d : Dev) (n : Nat) (x : Gleaner) : (d.setGleaner n x).free = d.free := rfl
@[simp] theorem Dev.setGleaner_out (d : Dev) (n : Nat) (x : Gleaner) : (d.setGleaner n x).out = d.out := rfl

/-! ### setCapture -/

@[simp] theorem Dev.setCapture_now (d : Dev) (n : Nat) (x : Capture) : (d.setCapture n x).now = d.now := rfl
@[simp] theorem Dev.setCapture_objs (d : Dev) (n : Nat) (x : Capture) : (d.setCapture n x).objs = d.objs := rfl
@[simp] theorem Dev.setCapture_staged (d : Dev) (n : Nat) (x : Capture) : (d.setCapture n x).staged = d.staged := rfl
@[simp] theorem Dev.setCapture_commits (d : Dev) (n : Nat) (x : Capture) : (d.setCapture n x).commits = d.commits := rfl
@[simp] theorem Dev.setCapture_clock (d : Dev) (n : Nat) (x : Capture) : (d.setCapture n x).clock = d.clock := rfl
@[simp] theorem Dev.setCapture_power (d : Dev) (n : Nat) (x : Capture) : (d.setCapture n x).power = d.power := rfl
@[simp] theorem Dev.setCapture_nv (d : Dev) (n : Nat) (x : Capture) : (d.setCapture n x).nv = d.nv := rfl
@[simp] theorem Dev.setCapture_drills (d : Dev) (n : Nat) (x : Capture) : (d.setCapture n x).drills = d.drills := rfl
@[simp] theorem Dev.setCapture_chains (d : Dev) (n : Nat) (x : Capture) : (d.setCapture n x).chains = d.chains := rfl
@[simp] theorem Dev.setCapture_groups (d : Dev) (n : Nat) (x : Capture) : (d.setCapture n x).groups = d.groups := rfl
@[simp] theorem Dev.setCapture_shots (d : Dev) (n : Nat) (x : Capture) : (d.setCapture n x).shots = d.shots := rfl
@[simp] theorem Dev.setCapture_closed (d : Dev) (n : Nat) (x : Capture) : (d.setCapture n x).closed = d.closed := rfl
@[simp] theorem Dev.setCapture_slots (d : Dev) (n : Nat) (x : Capture) : (d.setCapture n x).slots = d.slots := rfl
@[simp] theorem Dev.setCapture_clippedAt (d : Dev) (n : Nat) (x : Capture) : (d.setCapture n x).clippedAt = d.clippedAt := rfl
@[simp] theorem Dev.setCapture_items (d : Dev) (n : Nat) (x : Capture) : (d.setCapture n x).items = d.items := rfl
@[simp] theorem Dev.setCapture_cells (d : Dev) (n : Nat) (x : Capture) : (d.setCapture n x).cells = d.cells := rfl
@[simp] theorem Dev.setCapture_tables (d : Dev) (n : Nat) (x : Capture) : (d.setCapture n x).tables = d.tables := rfl
@[simp] theorem Dev.setCapture_tableContent (d : Dev) (n : Nat) (x : Capture) : (d.setCapture n x).tableContent = d.tableContent := rfl
@[simp] theorem Dev.setCapture_vpt (d : Dev) (n : Nat) (x : Capture) : (d.setCapture n x).vpt = d.vpt := rfl
@[simp] theorem Dev.setCapture_energy (d : Dev) (n : Nat) (x : Capture) : (d.setCapture n x).energy = d.energy := rfl
@[simp] theorem Dev.setCapture_biases (d : Dev) (n : Nat) (x : Capture) : (d.setCapture n x).biases = d.biases := rfl
@[simp] theorem Dev.setCapture_monitor (d : Dev) (n : Nat) (x : Capture) : (d.setCapture n x).monitor = d.monitor := rfl
@[simp] theorem Dev.setCapture_trigs (d : Dev) (n : Nat) (x : Capture) : (d.setCapture n x).trigs = d.trigs := rfl
@[simp] theorem Dev.setCapture_gleaners (d : Dev) (n : Nat) (x : Capture) : (d.setCapture n x).gleaners = d.gleaners := rfl
@[simp] theorem Dev.setCapture_sheaves (d : Dev) (n : Nat) (x : Capture) : (d.setCapture n x).sheaves = d.sheaves := rfl
@[simp] theorem Dev.setCapture_sheafLostNow (d : Dev) (n : Nat) (x : Capture) : (d.setCapture n x).sheafLostNow = d.sheafLostNow := rfl
@[simp] theorem Dev.setCapture_memctl (d : Dev) (n : Nat) (x : Capture) : (d.setCapture n x).memctl = d.memctl := rfl
@[simp] theorem Dev.setCapture_bale (d : Dev) (n : Nat) (x : Capture) : (d.setCapture n x).bale = d.bale := rfl
@[simp] theorem Dev.setCapture_baleTurn (d : Dev) (n : Nat) (x : Capture) : (d.setCapture n x).baleTurn = d.baleTurn := rfl
@[simp] theorem Dev.setCapture_baleWaits (d : Dev) (n : Nat) (x : Capture) : (d.setCapture n x).baleWaits = d.baleWaits := rfl
@[simp] theorem Dev.setCapture_fns (d : Dev) (n : Nat) (x : Capture) : (d.setCapture n x).fns = d.fns := rfl
@[simp] theorem Dev.setCapture_dma (d : Dev) (n : Nat) (x : Capture) : (d.setCapture n x).dma = d.dma := rfl
@[simp] theorem Dev.setCapture_can (d : Dev) (n : Nat) (x : Capture) : (d.setCapture n x).can = d.can := rfl
@[simp] theorem Dev.setCapture_ports (d : Dev) (n : Nat) (x : Capture) : (d.setCapture n x).ports = d.ports := rfl
@[simp] theorem Dev.setCapture_outstanding (d : Dev) (n : Nat) (x : Capture) : (d.setCapture n x).outstanding = d.outstanding := rfl
@[simp] theorem Dev.setCapture_servedPath (d : Dev) (n : Nat) (x : Capture) : (d.setCapture n x).servedPath = d.servedPath := rfl
@[simp] theorem Dev.setCapture_router (d : Dev) (n : Nat) (x : Capture) : (d.setCapture n x).router = d.router := rfl
@[simp] theorem Dev.setCapture_faults (d : Dev) (n : Nat) (x : Capture) : (d.setCapture n x).faults = d.faults := rfl
@[simp] theorem Dev.setCapture_calib (d : Dev) (n : Nat) (x : Capture) : (d.setCapture n x).calib = d.calib := rfl
@[simp] theorem Dev.setCapture_ageing (d : Dev) (n : Nat) (x : Capture) : (d.setCapture n x).ageing = d.ageing := rfl
@[simp] theorem Dev.setCapture_thermal (d : Dev) (n : Nat) (x : Capture) : (d.setCapture n x).thermal = d.thermal := rfl
@[simp] theorem Dev.setCapture_store (d : Dev) (n : Nat) (x : Capture) : (d.setCapture n x).store = d.store := rfl
@[simp] theorem Dev.setCapture_units (d : Dev) (n : Nat) (x : Capture) : (d.setCapture n x).units = d.units := rfl
@[simp] theorem Dev.setCapture_pins (d : Dev) (n : Nat) (x : Capture) : (d.setCapture n x).pins = d.pins := rfl
@[simp] theorem Dev.setCapture_pinSets (d : Dev) (n : Nat) (x : Capture) : (d.setCapture n x).pinSets = d.pinSets := rfl
@[simp] theorem Dev.setCapture_pulses (d : Dev) (n : Nat) (x : Capture) : (d.setCapture n x).pulses = d.pulses := rfl
@[simp] theorem Dev.setCapture_free (d : Dev) (n : Nat) (x : Capture) : (d.setCapture n x).free = d.free := rfl
@[simp] theorem Dev.setCapture_out (d : Dev) (n : Nat) (x : Capture) : (d.setCapture n x).out = d.out := rfl

/-! ### setFn -/

@[simp] theorem Dev.setFn_now (d : Dev) (n : Nat) (x : FnSt) : (d.setFn n x).now = d.now := rfl
@[simp] theorem Dev.setFn_objs (d : Dev) (n : Nat) (x : FnSt) : (d.setFn n x).objs = d.objs := rfl
@[simp] theorem Dev.setFn_staged (d : Dev) (n : Nat) (x : FnSt) : (d.setFn n x).staged = d.staged := rfl
@[simp] theorem Dev.setFn_commits (d : Dev) (n : Nat) (x : FnSt) : (d.setFn n x).commits = d.commits := rfl
@[simp] theorem Dev.setFn_clock (d : Dev) (n : Nat) (x : FnSt) : (d.setFn n x).clock = d.clock := rfl
@[simp] theorem Dev.setFn_power (d : Dev) (n : Nat) (x : FnSt) : (d.setFn n x).power = d.power := rfl
@[simp] theorem Dev.setFn_nv (d : Dev) (n : Nat) (x : FnSt) : (d.setFn n x).nv = d.nv := rfl
@[simp] theorem Dev.setFn_drills (d : Dev) (n : Nat) (x : FnSt) : (d.setFn n x).drills = d.drills := rfl
@[simp] theorem Dev.setFn_chains (d : Dev) (n : Nat) (x : FnSt) : (d.setFn n x).chains = d.chains := rfl
@[simp] theorem Dev.setFn_groups (d : Dev) (n : Nat) (x : FnSt) : (d.setFn n x).groups = d.groups := rfl
@[simp] theorem Dev.setFn_shots (d : Dev) (n : Nat) (x : FnSt) : (d.setFn n x).shots = d.shots := rfl
@[simp] theorem Dev.setFn_closed (d : Dev) (n : Nat) (x : FnSt) : (d.setFn n x).closed = d.closed := rfl
@[simp] theorem Dev.setFn_slots (d : Dev) (n : Nat) (x : FnSt) : (d.setFn n x).slots = d.slots := rfl
@[simp] theorem Dev.setFn_clippedAt (d : Dev) (n : Nat) (x : FnSt) : (d.setFn n x).clippedAt = d.clippedAt := rfl
@[simp] theorem Dev.setFn_items (d : Dev) (n : Nat) (x : FnSt) : (d.setFn n x).items = d.items := rfl
@[simp] theorem Dev.setFn_cells (d : Dev) (n : Nat) (x : FnSt) : (d.setFn n x).cells = d.cells := rfl
@[simp] theorem Dev.setFn_tables (d : Dev) (n : Nat) (x : FnSt) : (d.setFn n x).tables = d.tables := rfl
@[simp] theorem Dev.setFn_tableContent (d : Dev) (n : Nat) (x : FnSt) : (d.setFn n x).tableContent = d.tableContent := rfl
@[simp] theorem Dev.setFn_vpt (d : Dev) (n : Nat) (x : FnSt) : (d.setFn n x).vpt = d.vpt := rfl
@[simp] theorem Dev.setFn_energy (d : Dev) (n : Nat) (x : FnSt) : (d.setFn n x).energy = d.energy := rfl
@[simp] theorem Dev.setFn_biases (d : Dev) (n : Nat) (x : FnSt) : (d.setFn n x).biases = d.biases := rfl
@[simp] theorem Dev.setFn_monitor (d : Dev) (n : Nat) (x : FnSt) : (d.setFn n x).monitor = d.monitor := rfl
@[simp] theorem Dev.setFn_trigs (d : Dev) (n : Nat) (x : FnSt) : (d.setFn n x).trigs = d.trigs := rfl
@[simp] theorem Dev.setFn_gleaners (d : Dev) (n : Nat) (x : FnSt) : (d.setFn n x).gleaners = d.gleaners := rfl
@[simp] theorem Dev.setFn_captures (d : Dev) (n : Nat) (x : FnSt) : (d.setFn n x).captures = d.captures := rfl
@[simp] theorem Dev.setFn_sheaves (d : Dev) (n : Nat) (x : FnSt) : (d.setFn n x).sheaves = d.sheaves := rfl
@[simp] theorem Dev.setFn_sheafLostNow (d : Dev) (n : Nat) (x : FnSt) : (d.setFn n x).sheafLostNow = d.sheafLostNow := rfl
@[simp] theorem Dev.setFn_memctl (d : Dev) (n : Nat) (x : FnSt) : (d.setFn n x).memctl = d.memctl := rfl
@[simp] theorem Dev.setFn_bale (d : Dev) (n : Nat) (x : FnSt) : (d.setFn n x).bale = d.bale := rfl
@[simp] theorem Dev.setFn_baleTurn (d : Dev) (n : Nat) (x : FnSt) : (d.setFn n x).baleTurn = d.baleTurn := rfl
@[simp] theorem Dev.setFn_baleWaits (d : Dev) (n : Nat) (x : FnSt) : (d.setFn n x).baleWaits = d.baleWaits := rfl
@[simp] theorem Dev.setFn_dma (d : Dev) (n : Nat) (x : FnSt) : (d.setFn n x).dma = d.dma := rfl
@[simp] theorem Dev.setFn_can (d : Dev) (n : Nat) (x : FnSt) : (d.setFn n x).can = d.can := rfl
@[simp] theorem Dev.setFn_ports (d : Dev) (n : Nat) (x : FnSt) : (d.setFn n x).ports = d.ports := rfl
@[simp] theorem Dev.setFn_outstanding (d : Dev) (n : Nat) (x : FnSt) : (d.setFn n x).outstanding = d.outstanding := rfl
@[simp] theorem Dev.setFn_servedPath (d : Dev) (n : Nat) (x : FnSt) : (d.setFn n x).servedPath = d.servedPath := rfl
@[simp] theorem Dev.setFn_router (d : Dev) (n : Nat) (x : FnSt) : (d.setFn n x).router = d.router := rfl
@[simp] theorem Dev.setFn_faults (d : Dev) (n : Nat) (x : FnSt) : (d.setFn n x).faults = d.faults := rfl
@[simp] theorem Dev.setFn_calib (d : Dev) (n : Nat) (x : FnSt) : (d.setFn n x).calib = d.calib := rfl
@[simp] theorem Dev.setFn_ageing (d : Dev) (n : Nat) (x : FnSt) : (d.setFn n x).ageing = d.ageing := rfl
@[simp] theorem Dev.setFn_thermal (d : Dev) (n : Nat) (x : FnSt) : (d.setFn n x).thermal = d.thermal := rfl
@[simp] theorem Dev.setFn_store (d : Dev) (n : Nat) (x : FnSt) : (d.setFn n x).store = d.store := rfl
@[simp] theorem Dev.setFn_units (d : Dev) (n : Nat) (x : FnSt) : (d.setFn n x).units = d.units := rfl
@[simp] theorem Dev.setFn_pins (d : Dev) (n : Nat) (x : FnSt) : (d.setFn n x).pins = d.pins := rfl
@[simp] theorem Dev.setFn_pinSets (d : Dev) (n : Nat) (x : FnSt) : (d.setFn n x).pinSets = d.pinSets := rfl
@[simp] theorem Dev.setFn_pulses (d : Dev) (n : Nat) (x : FnSt) : (d.setFn n x).pulses = d.pulses := rfl
@[simp] theorem Dev.setFn_free (d : Dev) (n : Nat) (x : FnSt) : (d.setFn n x).free = d.free := rfl
@[simp] theorem Dev.setFn_out (d : Dev) (n : Nat) (x : FnSt) : (d.setFn n x).out = d.out := rfl

/-! ### setDma -/

@[simp] theorem Dev.setDma_now (d : Dev) (n : Nat) (x : DmaCh) : (d.setDma n x).now = d.now := rfl
@[simp] theorem Dev.setDma_objs (d : Dev) (n : Nat) (x : DmaCh) : (d.setDma n x).objs = d.objs := rfl
@[simp] theorem Dev.setDma_staged (d : Dev) (n : Nat) (x : DmaCh) : (d.setDma n x).staged = d.staged := rfl
@[simp] theorem Dev.setDma_commits (d : Dev) (n : Nat) (x : DmaCh) : (d.setDma n x).commits = d.commits := rfl
@[simp] theorem Dev.setDma_clock (d : Dev) (n : Nat) (x : DmaCh) : (d.setDma n x).clock = d.clock := rfl
@[simp] theorem Dev.setDma_power (d : Dev) (n : Nat) (x : DmaCh) : (d.setDma n x).power = d.power := rfl
@[simp] theorem Dev.setDma_nv (d : Dev) (n : Nat) (x : DmaCh) : (d.setDma n x).nv = d.nv := rfl
@[simp] theorem Dev.setDma_drills (d : Dev) (n : Nat) (x : DmaCh) : (d.setDma n x).drills = d.drills := rfl
@[simp] theorem Dev.setDma_chains (d : Dev) (n : Nat) (x : DmaCh) : (d.setDma n x).chains = d.chains := rfl
@[simp] theorem Dev.setDma_groups (d : Dev) (n : Nat) (x : DmaCh) : (d.setDma n x).groups = d.groups := rfl
@[simp] theorem Dev.setDma_shots (d : Dev) (n : Nat) (x : DmaCh) : (d.setDma n x).shots = d.shots := rfl
@[simp] theorem Dev.setDma_closed (d : Dev) (n : Nat) (x : DmaCh) : (d.setDma n x).closed = d.closed := rfl
@[simp] theorem Dev.setDma_slots (d : Dev) (n : Nat) (x : DmaCh) : (d.setDma n x).slots = d.slots := rfl
@[simp] theorem Dev.setDma_clippedAt (d : Dev) (n : Nat) (x : DmaCh) : (d.setDma n x).clippedAt = d.clippedAt := rfl
@[simp] theorem Dev.setDma_items (d : Dev) (n : Nat) (x : DmaCh) : (d.setDma n x).items = d.items := rfl
@[simp] theorem Dev.setDma_cells (d : Dev) (n : Nat) (x : DmaCh) : (d.setDma n x).cells = d.cells := rfl
@[simp] theorem Dev.setDma_tables (d : Dev) (n : Nat) (x : DmaCh) : (d.setDma n x).tables = d.tables := rfl
@[simp] theorem Dev.setDma_tableContent (d : Dev) (n : Nat) (x : DmaCh) : (d.setDma n x).tableContent = d.tableContent := rfl
@[simp] theorem Dev.setDma_vpt (d : Dev) (n : Nat) (x : DmaCh) : (d.setDma n x).vpt = d.vpt := rfl
@[simp] theorem Dev.setDma_energy (d : Dev) (n : Nat) (x : DmaCh) : (d.setDma n x).energy = d.energy := rfl
@[simp] theorem Dev.setDma_biases (d : Dev) (n : Nat) (x : DmaCh) : (d.setDma n x).biases = d.biases := rfl
@[simp] theorem Dev.setDma_monitor (d : Dev) (n : Nat) (x : DmaCh) : (d.setDma n x).monitor = d.monitor := rfl
@[simp] theorem Dev.setDma_trigs (d : Dev) (n : Nat) (x : DmaCh) : (d.setDma n x).trigs = d.trigs := rfl
@[simp] theorem Dev.setDma_gleaners (d : Dev) (n : Nat) (x : DmaCh) : (d.setDma n x).gleaners = d.gleaners := rfl
@[simp] theorem Dev.setDma_captures (d : Dev) (n : Nat) (x : DmaCh) : (d.setDma n x).captures = d.captures := rfl
@[simp] theorem Dev.setDma_sheaves (d : Dev) (n : Nat) (x : DmaCh) : (d.setDma n x).sheaves = d.sheaves := rfl
@[simp] theorem Dev.setDma_sheafLostNow (d : Dev) (n : Nat) (x : DmaCh) : (d.setDma n x).sheafLostNow = d.sheafLostNow := rfl
@[simp] theorem Dev.setDma_memctl (d : Dev) (n : Nat) (x : DmaCh) : (d.setDma n x).memctl = d.memctl := rfl
@[simp] theorem Dev.setDma_bale (d : Dev) (n : Nat) (x : DmaCh) : (d.setDma n x).bale = d.bale := rfl
@[simp] theorem Dev.setDma_baleTurn (d : Dev) (n : Nat) (x : DmaCh) : (d.setDma n x).baleTurn = d.baleTurn := rfl
@[simp] theorem Dev.setDma_baleWaits (d : Dev) (n : Nat) (x : DmaCh) : (d.setDma n x).baleWaits = d.baleWaits := rfl
@[simp] theorem Dev.setDma_fns (d : Dev) (n : Nat) (x : DmaCh) : (d.setDma n x).fns = d.fns := rfl
@[simp] theorem Dev.setDma_can (d : Dev) (n : Nat) (x : DmaCh) : (d.setDma n x).can = d.can := rfl
@[simp] theorem Dev.setDma_ports (d : Dev) (n : Nat) (x : DmaCh) : (d.setDma n x).ports = d.ports := rfl
@[simp] theorem Dev.setDma_outstanding (d : Dev) (n : Nat) (x : DmaCh) : (d.setDma n x).outstanding = d.outstanding := rfl
@[simp] theorem Dev.setDma_servedPath (d : Dev) (n : Nat) (x : DmaCh) : (d.setDma n x).servedPath = d.servedPath := rfl
@[simp] theorem Dev.setDma_router (d : Dev) (n : Nat) (x : DmaCh) : (d.setDma n x).router = d.router := rfl
@[simp] theorem Dev.setDma_faults (d : Dev) (n : Nat) (x : DmaCh) : (d.setDma n x).faults = d.faults := rfl
@[simp] theorem Dev.setDma_calib (d : Dev) (n : Nat) (x : DmaCh) : (d.setDma n x).calib = d.calib := rfl
@[simp] theorem Dev.setDma_ageing (d : Dev) (n : Nat) (x : DmaCh) : (d.setDma n x).ageing = d.ageing := rfl
@[simp] theorem Dev.setDma_thermal (d : Dev) (n : Nat) (x : DmaCh) : (d.setDma n x).thermal = d.thermal := rfl
@[simp] theorem Dev.setDma_store (d : Dev) (n : Nat) (x : DmaCh) : (d.setDma n x).store = d.store := rfl
@[simp] theorem Dev.setDma_units (d : Dev) (n : Nat) (x : DmaCh) : (d.setDma n x).units = d.units := rfl
@[simp] theorem Dev.setDma_pins (d : Dev) (n : Nat) (x : DmaCh) : (d.setDma n x).pins = d.pins := rfl
@[simp] theorem Dev.setDma_pinSets (d : Dev) (n : Nat) (x : DmaCh) : (d.setDma n x).pinSets = d.pinSets := rfl
@[simp] theorem Dev.setDma_pulses (d : Dev) (n : Nat) (x : DmaCh) : (d.setDma n x).pulses = d.pulses := rfl
@[simp] theorem Dev.setDma_free (d : Dev) (n : Nat) (x : DmaCh) : (d.setDma n x).free = d.free := rfl
@[simp] theorem Dev.setDma_out (d : Dev) (n : Nat) (x : DmaCh) : (d.setDma n x).out = d.out := rfl

/-! ### setPort -/

@[simp] theorem Dev.setPort_now (d : Dev) (n : Nat) (x : PortSt) : (d.setPort n x).now = d.now := rfl
@[simp] theorem Dev.setPort_objs (d : Dev) (n : Nat) (x : PortSt) : (d.setPort n x).objs = d.objs := rfl
@[simp] theorem Dev.setPort_staged (d : Dev) (n : Nat) (x : PortSt) : (d.setPort n x).staged = d.staged := rfl
@[simp] theorem Dev.setPort_commits (d : Dev) (n : Nat) (x : PortSt) : (d.setPort n x).commits = d.commits := rfl
@[simp] theorem Dev.setPort_clock (d : Dev) (n : Nat) (x : PortSt) : (d.setPort n x).clock = d.clock := rfl
@[simp] theorem Dev.setPort_power (d : Dev) (n : Nat) (x : PortSt) : (d.setPort n x).power = d.power := rfl
@[simp] theorem Dev.setPort_nv (d : Dev) (n : Nat) (x : PortSt) : (d.setPort n x).nv = d.nv := rfl
@[simp] theorem Dev.setPort_drills (d : Dev) (n : Nat) (x : PortSt) : (d.setPort n x).drills = d.drills := rfl
@[simp] theorem Dev.setPort_chains (d : Dev) (n : Nat) (x : PortSt) : (d.setPort n x).chains = d.chains := rfl
@[simp] theorem Dev.setPort_groups (d : Dev) (n : Nat) (x : PortSt) : (d.setPort n x).groups = d.groups := rfl
@[simp] theorem Dev.setPort_shots (d : Dev) (n : Nat) (x : PortSt) : (d.setPort n x).shots = d.shots := rfl
@[simp] theorem Dev.setPort_closed (d : Dev) (n : Nat) (x : PortSt) : (d.setPort n x).closed = d.closed := rfl
@[simp] theorem Dev.setPort_slots (d : Dev) (n : Nat) (x : PortSt) : (d.setPort n x).slots = d.slots := rfl
@[simp] theorem Dev.setPort_clippedAt (d : Dev) (n : Nat) (x : PortSt) : (d.setPort n x).clippedAt = d.clippedAt := rfl
@[simp] theorem Dev.setPort_items (d : Dev) (n : Nat) (x : PortSt) : (d.setPort n x).items = d.items := rfl
@[simp] theorem Dev.setPort_cells (d : Dev) (n : Nat) (x : PortSt) : (d.setPort n x).cells = d.cells := rfl
@[simp] theorem Dev.setPort_tables (d : Dev) (n : Nat) (x : PortSt) : (d.setPort n x).tables = d.tables := rfl
@[simp] theorem Dev.setPort_tableContent (d : Dev) (n : Nat) (x : PortSt) : (d.setPort n x).tableContent = d.tableContent := rfl
@[simp] theorem Dev.setPort_vpt (d : Dev) (n : Nat) (x : PortSt) : (d.setPort n x).vpt = d.vpt := rfl
@[simp] theorem Dev.setPort_energy (d : Dev) (n : Nat) (x : PortSt) : (d.setPort n x).energy = d.energy := rfl
@[simp] theorem Dev.setPort_biases (d : Dev) (n : Nat) (x : PortSt) : (d.setPort n x).biases = d.biases := rfl
@[simp] theorem Dev.setPort_monitor (d : Dev) (n : Nat) (x : PortSt) : (d.setPort n x).monitor = d.monitor := rfl
@[simp] theorem Dev.setPort_trigs (d : Dev) (n : Nat) (x : PortSt) : (d.setPort n x).trigs = d.trigs := rfl
@[simp] theorem Dev.setPort_gleaners (d : Dev) (n : Nat) (x : PortSt) : (d.setPort n x).gleaners = d.gleaners := rfl
@[simp] theorem Dev.setPort_captures (d : Dev) (n : Nat) (x : PortSt) : (d.setPort n x).captures = d.captures := rfl
@[simp] theorem Dev.setPort_sheaves (d : Dev) (n : Nat) (x : PortSt) : (d.setPort n x).sheaves = d.sheaves := rfl
@[simp] theorem Dev.setPort_sheafLostNow (d : Dev) (n : Nat) (x : PortSt) : (d.setPort n x).sheafLostNow = d.sheafLostNow := rfl
@[simp] theorem Dev.setPort_memctl (d : Dev) (n : Nat) (x : PortSt) : (d.setPort n x).memctl = d.memctl := rfl
@[simp] theorem Dev.setPort_bale (d : Dev) (n : Nat) (x : PortSt) : (d.setPort n x).bale = d.bale := rfl
@[simp] theorem Dev.setPort_baleTurn (d : Dev) (n : Nat) (x : PortSt) : (d.setPort n x).baleTurn = d.baleTurn := rfl
@[simp] theorem Dev.setPort_baleWaits (d : Dev) (n : Nat) (x : PortSt) : (d.setPort n x).baleWaits = d.baleWaits := rfl
@[simp] theorem Dev.setPort_fns (d : Dev) (n : Nat) (x : PortSt) : (d.setPort n x).fns = d.fns := rfl
@[simp] theorem Dev.setPort_dma (d : Dev) (n : Nat) (x : PortSt) : (d.setPort n x).dma = d.dma := rfl
@[simp] theorem Dev.setPort_can (d : Dev) (n : Nat) (x : PortSt) : (d.setPort n x).can = d.can := rfl
@[simp] theorem Dev.setPort_outstanding (d : Dev) (n : Nat) (x : PortSt) : (d.setPort n x).outstanding = d.outstanding := rfl
@[simp] theorem Dev.setPort_servedPath (d : Dev) (n : Nat) (x : PortSt) : (d.setPort n x).servedPath = d.servedPath := rfl
@[simp] theorem Dev.setPort_router (d : Dev) (n : Nat) (x : PortSt) : (d.setPort n x).router = d.router := rfl
@[simp] theorem Dev.setPort_faults (d : Dev) (n : Nat) (x : PortSt) : (d.setPort n x).faults = d.faults := rfl
@[simp] theorem Dev.setPort_calib (d : Dev) (n : Nat) (x : PortSt) : (d.setPort n x).calib = d.calib := rfl
@[simp] theorem Dev.setPort_ageing (d : Dev) (n : Nat) (x : PortSt) : (d.setPort n x).ageing = d.ageing := rfl
@[simp] theorem Dev.setPort_thermal (d : Dev) (n : Nat) (x : PortSt) : (d.setPort n x).thermal = d.thermal := rfl
@[simp] theorem Dev.setPort_store (d : Dev) (n : Nat) (x : PortSt) : (d.setPort n x).store = d.store := rfl
@[simp] theorem Dev.setPort_units (d : Dev) (n : Nat) (x : PortSt) : (d.setPort n x).units = d.units := rfl
@[simp] theorem Dev.setPort_pins (d : Dev) (n : Nat) (x : PortSt) : (d.setPort n x).pins = d.pins := rfl
@[simp] theorem Dev.setPort_pinSets (d : Dev) (n : Nat) (x : PortSt) : (d.setPort n x).pinSets = d.pinSets := rfl
@[simp] theorem Dev.setPort_pulses (d : Dev) (n : Nat) (x : PortSt) : (d.setPort n x).pulses = d.pulses := rfl
@[simp] theorem Dev.setPort_free (d : Dev) (n : Nat) (x : PortSt) : (d.setPort n x).free = d.free := rfl
@[simp] theorem Dev.setPort_out (d : Dev) (n : Nat) (x : PortSt) : (d.setPort n x).out = d.out := rfl

/-! ### setPtp -/

@[simp] theorem Dev.setPtp_now (d : Dev) (n : Nat) (x : PtpPort) : (d.setPtp n x).now = d.now := rfl
@[simp] theorem Dev.setPtp_objs (d : Dev) (n : Nat) (x : PtpPort) : (d.setPtp n x).objs = d.objs := rfl
@[simp] theorem Dev.setPtp_staged (d : Dev) (n : Nat) (x : PtpPort) : (d.setPtp n x).staged = d.staged := rfl
@[simp] theorem Dev.setPtp_commits (d : Dev) (n : Nat) (x : PtpPort) : (d.setPtp n x).commits = d.commits := rfl
@[simp] theorem Dev.setPtp_power (d : Dev) (n : Nat) (x : PtpPort) : (d.setPtp n x).power = d.power := rfl
@[simp] theorem Dev.setPtp_nv (d : Dev) (n : Nat) (x : PtpPort) : (d.setPtp n x).nv = d.nv := rfl
@[simp] theorem Dev.setPtp_drills (d : Dev) (n : Nat) (x : PtpPort) : (d.setPtp n x).drills = d.drills := rfl
@[simp] theorem Dev.setPtp_chains (d : Dev) (n : Nat) (x : PtpPort) : (d.setPtp n x).chains = d.chains := rfl
@[simp] theorem Dev.setPtp_groups (d : Dev) (n : Nat) (x : PtpPort) : (d.setPtp n x).groups = d.groups := rfl
@[simp] theorem Dev.setPtp_shots (d : Dev) (n : Nat) (x : PtpPort) : (d.setPtp n x).shots = d.shots := rfl
@[simp] theorem Dev.setPtp_closed (d : Dev) (n : Nat) (x : PtpPort) : (d.setPtp n x).closed = d.closed := rfl
@[simp] theorem Dev.setPtp_slots (d : Dev) (n : Nat) (x : PtpPort) : (d.setPtp n x).slots = d.slots := rfl
@[simp] theorem Dev.setPtp_clippedAt (d : Dev) (n : Nat) (x : PtpPort) : (d.setPtp n x).clippedAt = d.clippedAt := rfl
@[simp] theorem Dev.setPtp_items (d : Dev) (n : Nat) (x : PtpPort) : (d.setPtp n x).items = d.items := rfl
@[simp] theorem Dev.setPtp_cells (d : Dev) (n : Nat) (x : PtpPort) : (d.setPtp n x).cells = d.cells := rfl
@[simp] theorem Dev.setPtp_tables (d : Dev) (n : Nat) (x : PtpPort) : (d.setPtp n x).tables = d.tables := rfl
@[simp] theorem Dev.setPtp_tableContent (d : Dev) (n : Nat) (x : PtpPort) : (d.setPtp n x).tableContent = d.tableContent := rfl
@[simp] theorem Dev.setPtp_vpt (d : Dev) (n : Nat) (x : PtpPort) : (d.setPtp n x).vpt = d.vpt := rfl
@[simp] theorem Dev.setPtp_energy (d : Dev) (n : Nat) (x : PtpPort) : (d.setPtp n x).energy = d.energy := rfl
@[simp] theorem Dev.setPtp_biases (d : Dev) (n : Nat) (x : PtpPort) : (d.setPtp n x).biases = d.biases := rfl
@[simp] theorem Dev.setPtp_monitor (d : Dev) (n : Nat) (x : PtpPort) : (d.setPtp n x).monitor = d.monitor := rfl
@[simp] theorem Dev.setPtp_trigs (d : Dev) (n : Nat) (x : PtpPort) : (d.setPtp n x).trigs = d.trigs := rfl
@[simp] theorem Dev.setPtp_gleaners (d : Dev) (n : Nat) (x : PtpPort) : (d.setPtp n x).gleaners = d.gleaners := rfl
@[simp] theorem Dev.setPtp_captures (d : Dev) (n : Nat) (x : PtpPort) : (d.setPtp n x).captures = d.captures := rfl
@[simp] theorem Dev.setPtp_sheaves (d : Dev) (n : Nat) (x : PtpPort) : (d.setPtp n x).sheaves = d.sheaves := rfl
@[simp] theorem Dev.setPtp_sheafLostNow (d : Dev) (n : Nat) (x : PtpPort) : (d.setPtp n x).sheafLostNow = d.sheafLostNow := rfl
@[simp] theorem Dev.setPtp_memctl (d : Dev) (n : Nat) (x : PtpPort) : (d.setPtp n x).memctl = d.memctl := rfl
@[simp] theorem Dev.setPtp_bale (d : Dev) (n : Nat) (x : PtpPort) : (d.setPtp n x).bale = d.bale := rfl
@[simp] theorem Dev.setPtp_baleTurn (d : Dev) (n : Nat) (x : PtpPort) : (d.setPtp n x).baleTurn = d.baleTurn := rfl
@[simp] theorem Dev.setPtp_baleWaits (d : Dev) (n : Nat) (x : PtpPort) : (d.setPtp n x).baleWaits = d.baleWaits := rfl
@[simp] theorem Dev.setPtp_fns (d : Dev) (n : Nat) (x : PtpPort) : (d.setPtp n x).fns = d.fns := rfl
@[simp] theorem Dev.setPtp_dma (d : Dev) (n : Nat) (x : PtpPort) : (d.setPtp n x).dma = d.dma := rfl
@[simp] theorem Dev.setPtp_can (d : Dev) (n : Nat) (x : PtpPort) : (d.setPtp n x).can = d.can := rfl
@[simp] theorem Dev.setPtp_ports (d : Dev) (n : Nat) (x : PtpPort) : (d.setPtp n x).ports = d.ports := rfl
@[simp] theorem Dev.setPtp_outstanding (d : Dev) (n : Nat) (x : PtpPort) : (d.setPtp n x).outstanding = d.outstanding := rfl
@[simp] theorem Dev.setPtp_servedPath (d : Dev) (n : Nat) (x : PtpPort) : (d.setPtp n x).servedPath = d.servedPath := rfl
@[simp] theorem Dev.setPtp_router (d : Dev) (n : Nat) (x : PtpPort) : (d.setPtp n x).router = d.router := rfl
@[simp] theorem Dev.setPtp_faults (d : Dev) (n : Nat) (x : PtpPort) : (d.setPtp n x).faults = d.faults := rfl
@[simp] theorem Dev.setPtp_calib (d : Dev) (n : Nat) (x : PtpPort) : (d.setPtp n x).calib = d.calib := rfl
@[simp] theorem Dev.setPtp_ageing (d : Dev) (n : Nat) (x : PtpPort) : (d.setPtp n x).ageing = d.ageing := rfl
@[simp] theorem Dev.setPtp_thermal (d : Dev) (n : Nat) (x : PtpPort) : (d.setPtp n x).thermal = d.thermal := rfl
@[simp] theorem Dev.setPtp_store (d : Dev) (n : Nat) (x : PtpPort) : (d.setPtp n x).store = d.store := rfl
@[simp] theorem Dev.setPtp_units (d : Dev) (n : Nat) (x : PtpPort) : (d.setPtp n x).units = d.units := rfl
@[simp] theorem Dev.setPtp_pins (d : Dev) (n : Nat) (x : PtpPort) : (d.setPtp n x).pins = d.pins := rfl
@[simp] theorem Dev.setPtp_pinSets (d : Dev) (n : Nat) (x : PtpPort) : (d.setPtp n x).pinSets = d.pinSets := rfl
@[simp] theorem Dev.setPtp_pulses (d : Dev) (n : Nat) (x : PtpPort) : (d.setPtp n x).pulses = d.pulses := rfl
@[simp] theorem Dev.setPtp_free (d : Dev) (n : Nat) (x : PtpPort) : (d.setPtp n x).free = d.free := rfl
@[simp] theorem Dev.setPtp_out (d : Dev) (n : Nat) (x : PtpPort) : (d.setPtp n x).out = d.out := rfl

/-! ### setCommit -/

@[simp] theorem Dev.setCommit_now (d : Dev) (n : Nat) (x : CommitSt) : (d.setCommit n x).now = d.now := rfl
@[simp] theorem Dev.setCommit_objs (d : Dev) (n : Nat) (x : CommitSt) : (d.setCommit n x).objs = d.objs := rfl
@[simp] theorem Dev.setCommit_staged (d : Dev) (n : Nat) (x : CommitSt) : (d.setCommit n x).staged = d.staged := rfl
@[simp] theorem Dev.setCommit_clock (d : Dev) (n : Nat) (x : CommitSt) : (d.setCommit n x).clock = d.clock := rfl
@[simp] theorem Dev.setCommit_power (d : Dev) (n : Nat) (x : CommitSt) : (d.setCommit n x).power = d.power := rfl
@[simp] theorem Dev.setCommit_nv (d : Dev) (n : Nat) (x : CommitSt) : (d.setCommit n x).nv = d.nv := rfl
@[simp] theorem Dev.setCommit_drills (d : Dev) (n : Nat) (x : CommitSt) : (d.setCommit n x).drills = d.drills := rfl
@[simp] theorem Dev.setCommit_chains (d : Dev) (n : Nat) (x : CommitSt) : (d.setCommit n x).chains = d.chains := rfl
@[simp] theorem Dev.setCommit_groups (d : Dev) (n : Nat) (x : CommitSt) : (d.setCommit n x).groups = d.groups := rfl
@[simp] theorem Dev.setCommit_shots (d : Dev) (n : Nat) (x : CommitSt) : (d.setCommit n x).shots = d.shots := rfl
@[simp] theorem Dev.setCommit_closed (d : Dev) (n : Nat) (x : CommitSt) : (d.setCommit n x).closed = d.closed := rfl
@[simp] theorem Dev.setCommit_slots (d : Dev) (n : Nat) (x : CommitSt) : (d.setCommit n x).slots = d.slots := rfl
@[simp] theorem Dev.setCommit_clippedAt (d : Dev) (n : Nat) (x : CommitSt) : (d.setCommit n x).clippedAt = d.clippedAt := rfl
@[simp] theorem Dev.setCommit_items (d : Dev) (n : Nat) (x : CommitSt) : (d.setCommit n x).items = d.items := rfl
@[simp] theorem Dev.setCommit_cells (d : Dev) (n : Nat) (x : CommitSt) : (d.setCommit n x).cells = d.cells := rfl
@[simp] theorem Dev.setCommit_tables (d : Dev) (n : Nat) (x : CommitSt) : (d.setCommit n x).tables = d.tables := rfl
@[simp] theorem Dev.setCommit_tableContent (d : Dev) (n : Nat) (x : CommitSt) : (d.setCommit n x).tableContent = d.tableContent := rfl
@[simp] theorem Dev.setCommit_vpt (d : Dev) (n : Nat) (x : CommitSt) : (d.setCommit n x).vpt = d.vpt := rfl
@[simp] theorem Dev.setCommit_energy (d : Dev) (n : Nat) (x : CommitSt) : (d.setCommit n x).energy = d.energy := rfl
@[simp] theorem Dev.setCommit_biases (d : Dev) (n : Nat) (x : CommitSt) : (d.setCommit n x).biases = d.biases := rfl
@[simp] theorem Dev.setCommit_monitor (d : Dev) (n : Nat) (x : CommitSt) : (d.setCommit n x).monitor = d.monitor := rfl
@[simp] theorem Dev.setCommit_trigs (d : Dev) (n : Nat) (x : CommitSt) : (d.setCommit n x).trigs = d.trigs := rfl
@[simp] theorem Dev.setCommit_gleaners (d : Dev) (n : Nat) (x : CommitSt) : (d.setCommit n x).gleaners = d.gleaners := rfl
@[simp] theorem Dev.setCommit_captures (d : Dev) (n : Nat) (x : CommitSt) : (d.setCommit n x).captures = d.captures := rfl
@[simp] theorem Dev.setCommit_sheaves (d : Dev) (n : Nat) (x : CommitSt) : (d.setCommit n x).sheaves = d.sheaves := rfl
@[simp] theorem Dev.setCommit_sheafLostNow (d : Dev) (n : Nat) (x : CommitSt) : (d.setCommit n x).sheafLostNow = d.sheafLostNow := rfl
@[simp] theorem Dev.setCommit_memctl (d : Dev) (n : Nat) (x : CommitSt) : (d.setCommit n x).memctl = d.memctl := rfl
@[simp] theorem Dev.setCommit_bale (d : Dev) (n : Nat) (x : CommitSt) : (d.setCommit n x).bale = d.bale := rfl
@[simp] theorem Dev.setCommit_baleTurn (d : Dev) (n : Nat) (x : CommitSt) : (d.setCommit n x).baleTurn = d.baleTurn := rfl
@[simp] theorem Dev.setCommit_baleWaits (d : Dev) (n : Nat) (x : CommitSt) : (d.setCommit n x).baleWaits = d.baleWaits := rfl
@[simp] theorem Dev.setCommit_fns (d : Dev) (n : Nat) (x : CommitSt) : (d.setCommit n x).fns = d.fns := rfl
@[simp] theorem Dev.setCommit_dma (d : Dev) (n : Nat) (x : CommitSt) : (d.setCommit n x).dma = d.dma := rfl
@[simp] theorem Dev.setCommit_can (d : Dev) (n : Nat) (x : CommitSt) : (d.setCommit n x).can = d.can := rfl
@[simp] theorem Dev.setCommit_ports (d : Dev) (n : Nat) (x : CommitSt) : (d.setCommit n x).ports = d.ports := rfl
@[simp] theorem Dev.setCommit_outstanding (d : Dev) (n : Nat) (x : CommitSt) : (d.setCommit n x).outstanding = d.outstanding := rfl
@[simp] theorem Dev.setCommit_servedPath (d : Dev) (n : Nat) (x : CommitSt) : (d.setCommit n x).servedPath = d.servedPath := rfl
@[simp] theorem Dev.setCommit_router (d : Dev) (n : Nat) (x : CommitSt) : (d.setCommit n x).router = d.router := rfl
@[simp] theorem Dev.setCommit_faults (d : Dev) (n : Nat) (x : CommitSt) : (d.setCommit n x).faults = d.faults := rfl
@[simp] theorem Dev.setCommit_calib (d : Dev) (n : Nat) (x : CommitSt) : (d.setCommit n x).calib = d.calib := rfl
@[simp] theorem Dev.setCommit_ageing (d : Dev) (n : Nat) (x : CommitSt) : (d.setCommit n x).ageing = d.ageing := rfl
@[simp] theorem Dev.setCommit_thermal (d : Dev) (n : Nat) (x : CommitSt) : (d.setCommit n x).thermal = d.thermal := rfl
@[simp] theorem Dev.setCommit_store (d : Dev) (n : Nat) (x : CommitSt) : (d.setCommit n x).store = d.store := rfl
@[simp] theorem Dev.setCommit_units (d : Dev) (n : Nat) (x : CommitSt) : (d.setCommit n x).units = d.units := rfl
@[simp] theorem Dev.setCommit_pins (d : Dev) (n : Nat) (x : CommitSt) : (d.setCommit n x).pins = d.pins := rfl
@[simp] theorem Dev.setCommit_pinSets (d : Dev) (n : Nat) (x : CommitSt) : (d.setCommit n x).pinSets = d.pinSets := rfl
@[simp] theorem Dev.setCommit_pulses (d : Dev) (n : Nat) (x : CommitSt) : (d.setCommit n x).pulses = d.pulses := rfl
@[simp] theorem Dev.setCommit_free (d : Dev) (n : Nat) (x : CommitSt) : (d.setCommit n x).free = d.free := rfl
@[simp] theorem Dev.setCommit_out (d : Dev) (n : Nat) (x : CommitSt) : (d.setCommit n x).out = d.out := rfl

/-! ### setUnit -/

@[simp] theorem Dev.setUnit_now (d : Dev) (n : Nat) (x : UnitSt) : (d.setUnit n x).now = d.now := rfl
@[simp] theorem Dev.setUnit_objs (d : Dev) (n : Nat) (x : UnitSt) : (d.setUnit n x).objs = d.objs := rfl
@[simp] theorem Dev.setUnit_staged (d : Dev) (n : Nat) (x : UnitSt) : (d.setUnit n x).staged = d.staged := rfl
@[simp] theorem Dev.setUnit_commits (d : Dev) (n : Nat) (x : UnitSt) : (d.setUnit n x).commits = d.commits := rfl
@[simp] theorem Dev.setUnit_clock (d : Dev) (n : Nat) (x : UnitSt) : (d.setUnit n x).clock = d.clock := rfl
@[simp] theorem Dev.setUnit_power (d : Dev) (n : Nat) (x : UnitSt) : (d.setUnit n x).power = d.power := rfl
@[simp] theorem Dev.setUnit_nv (d : Dev) (n : Nat) (x : UnitSt) : (d.setUnit n x).nv = d.nv := rfl
@[simp] theorem Dev.setUnit_drills (d : Dev) (n : Nat) (x : UnitSt) : (d.setUnit n x).drills = d.drills := rfl
@[simp] theorem Dev.setUnit_chains (d : Dev) (n : Nat) (x : UnitSt) : (d.setUnit n x).chains = d.chains := rfl
@[simp] theorem Dev.setUnit_groups (d : Dev) (n : Nat) (x : UnitSt) : (d.setUnit n x).groups = d.groups := rfl
@[simp] theorem Dev.setUnit_shots (d : Dev) (n : Nat) (x : UnitSt) : (d.setUnit n x).shots = d.shots := rfl
@[simp] theorem Dev.setUnit_closed (d : Dev) (n : Nat) (x : UnitSt) : (d.setUnit n x).closed = d.closed := rfl
@[simp] theorem Dev.setUnit_slots (d : Dev) (n : Nat) (x : UnitSt) : (d.setUnit n x).slots = d.slots := rfl
@[simp] theorem Dev.setUnit_clippedAt (d : Dev) (n : Nat) (x : UnitSt) : (d.setUnit n x).clippedAt = d.clippedAt := rfl
@[simp] theorem Dev.setUnit_items (d : Dev) (n : Nat) (x : UnitSt) : (d.setUnit n x).items = d.items := rfl
@[simp] theorem Dev.setUnit_cells (d : Dev) (n : Nat) (x : UnitSt) : (d.setUnit n x).cells = d.cells := rfl
@[simp] theorem Dev.setUnit_tables (d : Dev) (n : Nat) (x : UnitSt) : (d.setUnit n x).tables = d.tables := rfl
@[simp] theorem Dev.setUnit_tableContent (d : Dev) (n : Nat) (x : UnitSt) : (d.setUnit n x).tableContent = d.tableContent := rfl
@[simp] theorem Dev.setUnit_vpt (d : Dev) (n : Nat) (x : UnitSt) : (d.setUnit n x).vpt = d.vpt := rfl
@[simp] theorem Dev.setUnit_energy (d : Dev) (n : Nat) (x : UnitSt) : (d.setUnit n x).energy = d.energy := rfl
@[simp] theorem Dev.setUnit_biases (d : Dev) (n : Nat) (x : UnitSt) : (d.setUnit n x).biases = d.biases := rfl
@[simp] theorem Dev.setUnit_monitor (d : Dev) (n : Nat) (x : UnitSt) : (d.setUnit n x).monitor = d.monitor := rfl
@[simp] theorem Dev.setUnit_trigs (d : Dev) (n : Nat) (x : UnitSt) : (d.setUnit n x).trigs = d.trigs := rfl
@[simp] theorem Dev.setUnit_gleaners (d : Dev) (n : Nat) (x : UnitSt) : (d.setUnit n x).gleaners = d.gleaners := rfl
@[simp] theorem Dev.setUnit_captures (d : Dev) (n : Nat) (x : UnitSt) : (d.setUnit n x).captures = d.captures := rfl
@[simp] theorem Dev.setUnit_sheaves (d : Dev) (n : Nat) (x : UnitSt) : (d.setUnit n x).sheaves = d.sheaves := rfl
@[simp] theorem Dev.setUnit_sheafLostNow (d : Dev) (n : Nat) (x : UnitSt) : (d.setUnit n x).sheafLostNow = d.sheafLostNow := rfl
@[simp] theorem Dev.setUnit_memctl (d : Dev) (n : Nat) (x : UnitSt) : (d.setUnit n x).memctl = d.memctl := rfl
@[simp] theorem Dev.setUnit_bale (d : Dev) (n : Nat) (x : UnitSt) : (d.setUnit n x).bale = d.bale := rfl
@[simp] theorem Dev.setUnit_baleTurn (d : Dev) (n : Nat) (x : UnitSt) : (d.setUnit n x).baleTurn = d.baleTurn := rfl
@[simp] theorem Dev.setUnit_baleWaits (d : Dev) (n : Nat) (x : UnitSt) : (d.setUnit n x).baleWaits = d.baleWaits := rfl
@[simp] theorem Dev.setUnit_fns (d : Dev) (n : Nat) (x : UnitSt) : (d.setUnit n x).fns = d.fns := rfl
@[simp] theorem Dev.setUnit_dma (d : Dev) (n : Nat) (x : UnitSt) : (d.setUnit n x).dma = d.dma := rfl
@[simp] theorem Dev.setUnit_can (d : Dev) (n : Nat) (x : UnitSt) : (d.setUnit n x).can = d.can := rfl
@[simp] theorem Dev.setUnit_ports (d : Dev) (n : Nat) (x : UnitSt) : (d.setUnit n x).ports = d.ports := rfl
@[simp] theorem Dev.setUnit_outstanding (d : Dev) (n : Nat) (x : UnitSt) : (d.setUnit n x).outstanding = d.outstanding := rfl
@[simp] theorem Dev.setUnit_servedPath (d : Dev) (n : Nat) (x : UnitSt) : (d.setUnit n x).servedPath = d.servedPath := rfl
@[simp] theorem Dev.setUnit_router (d : Dev) (n : Nat) (x : UnitSt) : (d.setUnit n x).router = d.router := rfl
@[simp] theorem Dev.setUnit_faults (d : Dev) (n : Nat) (x : UnitSt) : (d.setUnit n x).faults = d.faults := rfl
@[simp] theorem Dev.setUnit_calib (d : Dev) (n : Nat) (x : UnitSt) : (d.setUnit n x).calib = d.calib := rfl
@[simp] theorem Dev.setUnit_ageing (d : Dev) (n : Nat) (x : UnitSt) : (d.setUnit n x).ageing = d.ageing := rfl
@[simp] theorem Dev.setUnit_thermal (d : Dev) (n : Nat) (x : UnitSt) : (d.setUnit n x).thermal = d.thermal := rfl
@[simp] theorem Dev.setUnit_store (d : Dev) (n : Nat) (x : UnitSt) : (d.setUnit n x).store = d.store := rfl
@[simp] theorem Dev.setUnit_pins (d : Dev) (n : Nat) (x : UnitSt) : (d.setUnit n x).pins = d.pins := rfl
@[simp] theorem Dev.setUnit_pinSets (d : Dev) (n : Nat) (x : UnitSt) : (d.setUnit n x).pinSets = d.pinSets := rfl
@[simp] theorem Dev.setUnit_pulses (d : Dev) (n : Nat) (x : UnitSt) : (d.setUnit n x).pulses = d.pulses := rfl
@[simp] theorem Dev.setUnit_free (d : Dev) (n : Nat) (x : UnitSt) : (d.setUnit n x).free = d.free := rfl
@[simp] theorem Dev.setUnit_out (d : Dev) (n : Nat) (x : UnitSt) : (d.setUnit n x).out = d.out := rfl

/-! ### The changed field -/

@[simp] theorem Dev.tick_now (d : Dev) (t : Nat) : (d.tick t).now = max d.now t := rfl
@[simp] theorem Dev.put_objs (d : Dev) (k v : Nat) : (d.put k v).objs = SMap.set d.objs k v := rfl
@[simp] theorem Dev.unset_objs (d : Dev) (k : Nat) : (d.unset k).objs = SMap.del d.objs k := rfl
@[simp] theorem Dev.used_free (d : Dev) : d.used.free = d.free + 1 := rfl
@[simp] theorem Dev.emit_out (d : Dev) (o : Output) : (d.emit o).out = d.out ++ [o] := rfl
@[simp] theorem Dev.setDrill_drills (d : Dev) (n : Nat) (x : Drill) : (d.setDrill n x).drills = SMap.set d.drills n x := rfl
@[simp] theorem Dev.setChain_chains (d : Dev) (n : Nat) (x : Chain) : (d.setChain n x).chains = SMap.set d.chains n x := rfl
@[simp] theorem Dev.setGroup_groups (d : Dev) (n : Nat) (x : Group) : (d.setGroup n x).groups = SMap.set d.groups n x := rfl
@[simp] theorem Dev.setSlot_slots (d : Dev) (n : Nat) (x : SlotSt) : (d.setSlot n x).slots = SMap.set d.slots n x := rfl
@[simp] theorem Dev.setBias_biases (d : Dev) (n : Nat) (x : BiasOut) : (d.setBias n x).biases = SMap.set d.biases n x := rfl
@[simp] theorem Dev.setTrig_trigs (d : Dev) (n : Nat) (x : TrigIn) : (d.setTrig n x).trigs = SMap.set d.trigs n x := rfl
@[simp] theorem Dev.setGleaner_gleaners (d : Dev) (n : Nat) (x : Gleaner) : (d.setGleaner n x).gleaners = SMap.set d.gleaners n x := rfl
@[simp] theorem Dev.setCapture_captures (d : Dev) (n : Nat) (x : Capture) : (d.setCapture n x).captures = SMap.set d.captures n x := rfl
@[simp] theorem Dev.setFn_fns (d : Dev) (n : Nat) (x : FnSt) : (d.setFn n x).fns = SMap.set d.fns n x := rfl
@[simp] theorem Dev.setDma_dma (d : Dev) (n : Nat) (x : DmaCh) : (d.setDma n x).dma = SMap.set d.dma n x := rfl
@[simp] theorem Dev.setPort_ports (d : Dev) (n : Nat) (x : PortSt) : (d.setPort n x).ports = SMap.set d.ports n x := rfl
@[simp] theorem Dev.setCommit_commits (d : Dev) (n : Nat) (x : CommitSt) : (d.setCommit n x).commits = SMap.set d.commits n x := rfl
@[simp] theorem Dev.setUnit_units (d : Dev) (n : Nat) (x : UnitSt) : (d.setUnit n x).units = SMap.set d.units n x := rfl

end Sys2Proof.Machine
end

