-- ==== Sys2Proof/Laws/Units.lean ====
section
/-! SUPPORT. The units and the dictionary read through their accessors: what each update leaves alone, what it sets, and the values of
objects after a write of one. -/

namespace Sys2Proof.Machine

/-! ### drill -/

@[simp] theorem Dev.tick_drill' (d : Dev) (t : Nat) (m : Nat) : (d.tick t).drill m = d.drill m := rfl
@[simp] theorem Dev.put_drill' (d : Dev) (k v : Nat) (m : Nat) : (d.put k v).drill m = d.drill m := rfl
@[simp] theorem Dev.unset_drill' (d : Dev) (k : Nat) (m : Nat) : (d.unset k).drill m = d.drill m := rfl
@[simp] theorem Dev.bump_drill' (d : Dev) (k : Nat) (m : Nat) : (d.bump k).drill m = d.drill m := rfl
@[simp] theorem Dev.bump64_drill' (d : Dev) (k : Nat) (m : Nat) : (d.bump64 k).drill m = d.drill m := rfl
@[simp] theorem Dev.used_drill' (d : Dev) (m : Nat) : (d.used).drill m = d.drill m := rfl
@[simp] theorem Dev.emit_drill' (d : Dev) (o : Output) (m : Nat) : (d.emit o).drill m = d.drill m := rfl
@[simp] theorem Dev.setChain_drill' (d : Dev) (n : Nat) (x : Chain) (m : Nat) : (d.setChain n x).drill m = d.drill m := rfl
@[simp] theorem Dev.setGroup_drill' (d : Dev) (n : Nat) (x : Group) (m : Nat) : (d.setGroup n x).drill m = d.drill m := rfl
@[simp] theorem Dev.setSlot_drill' (d : Dev) (n : Nat) (x : SlotSt) (m : Nat) : (d.setSlot n x).drill m = d.drill m := rfl
@[simp] theorem Dev.setBias_drill' (d : Dev) (n : Nat) (x : BiasOut) (m : Nat) : (d.setBias n x).drill m = d.drill m := rfl
@[simp] theorem Dev.setTrig_drill' (d : Dev) (n : Nat) (x : TrigIn) (m : Nat) : (d.setTrig n x).drill m = d.drill m := rfl
@[simp] theorem Dev.setGleaner_drill' (d : Dev) (n : Nat) (x : Gleaner) (m : Nat) : (d.setGleaner n x).drill m = d.drill m := rfl
@[simp] theorem Dev.setCapture_drill' (d : Dev) (n : Nat) (x : Capture) (m : Nat) : (d.setCapture n x).drill m = d.drill m := rfl
@[simp] theorem Dev.setFn_drill' (d : Dev) (n : Nat) (x : FnSt) (m : Nat) : (d.setFn n x).drill m = d.drill m := rfl
@[simp] theorem Dev.setDma_drill' (d : Dev) (n : Nat) (x : DmaCh) (m : Nat) : (d.setDma n x).drill m = d.drill m := rfl
@[simp] theorem Dev.setPort_drill' (d : Dev) (n : Nat) (x : PortSt) (m : Nat) : (d.setPort n x).drill m = d.drill m := rfl
@[simp] theorem Dev.setPtp_drill' (d : Dev) (n : Nat) (x : PtpPort) (m : Nat) : (d.setPtp n x).drill m = d.drill m := rfl
@[simp] theorem Dev.setCommit_drill' (d : Dev) (n : Nat) (x : CommitSt) (m : Nat) : (d.setCommit n x).drill m = d.drill m := rfl
@[simp] theorem Dev.setUnit_drill' (d : Dev) (n : Nat) (x : UnitSt) (m : Nat) : (d.setUnit n x).drill m = d.drill m := rfl

/-! ### chain -/

@[simp] theorem Dev.tick_chain' (d : Dev) (t : Nat) (m : Nat) : (d.tick t).chain m = d.chain m := rfl
@[simp] theorem Dev.put_chain' (d : Dev) (k v : Nat) (m : Nat) : (d.put k v).chain m = d.chain m := rfl
@[simp] theorem Dev.unset_chain' (d : Dev) (k : Nat) (m : Nat) : (d.unset k).chain m = d.chain m := rfl
@[simp] theorem Dev.bump_chain' (d : Dev) (k : Nat) (m : Nat) : (d.bump k).chain m = d.chain m := rfl
@[simp] theorem Dev.bump64_chain' (d : Dev) (k : Nat) (m : Nat) : (d.bump64 k).chain m = d.chain m := rfl
@[simp] theorem Dev.used_chain' (d : Dev) (m : Nat) : (d.used).chain m = d.chain m := rfl
@[simp] theorem Dev.emit_chain' (d : Dev) (o : Output) (m : Nat) : (d.emit o).chain m = d.chain m := rfl
@[simp] theorem Dev.setDrill_chain' (d : Dev) (n : Nat) (x : Drill) (m : Nat) : (d.setDrill n x).chain m = d.chain m := rfl
@[simp] theorem Dev.setGroup_chain' (d : Dev) (n : Nat) (x : Group) (m : Nat) : (d.setGroup n x).chain m = d.chain m := rfl
@[simp] theorem Dev.setSlot_chain' (d : Dev) (n : Nat) (x : SlotSt) (m : Nat) : (d.setSlot n x).chain m = d.chain m := rfl
@[simp] theorem Dev.setBias_chain' (d : Dev) (n : Nat) (x : BiasOut) (m : Nat) : (d.setBias n x).chain m = d.chain m := rfl
@[simp] theorem Dev.setTrig_chain' (d : Dev) (n : Nat) (x : TrigIn) (m : Nat) : (d.setTrig n x).chain m = d.chain m := rfl
@[simp] theorem Dev.setGleaner_chain' (d : Dev) (n : Nat) (x : Gleaner) (m : Nat) : (d.setGleaner n x).chain m = d.chain m := rfl
@[simp] theorem Dev.setCapture_chain' (d : Dev) (n : Nat) (x : Capture) (m : Nat) : (d.setCapture n x).chain m = d.chain m := rfl
@[simp] theorem Dev.setFn_chain' (d : Dev) (n : Nat) (x : FnSt) (m : Nat) : (d.setFn n x).chain m = d.chain m := rfl
@[simp] theorem Dev.setDma_chain' (d : Dev) (n : Nat) (x : DmaCh) (m : Nat) : (d.setDma n x).chain m = d.chain m := rfl
@[simp] theorem Dev.setPort_chain' (d : Dev) (n : Nat) (x : PortSt) (m : Nat) : (d.setPort n x).chain m = d.chain m := rfl
@[simp] theorem Dev.setPtp_chain' (d : Dev) (n : Nat) (x : PtpPort) (m : Nat) : (d.setPtp n x).chain m = d.chain m := rfl
@[simp] theorem Dev.setCommit_chain' (d : Dev) (n : Nat) (x : CommitSt) (m : Nat) : (d.setCommit n x).chain m = d.chain m := rfl
@[simp] theorem Dev.setUnit_chain' (d : Dev) (n : Nat) (x : UnitSt) (m : Nat) : (d.setUnit n x).chain m = d.chain m := rfl

/-! ### group -/

@[simp] theorem Dev.tick_group' (d : Dev) (t : Nat) (m : Nat) : (d.tick t).group m = d.group m := rfl
@[simp] theorem Dev.put_group' (d : Dev) (k v : Nat) (m : Nat) : (d.put k v).group m = d.group m := rfl
@[simp] theorem Dev.unset_group' (d : Dev) (k : Nat) (m : Nat) : (d.unset k).group m = d.group m := rfl
@[simp] theorem Dev.bump_group' (d : Dev) (k : Nat) (m : Nat) : (d.bump k).group m = d.group m := rfl
@[simp] theorem Dev.bump64_group' (d : Dev) (k : Nat) (m : Nat) : (d.bump64 k).group m = d.group m := rfl
@[simp] theorem Dev.used_group' (d : Dev) (m : Nat) : (d.used).group m = d.group m := rfl
@[simp] theorem Dev.emit_group' (d : Dev) (o : Output) (m : Nat) : (d.emit o).group m = d.group m := rfl
@[simp] theorem Dev.setDrill_group' (d : Dev) (n : Nat) (x : Drill) (m : Nat) : (d.setDrill n x).group m = d.group m := rfl
@[simp] theorem Dev.setChain_group' (d : Dev) (n : Nat) (x : Chain) (m : Nat) : (d.setChain n x).group m = d.group m := rfl
@[simp] theorem Dev.setSlot_group' (d : Dev) (n : Nat) (x : SlotSt) (m : Nat) : (d.setSlot n x).group m = d.group m := rfl
@[simp] theorem Dev.setBias_group' (d : Dev) (n : Nat) (x : BiasOut) (m : Nat) : (d.setBias n x).group m = d.group m := rfl
@[simp] theorem Dev.setTrig_group' (d : Dev) (n : Nat) (x : TrigIn) (m : Nat) : (d.setTrig n x).group m = d.group m := rfl
@[simp] theorem Dev.setGleaner_group' (d : Dev) (n : Nat) (x : Gleaner) (m : Nat) : (d.setGleaner n x).group m = d.group m := rfl
@[simp] theorem Dev.setCapture_group' (d : Dev) (n : Nat) (x : Capture) (m : Nat) : (d.setCapture n x).group m = d.group m := rfl
@[simp] theorem Dev.setFn_group' (d : Dev) (n : Nat) (x : FnSt) (m : Nat) : (d.setFn n x).group m = d.group m := rfl
@[simp] theorem Dev.setDma_group' (d : Dev) (n : Nat) (x : DmaCh) (m : Nat) : (d.setDma n x).group m = d.group m := rfl
@[simp] theorem Dev.setPort_group' (d : Dev) (n : Nat) (x : PortSt) (m : Nat) : (d.setPort n x).group m = d.group m := rfl
@[simp] theorem Dev.setPtp_group' (d : Dev) (n : Nat) (x : PtpPort) (m : Nat) : (d.setPtp n x).group m = d.group m := rfl
@[simp] theorem Dev.setCommit_group' (d : Dev) (n : Nat) (x : CommitSt) (m : Nat) : (d.setCommit n x).group m = d.group m := rfl
@[simp] theorem Dev.setUnit_group' (d : Dev) (n : Nat) (x : UnitSt) (m : Nat) : (d.setUnit n x).group m = d.group m := rfl

/-! ### slot -/

@[simp] theorem Dev.tick_slot' (d : Dev) (t : Nat) (m : Nat) : (d.tick t).slot m = d.slot m := rfl
@[simp] theorem Dev.put_slot' (d : Dev) (k v : Nat) (m : Nat) : (d.put k v).slot m = d.slot m := rfl
@[simp] theorem Dev.unset_slot' (d : Dev) (k : Nat) (m : Nat) : (d.unset k).slot m = d.slot m := rfl
@[simp] theorem Dev.bump_slot' (d : Dev) (k : Nat) (m : Nat) : (d.bump k).slot m = d.slot m := rfl
@[simp] theorem Dev.bump64_slot' (d : Dev) (k : Nat) (m : Nat) : (d.bump64 k).slot m = d.slot m := rfl
@[simp] theorem Dev.used_slot' (d : Dev) (m : Nat) : (d.used).slot m = d.slot m := rfl
@[simp] theorem Dev.emit_slot' (d : Dev) (o : Output) (m : Nat) : (d.emit o).slot m = d.slot m := rfl
@[simp] theorem Dev.setDrill_slot' (d : Dev) (n : Nat) (x : Drill) (m : Nat) : (d.setDrill n x).slot m = d.slot m := rfl
@[simp] theorem Dev.setChain_slot' (d : Dev) (n : Nat) (x : Chain) (m : Nat) : (d.setChain n x).slot m = d.slot m := rfl
@[simp] theorem Dev.setGroup_slot' (d : Dev) (n : Nat) (x : Group) (m : Nat) : (d.setGroup n x).slot m = d.slot m := rfl
@[simp] theorem Dev.setBias_slot' (d : Dev) (n : Nat) (x : BiasOut) (m : Nat) : (d.setBias n x).slot m = d.slot m := rfl
@[simp] theorem Dev.setTrig_slot' (d : Dev) (n : Nat) (x : TrigIn) (m : Nat) : (d.setTrig n x).slot m = d.slot m := rfl
@[simp] theorem Dev.setGleaner_slot' (d : Dev) (n : Nat) (x : Gleaner) (m : Nat) : (d.setGleaner n x).slot m = d.slot m := rfl
@[simp] theorem Dev.setCapture_slot' (d : Dev) (n : Nat) (x : Capture) (m : Nat) : (d.setCapture n x).slot m = d.slot m := rfl
@[simp] theorem Dev.setFn_slot' (d : Dev) (n : Nat) (x : FnSt) (m : Nat) : (d.setFn n x).slot m = d.slot m := rfl
@[simp] theorem Dev.setDma_slot' (d : Dev) (n : Nat) (x : DmaCh) (m : Nat) : (d.setDma n x).slot m = d.slot m := rfl
@[simp] theorem Dev.setPort_slot' (d : Dev) (n : Nat) (x : PortSt) (m : Nat) : (d.setPort n x).slot m = d.slot m := rfl
@[simp] theorem Dev.setPtp_slot' (d : Dev) (n : Nat) (x : PtpPort) (m : Nat) : (d.setPtp n x).slot m = d.slot m := rfl
@[simp] theorem Dev.setCommit_slot' (d : Dev) (n : Nat) (x : CommitSt) (m : Nat) : (d.setCommit n x).slot m = d.slot m := rfl
@[simp] theorem Dev.setUnit_slot' (d : Dev) (n : Nat) (x : UnitSt) (m : Nat) : (d.setUnit n x).slot m = d.slot m := rfl

/-! ### trig -/

@[simp] theorem Dev.tick_trig' (d : Dev) (t : Nat) (m : Nat) : (d.tick t).trig m = d.trig m := rfl
@[simp] theorem Dev.put_trig' (d : Dev) (k v : Nat) (m : Nat) : (d.put k v).trig m = d.trig m := rfl
@[simp] theorem Dev.unset_trig' (d : Dev) (k : Nat) (m : Nat) : (d.unset k).trig m = d.trig m := rfl
@[simp] theorem Dev.bump_trig' (d : Dev) (k : Nat) (m : Nat) : (d.bump k).trig m = d.trig m := rfl
@[simp] theorem Dev.bump64_trig' (d : Dev) (k : Nat) (m : Nat) : (d.bump64 k).trig m = d.trig m := rfl
@[simp] theorem Dev.used_trig' (d : Dev) (m : Nat) : (d.used).trig m = d.trig m := rfl
@[simp] theorem Dev.emit_trig' (d : Dev) (o : Output) (m : Nat) : (d.emit o).trig m = d.trig m := rfl
@[simp] theorem Dev.setDrill_trig' (d : Dev) (n : Nat) (x : Drill) (m : Nat) : (d.setDrill n x).trig m = d.trig m := rfl
@[simp] theorem Dev.setChain_trig' (d : Dev) (n : Nat) (x : Chain) (m : Nat) : (d.setChain n x).trig m = d.trig m := rfl
@[simp] theorem Dev.setGroup_trig' (d : Dev) (n : Nat) (x : Group) (m : Nat) : (d.setGroup n x).trig m = d.trig m := rfl
@[simp] theorem Dev.setSlot_trig' (d : Dev) (n : Nat) (x : SlotSt) (m : Nat) : (d.setSlot n x).trig m = d.trig m := rfl
@[simp] theorem Dev.setBias_trig' (d : Dev) (n : Nat) (x : BiasOut) (m : Nat) : (d.setBias n x).trig m = d.trig m := rfl
@[simp] theorem Dev.setGleaner_trig' (d : Dev) (n : Nat) (x : Gleaner) (m : Nat) : (d.setGleaner n x).trig m = d.trig m := rfl
@[simp] theorem Dev.setCapture_trig' (d : Dev) (n : Nat) (x : Capture) (m : Nat) : (d.setCapture n x).trig m = d.trig m := rfl
@[simp] theorem Dev.setFn_trig' (d : Dev) (n : Nat) (x : FnSt) (m : Nat) : (d.setFn n x).trig m = d.trig m := rfl
@[simp] theorem Dev.setDma_trig' (d : Dev) (n : Nat) (x : DmaCh) (m : Nat) : (d.setDma n x).trig m = d.trig m := rfl
@[simp] theorem Dev.setPort_trig' (d : Dev) (n : Nat) (x : PortSt) (m : Nat) : (d.setPort n x).trig m = d.trig m := rfl
@[simp] theorem Dev.setPtp_trig' (d : Dev) (n : Nat) (x : PtpPort) (m : Nat) : (d.setPtp n x).trig m = d.trig m := rfl
@[simp] theorem Dev.setCommit_trig' (d : Dev) (n : Nat) (x : CommitSt) (m : Nat) : (d.setCommit n x).trig m = d.trig m := rfl
@[simp] theorem Dev.setUnit_trig' (d : Dev) (n : Nat) (x : UnitSt) (m : Nat) : (d.setUnit n x).trig m = d.trig m := rfl

/-! ### gleaner -/

@[simp] theorem Dev.tick_gleaner' (d : Dev) (t : Nat) (m : Nat) : (d.tick t).gleaner m = d.gleaner m := rfl
@[simp] theorem Dev.put_gleaner' (d : Dev) (k v : Nat) (m : Nat) : (d.put k v).gleaner m = d.gleaner m := rfl
@[simp] theorem Dev.unset_gleaner' (d : Dev) (k : Nat) (m : Nat) : (d.unset k).gleaner m = d.gleaner m := rfl
@[simp] theorem Dev.bump_gleaner' (d : Dev) (k : Nat) (m : Nat) : (d.bump k).gleaner m = d.gleaner m := rfl
@[simp] theorem Dev.bump64_gleaner' (d : Dev) (k : Nat) (m : Nat) : (d.bump64 k).gleaner m = d.gleaner m := rfl
@[simp] theorem Dev.used_gleaner' (d : Dev) (m : Nat) : (d.used).gleaner m = d.gleaner m := rfl
@[simp] theorem Dev.emit_gleaner' (d : Dev) (o : Output) (m : Nat) : (d.emit o).gleaner m = d.gleaner m := rfl
@[simp] theorem Dev.setDrill_gleaner' (d : Dev) (n : Nat) (x : Drill) (m : Nat) : (d.setDrill n x).gleaner m = d.gleaner m := rfl
@[simp] theorem Dev.setChain_gleaner' (d : Dev) (n : Nat) (x : Chain) (m : Nat) : (d.setChain n x).gleaner m = d.gleaner m := rfl
@[simp] theorem Dev.setGroup_gleaner' (d : Dev) (n : Nat) (x : Group) (m : Nat) : (d.setGroup n x).gleaner m = d.gleaner m := rfl
@[simp] theorem Dev.setSlot_gleaner' (d : Dev) (n : Nat) (x : SlotSt) (m : Nat) : (d.setSlot n x).gleaner m = d.gleaner m := rfl
@[simp] theorem Dev.setBias_gleaner' (d : Dev) (n : Nat) (x : BiasOut) (m : Nat) : (d.setBias n x).gleaner m = d.gleaner m := rfl
@[simp] theorem Dev.setTrig_gleaner' (d : Dev) (n : Nat) (x : TrigIn) (m : Nat) : (d.setTrig n x).gleaner m = d.gleaner m := rfl
@[simp] theorem Dev.setCapture_gleaner' (d : Dev) (n : Nat) (x : Capture) (m : Nat) : (d.setCapture n x).gleaner m = d.gleaner m := rfl
@[simp] theorem Dev.setFn_gleaner' (d : Dev) (n : Nat) (x : FnSt) (m : Nat) : (d.setFn n x).gleaner m = d.gleaner m := rfl
@[simp] theorem Dev.setDma_gleaner' (d : Dev) (n : Nat) (x : DmaCh) (m : Nat) : (d.setDma n x).gleaner m = d.gleaner m := rfl
@[simp] theorem Dev.setPort_gleaner' (d : Dev) (n : Nat) (x : PortSt) (m : Nat) : (d.setPort n x).gleaner m = d.gleaner m := rfl
@[simp] theorem Dev.setPtp_gleaner' (d : Dev) (n : Nat) (x : PtpPort) (m : Nat) : (d.setPtp n x).gleaner m = d.gleaner m := rfl
@[simp] theorem Dev.setCommit_gleaner' (d : Dev) (n : Nat) (x : CommitSt) (m : Nat) : (d.setCommit n x).gleaner m = d.gleaner m := rfl
@[simp] theorem Dev.setUnit_gleaner' (d : Dev) (n : Nat) (x : UnitSt) (m : Nat) : (d.setUnit n x).gleaner m = d.gleaner m := rfl

/-! ### capture -/

@[simp] theorem Dev.tick_capture' (d : Dev) (t : Nat) (m : Nat) : (d.tick t).capture m = d.capture m := rfl
@[simp] theorem Dev.put_capture' (d : Dev) (k v : Nat) (m : Nat) : (d.put k v).capture m = d.capture m := rfl
@[simp] theorem Dev.unset_capture' (d : Dev) (k : Nat) (m : Nat) : (d.unset k).capture m = d.capture m := rfl
@[simp] theorem Dev.bump_capture' (d : Dev) (k : Nat) (m : Nat) : (d.bump k).capture m = d.capture m := rfl
@[simp] theorem Dev.bump64_capture' (d : Dev) (k : Nat) (m : Nat) : (d.bump64 k).capture m = d.capture m := rfl
@[simp] theorem Dev.used_capture' (d : Dev) (m : Nat) : (d.used).capture m = d.capture m := rfl
@[simp] theorem Dev.emit_capture' (d : Dev) (o : Output) (m : Nat) : (d.emit o).capture m = d.capture m := rfl
@[simp] theorem Dev.setDrill_capture' (d : Dev) (n : Nat) (x : Drill) (m : Nat) : (d.setDrill n x).capture m = d.capture m := rfl
@[simp] theorem Dev.setChain_capture' (d : Dev) (n : Nat) (x : Chain) (m : Nat) : (d.setChain n x).capture m = d.capture m := rfl
@[simp] theorem Dev.setGroup_capture' (d : Dev) (n : Nat) (x : Group) (m : Nat) : (d.setGroup n x).capture m = d.capture m := rfl
@[simp] theorem Dev.setSlot_capture' (d : Dev) (n : Nat) (x : SlotSt) (m : Nat) : (d.setSlot n x).capture m = d.capture m := rfl
@[simp] theorem Dev.setBias_capture' (d : Dev) (n : Nat) (x : BiasOut) (m : Nat) : (d.setBias n x).capture m = d.capture m := rfl
@[simp] theorem Dev.setTrig_capture' (d : Dev) (n : Nat) (x : TrigIn) (m : Nat) : (d.setTrig n x).capture m = d.capture m := rfl
@[simp] theorem Dev.setGleaner_capture' (d : Dev) (n : Nat) (x : Gleaner) (m : Nat) : (d.setGleaner n x).capture m = d.capture m := rfl
@[simp] theorem Dev.setFn_capture' (d : Dev) (n : Nat) (x : FnSt) (m : Nat) : (d.setFn n x).capture m = d.capture m := rfl
@[simp] theorem Dev.setDma_capture' (d : Dev) (n : Nat) (x : DmaCh) (m : Nat) : (d.setDma n x).capture m = d.capture m := rfl
@[simp] theorem Dev.setPort_capture' (d : Dev) (n : Nat) (x : PortSt) (m : Nat) : (d.setPort n x).capture m = d.capture m := rfl
@[simp] theorem Dev.setPtp_capture' (d : Dev) (n : Nat) (x : PtpPort) (m : Nat) : (d.setPtp n x).capture m = d.capture m := rfl
@[simp] theorem Dev.setCommit_capture' (d : Dev) (n : Nat) (x : CommitSt) (m : Nat) : (d.setCommit n x).capture m = d.capture m := rfl
@[simp] theorem Dev.setUnit_capture' (d : Dev) (n : Nat) (x : UnitSt) (m : Nat) : (d.setUnit n x).capture m = d.capture m := rfl

/-! ### fn -/

@[simp] theorem Dev.tick_fn' (d : Dev) (t : Nat) (m : Nat) : (d.tick t).fn m = d.fn m := rfl
@[simp] theorem Dev.put_fn' (d : Dev) (k v : Nat) (m : Nat) : (d.put k v).fn m = d.fn m := rfl
@[simp] theorem Dev.unset_fn' (d : Dev) (k : Nat) (m : Nat) : (d.unset k).fn m = d.fn m := rfl
@[simp] theorem Dev.bump_fn' (d : Dev) (k : Nat) (m : Nat) : (d.bump k).fn m = d.fn m := rfl
@[simp] theorem Dev.bump64_fn' (d : Dev) (k : Nat) (m : Nat) : (d.bump64 k).fn m = d.fn m := rfl
@[simp] theorem Dev.used_fn' (d : Dev) (m : Nat) : (d.used).fn m = d.fn m := rfl
@[simp] theorem Dev.emit_fn' (d : Dev) (o : Output) (m : Nat) : (d.emit o).fn m = d.fn m := rfl
@[simp] theorem Dev.setDrill_fn' (d : Dev) (n : Nat) (x : Drill) (m : Nat) : (d.setDrill n x).fn m = d.fn m := rfl
@[simp] theorem Dev.setChain_fn' (d : Dev) (n : Nat) (x : Chain) (m : Nat) : (d.setChain n x).fn m = d.fn m := rfl
@[simp] theorem Dev.setGroup_fn' (d : Dev) (n : Nat) (x : Group) (m : Nat) : (d.setGroup n x).fn m = d.fn m := rfl
@[simp] theorem Dev.setSlot_fn' (d : Dev) (n : Nat) (x : SlotSt) (m : Nat) : (d.setSlot n x).fn m = d.fn m := rfl
@[simp] theorem Dev.setBias_fn' (d : Dev) (n : Nat) (x : BiasOut) (m : Nat) : (d.setBias n x).fn m = d.fn m := rfl
@[simp] theorem Dev.setTrig_fn' (d : Dev) (n : Nat) (x : TrigIn) (m : Nat) : (d.setTrig n x).fn m = d.fn m := rfl
@[simp] theorem Dev.setGleaner_fn' (d : Dev) (n : Nat) (x : Gleaner) (m : Nat) : (d.setGleaner n x).fn m = d.fn m := rfl
@[simp] theorem Dev.setCapture_fn' (d : Dev) (n : Nat) (x : Capture) (m : Nat) : (d.setCapture n x).fn m = d.fn m := rfl
@[simp] theorem Dev.setDma_fn' (d : Dev) (n : Nat) (x : DmaCh) (m : Nat) : (d.setDma n x).fn m = d.fn m := rfl
@[simp] theorem Dev.setPort_fn' (d : Dev) (n : Nat) (x : PortSt) (m : Nat) : (d.setPort n x).fn m = d.fn m := rfl
@[simp] theorem Dev.setPtp_fn' (d : Dev) (n : Nat) (x : PtpPort) (m : Nat) : (d.setPtp n x).fn m = d.fn m := rfl
@[simp] theorem Dev.setCommit_fn' (d : Dev) (n : Nat) (x : CommitSt) (m : Nat) : (d.setCommit n x).fn m = d.fn m := rfl
@[simp] theorem Dev.setUnit_fn' (d : Dev) (n : Nat) (x : UnitSt) (m : Nat) : (d.setUnit n x).fn m = d.fn m := rfl

/-! ### dmaCh -/

@[simp] theorem Dev.tick_dmaCh' (d : Dev) (t : Nat) (m : Nat) : (d.tick t).dmaCh m = d.dmaCh m := rfl
@[simp] theorem Dev.put_dmaCh' (d : Dev) (k v : Nat) (m : Nat) : (d.put k v).dmaCh m = d.dmaCh m := rfl
@[simp] theorem Dev.unset_dmaCh' (d : Dev) (k : Nat) (m : Nat) : (d.unset k).dmaCh m = d.dmaCh m := rfl
@[simp] theorem Dev.bump_dmaCh' (d : Dev) (k : Nat) (m : Nat) : (d.bump k).dmaCh m = d.dmaCh m := rfl
@[simp] theorem Dev.bump64_dmaCh' (d : Dev) (k : Nat) (m : Nat) : (d.bump64 k).dmaCh m = d.dmaCh m := rfl
@[simp] theorem Dev.used_dmaCh' (d : Dev) (m : Nat) : (d.used).dmaCh m = d.dmaCh m := rfl
@[simp] theorem Dev.emit_dmaCh' (d : Dev) (o : Output) (m : Nat) : (d.emit o).dmaCh m = d.dmaCh m := rfl
@[simp] theorem Dev.setDrill_dmaCh' (d : Dev) (n : Nat) (x : Drill) (m : Nat) : (d.setDrill n x).dmaCh m = d.dmaCh m := rfl
@[simp] theorem Dev.setChain_dmaCh' (d : Dev) (n : Nat) (x : Chain) (m : Nat) : (d.setChain n x).dmaCh m = d.dmaCh m := rfl
@[simp] theorem Dev.setGroup_dmaCh' (d : Dev) (n : Nat) (x : Group) (m : Nat) : (d.setGroup n x).dmaCh m = d.dmaCh m := rfl
@[simp] theorem Dev.setSlot_dmaCh' (d : Dev) (n : Nat) (x : SlotSt) (m : Nat) : (d.setSlot n x).dmaCh m = d.dmaCh m := rfl
@[simp] theorem Dev.setBias_dmaCh' (d : Dev) (n : Nat) (x : BiasOut) (m : Nat) : (d.setBias n x).dmaCh m = d.dmaCh m := rfl
@[simp] theorem Dev.setTrig_dmaCh' (d : Dev) (n : Nat) (x : TrigIn) (m : Nat) : (d.setTrig n x).dmaCh m = d.dmaCh m := rfl
@[simp] theorem Dev.setGleaner_dmaCh' (d : Dev) (n : Nat) (x : Gleaner) (m : Nat) : (d.setGleaner n x).dmaCh m = d.dmaCh m := rfl
@[simp] theorem Dev.setCapture_dmaCh' (d : Dev) (n : Nat) (x : Capture) (m : Nat) : (d.setCapture n x).dmaCh m = d.dmaCh m := rfl
@[simp] theorem Dev.setFn_dmaCh' (d : Dev) (n : Nat) (x : FnSt) (m : Nat) : (d.setFn n x).dmaCh m = d.dmaCh m := rfl
@[simp] theorem Dev.setPort_dmaCh' (d : Dev) (n : Nat) (x : PortSt) (m : Nat) : (d.setPort n x).dmaCh m = d.dmaCh m := rfl
@[simp] theorem Dev.setPtp_dmaCh' (d : Dev) (n : Nat) (x : PtpPort) (m : Nat) : (d.setPtp n x).dmaCh m = d.dmaCh m := rfl
@[simp] theorem Dev.setCommit_dmaCh' (d : Dev) (n : Nat) (x : CommitSt) (m : Nat) : (d.setCommit n x).dmaCh m = d.dmaCh m := rfl
@[simp] theorem Dev.setUnit_dmaCh' (d : Dev) (n : Nat) (x : UnitSt) (m : Nat) : (d.setUnit n x).dmaCh m = d.dmaCh m := rfl

/-! ### port -/

@[simp] theorem Dev.tick_port' (d : Dev) (t : Nat) (m : Nat) : (d.tick t).port m = d.port m := rfl
@[simp] theorem Dev.put_port' (d : Dev) (k v : Nat) (m : Nat) : (d.put k v).port m = d.port m := rfl
@[simp] theorem Dev.unset_port' (d : Dev) (k : Nat) (m : Nat) : (d.unset k).port m = d.port m := rfl
@[simp] theorem Dev.bump_port' (d : Dev) (k : Nat) (m : Nat) : (d.bump k).port m = d.port m := rfl
@[simp] theorem Dev.bump64_port' (d : Dev) (k : Nat) (m : Nat) : (d.bump64 k).port m = d.port m := rfl
@[simp] theorem Dev.used_port' (d : Dev) (m : Nat) : (d.used).port m = d.port m := rfl
@[simp] theorem Dev.emit_port' (d : Dev) (o : Output) (m : Nat) : (d.emit o).port m = d.port m := rfl
@[simp] theorem Dev.setDrill_port' (d : Dev) (n : Nat) (x : Drill) (m : Nat) : (d.setDrill n x).port m = d.port m := rfl
@[simp] theorem Dev.setChain_port' (d : Dev) (n : Nat) (x : Chain) (m : Nat) : (d.setChain n x).port m = d.port m := rfl
@[simp] theorem Dev.setGroup_port' (d : Dev) (n : Nat) (x : Group) (m : Nat) : (d.setGroup n x).port m = d.port m := rfl
@[simp] theorem Dev.setSlot_port' (d : Dev) (n : Nat) (x : SlotSt) (m : Nat) : (d.setSlot n x).port m = d.port m := rfl
@[simp] theorem Dev.setBias_port' (d : Dev) (n : Nat) (x : BiasOut) (m : Nat) : (d.setBias n x).port m = d.port m := rfl
@[simp] theorem Dev.setTrig_port' (d : Dev) (n : Nat) (x : TrigIn) (m : Nat) : (d.setTrig n x).port m = d.port m := rfl
@[simp] theorem Dev.setGleaner_port' (d : Dev) (n : Nat) (x : Gleaner) (m : Nat) : (d.setGleaner n x).port m = d.port m := rfl
@[simp] theorem Dev.setCapture_port' (d : Dev) (n : Nat) (x : Capture) (m : Nat) : (d.setCapture n x).port m = d.port m := rfl
@[simp] theorem Dev.setFn_port' (d : Dev) (n : Nat) (x : FnSt) (m : Nat) : (d.setFn n x).port m = d.port m := rfl
@[simp] theorem Dev.setDma_port' (d : Dev) (n : Nat) (x : DmaCh) (m : Nat) : (d.setDma n x).port m = d.port m := rfl
@[simp] theorem Dev.setPtp_port' (d : Dev) (n : Nat) (x : PtpPort) (m : Nat) : (d.setPtp n x).port m = d.port m := rfl
@[simp] theorem Dev.setCommit_port' (d : Dev) (n : Nat) (x : CommitSt) (m : Nat) : (d.setCommit n x).port m = d.port m := rfl
@[simp] theorem Dev.setUnit_port' (d : Dev) (n : Nat) (x : UnitSt) (m : Nat) : (d.setUnit n x).port m = d.port m := rfl

/-! ### ptp -/

@[simp] theorem Dev.tick_ptp' (d : Dev) (t : Nat) (m : Nat) : (d.tick t).ptp m = d.ptp m := rfl
@[simp] theorem Dev.put_ptp' (d : Dev) (k v : Nat) (m : Nat) : (d.put k v).ptp m = d.ptp m := rfl
@[simp] theorem Dev.unset_ptp' (d : Dev) (k : Nat) (m : Nat) : (d.unset k).ptp m = d.ptp m := rfl
@[simp] theorem Dev.bump_ptp' (d : Dev) (k : Nat) (m : Nat) : (d.bump k).ptp m = d.ptp m := rfl
@[simp] theorem Dev.bump64_ptp' (d : Dev) (k : Nat) (m : Nat) : (d.bump64 k).ptp m = d.ptp m := rfl
@[simp] theorem Dev.used_ptp' (d : Dev) (m : Nat) : (d.used).ptp m = d.ptp m := rfl
@[simp] theorem Dev.emit_ptp' (d : Dev) (o : Output) (m : Nat) : (d.emit o).ptp m = d.ptp m := rfl
@[simp] theorem Dev.setDrill_ptp' (d : Dev) (n : Nat) (x : Drill) (m : Nat) : (d.setDrill n x).ptp m = d.ptp m := rfl
@[simp] theorem Dev.setChain_ptp' (d : Dev) (n : Nat) (x : Chain) (m : Nat) : (d.setChain n x).ptp m = d.ptp m := rfl
@[simp] theorem Dev.setGroup_ptp' (d : Dev) (n : Nat) (x : Group) (m : Nat) : (d.setGroup n x).ptp m = d.ptp m := rfl
@[simp] theorem Dev.setSlot_ptp' (d : Dev) (n : Nat) (x : SlotSt) (m : Nat) : (d.setSlot n x).ptp m = d.ptp m := rfl
@[simp] theorem Dev.setBias_ptp' (d : Dev) (n : Nat) (x : BiasOut) (m : Nat) : (d.setBias n x).ptp m = d.ptp m := rfl
@[simp] theorem Dev.setTrig_ptp' (d : Dev) (n : Nat) (x : TrigIn) (m : Nat) : (d.setTrig n x).ptp m = d.ptp m := rfl
@[simp] theorem Dev.setGleaner_ptp' (d : Dev) (n : Nat) (x : Gleaner) (m : Nat) : (d.setGleaner n x).ptp m = d.ptp m := rfl
@[simp] theorem Dev.setCapture_ptp' (d : Dev) (n : Nat) (x : Capture) (m : Nat) : (d.setCapture n x).ptp m = d.ptp m := rfl
@[simp] theorem Dev.setFn_ptp' (d : Dev) (n : Nat) (x : FnSt) (m : Nat) : (d.setFn n x).ptp m = d.ptp m := rfl
@[simp] theorem Dev.setDma_ptp' (d : Dev) (n : Nat) (x : DmaCh) (m : Nat) : (d.setDma n x).ptp m = d.ptp m := rfl
@[simp] theorem Dev.setPort_ptp' (d : Dev) (n : Nat) (x : PortSt) (m : Nat) : (d.setPort n x).ptp m = d.ptp m := rfl
@[simp] theorem Dev.setCommit_ptp' (d : Dev) (n : Nat) (x : CommitSt) (m : Nat) : (d.setCommit n x).ptp m = d.ptp m := rfl
@[simp] theorem Dev.setUnit_ptp' (d : Dev) (n : Nat) (x : UnitSt) (m : Nat) : (d.setUnit n x).ptp m = d.ptp m := rfl

/-! ### commitOf -/

@[simp] theorem Dev.tick_commitOf' (d : Dev) (t : Nat) (m : Nat) : (d.tick t).commitOf m = d.commitOf m := rfl
@[simp] theorem Dev.put_commitOf' (d : Dev) (k v : Nat) (m : Nat) : (d.put k v).commitOf m = d.commitOf m := rfl
@[simp] theorem Dev.unset_commitOf' (d : Dev) (k : Nat) (m : Nat) : (d.unset k).commitOf m = d.commitOf m := rfl
@[simp] theorem Dev.bump_commitOf' (d : Dev) (k : Nat) (m : Nat) : (d.bump k).commitOf m = d.commitOf m := rfl
@[simp] theorem Dev.bump64_commitOf' (d : Dev) (k : Nat) (m : Nat) : (d.bump64 k).commitOf m = d.commitOf m := rfl
@[simp] theorem Dev.used_commitOf' (d : Dev) (m : Nat) : (d.used).commitOf m = d.commitOf m := rfl
@[simp] theorem Dev.emit_commitOf' (d : Dev) (o : Output) (m : Nat) : (d.emit o).commitOf m = d.commitOf m := rfl
@[simp] theorem Dev.setDrill_commitOf' (d : Dev) (n : Nat) (x : Drill) (m : Nat) : (d.setDrill n x).commitOf m = d.commitOf m := rfl
@[simp] theorem Dev.setChain_commitOf' (d : Dev) (n : Nat) (x : Chain) (m : Nat) : (d.setChain n x).commitOf m = d.commitOf m := rfl
@[simp] theorem Dev.setGroup_commitOf' (d : Dev) (n : Nat) (x : Group) (m : Nat) : (d.setGroup n x).commitOf m = d.commitOf m := rfl
@[simp] theorem Dev.setSlot_commitOf' (d : Dev) (n : Nat) (x : SlotSt) (m : Nat) : (d.setSlot n x).commitOf m = d.commitOf m := rfl
@[simp] theorem Dev.setBias_commitOf' (d : Dev) (n : Nat) (x : BiasOut) (m : Nat) : (d.setBias n x).commitOf m = d.commitOf m := rfl
@[simp] theorem Dev.setTrig_commitOf' (d : Dev) (n : Nat) (x : TrigIn) (m : Nat) : (d.setTrig n x).commitOf m = d.commitOf m := rfl
@[simp] theorem Dev.setGleaner_commitOf' (d : Dev) (n : Nat) (x : Gleaner) (m : Nat) : (d.setGleaner n x).commitOf m = d.commitOf m := rfl
@[simp] theorem Dev.setCapture_commitOf' (d : Dev) (n : Nat) (x : Capture) (m : Nat) : (d.setCapture n x).commitOf m = d.commitOf m := rfl
@[simp] theorem Dev.setFn_commitOf' (d : Dev) (n : Nat) (x : FnSt) (m : Nat) : (d.setFn n x).commitOf m = d.commitOf m := rfl
@[simp] theorem Dev.setDma_commitOf' (d : Dev) (n : Nat) (x : DmaCh) (m : Nat) : (d.setDma n x).commitOf m = d.commitOf m := rfl
@[simp] theorem Dev.setPort_commitOf' (d : Dev) (n : Nat) (x : PortSt) (m : Nat) : (d.setPort n x).commitOf m = d.commitOf m := rfl
@[simp] theorem Dev.setPtp_commitOf' (d : Dev) (n : Nat) (x : PtpPort) (m : Nat) : (d.setPtp n x).commitOf m = d.commitOf m := rfl
@[simp] theorem Dev.setUnit_commitOf' (d : Dev) (n : Nat) (x : UnitSt) (m : Nat) : (d.setUnit n x).commitOf m = d.commitOf m := rfl

/-! ### unit -/

@[simp] theorem Dev.tick_unit' (d : Dev) (t : Nat) (m : Nat) : (d.tick t).unit m = d.unit m := rfl
@[simp] theorem Dev.put_unit' (d : Dev) (k v : Nat) (m : Nat) : (d.put k v).unit m = d.unit m := rfl
@[simp] theorem Dev.unset_unit' (d : Dev) (k : Nat) (m : Nat) : (d.unset k).unit m = d.unit m := rfl
@[simp] theorem Dev.bump_unit' (d : Dev) (k : Nat) (m : Nat) : (d.bump k).unit m = d.unit m := rfl
@[simp] theorem Dev.bump64_unit' (d : Dev) (k : Nat) (m : Nat) : (d.bump64 k).unit m = d.unit m := rfl
@[simp] theorem Dev.used_unit' (d : Dev) (m : Nat) : (d.used).unit m = d.unit m := rfl
@[simp] theorem Dev.emit_unit' (d : Dev) (o : Output) (m : Nat) : (d.emit o).unit m = d.unit m := rfl
@[simp] theorem Dev.setDrill_unit' (d : Dev) (n : Nat) (x : Drill) (m : Nat) : (d.setDrill n x).unit m = d.unit m := rfl
@[simp] theorem Dev.setChain_unit' (d : Dev) (n : Nat) (x : Chain) (m : Nat) : (d.setChain n x).unit m = d.unit m := rfl
@[simp] theorem Dev.setGroup_unit' (d : Dev) (n : Nat) (x : Group) (m : Nat) : (d.setGroup n x).unit m = d.unit m := rfl
@[simp] theorem Dev.setSlot_unit' (d : Dev) (n : Nat) (x : SlotSt) (m : Nat) : (d.setSlot n x).unit m = d.unit m := rfl
@[simp] theorem Dev.setBias_unit' (d : Dev) (n : Nat) (x : BiasOut) (m : Nat) : (d.setBias n x).unit m = d.unit m := rfl
@[simp] theorem Dev.setTrig_unit' (d : Dev) (n : Nat) (x : TrigIn) (m : Nat) : (d.setTrig n x).unit m = d.unit m := rfl
@[simp] theorem Dev.setGleaner_unit' (d : Dev) (n : Nat) (x : Gleaner) (m : Nat) : (d.setGleaner n x).unit m = d.unit m := rfl
@[simp] theorem Dev.setCapture_unit' (d : Dev) (n : Nat) (x : Capture) (m : Nat) : (d.setCapture n x).unit m = d.unit m := rfl
@[simp] theorem Dev.setFn_unit' (d : Dev) (n : Nat) (x : FnSt) (m : Nat) : (d.setFn n x).unit m = d.unit m := rfl
@[simp] theorem Dev.setDma_unit' (d : Dev) (n : Nat) (x : DmaCh) (m : Nat) : (d.setDma n x).unit m = d.unit m := rfl
@[simp] theorem Dev.setPort_unit' (d : Dev) (n : Nat) (x : PortSt) (m : Nat) : (d.setPort n x).unit m = d.unit m := rfl
@[simp] theorem Dev.setPtp_unit' (d : Dev) (n : Nat) (x : PtpPort) (m : Nat) : (d.setPtp n x).unit m = d.unit m := rfl
@[simp] theorem Dev.setCommit_unit' (d : Dev) (n : Nat) (x : CommitSt) (m : Nat) : (d.setCommit n x).unit m = d.unit m := rfl

/-! ### pin -/

@[simp] theorem Dev.tick_pin' (d : Dev) (t : Nat) (m : Nat) : (d.tick t).pin m = d.pin m := rfl
@[simp] theorem Dev.put_pin' (d : Dev) (k v : Nat) (m : Nat) : (d.put k v).pin m = d.pin m := rfl
@[simp] theorem Dev.unset_pin' (d : Dev) (k : Nat) (m : Nat) : (d.unset k).pin m = d.pin m := rfl
@[simp] theorem Dev.bump_pin' (d : Dev) (k : Nat) (m : Nat) : (d.bump k).pin m = d.pin m := rfl
@[simp] theorem Dev.bump64_pin' (d : Dev) (k : Nat) (m : Nat) : (d.bump64 k).pin m = d.pin m := rfl
@[simp] theorem Dev.used_pin' (d : Dev) (m : Nat) : (d.used).pin m = d.pin m := rfl
@[simp] theorem Dev.emit_pin' (d : Dev) (o : Output) (m : Nat) : (d.emit o).pin m = d.pin m := rfl
@[simp] theorem Dev.setDrill_pin' (d : Dev) (n : Nat) (x : Drill) (m : Nat) : (d.setDrill n x).pin m = d.pin m := rfl
@[simp] theorem Dev.setChain_pin' (d : Dev) (n : Nat) (x : Chain) (m : Nat) : (d.setChain n x).pin m = d.pin m := rfl
@[simp] theorem Dev.setGroup_pin' (d : Dev) (n : Nat) (x : Group) (m : Nat) : (d.setGroup n x).pin m = d.pin m := rfl
@[simp] theorem Dev.setSlot_pin' (d : Dev) (n : Nat) (x : SlotSt) (m : Nat) : (d.setSlot n x).pin m = d.pin m := rfl
@[simp] theorem Dev.setBias_pin' (d : Dev) (n : Nat) (x : BiasOut) (m : Nat) : (d.setBias n x).pin m = d.pin m := rfl
@[simp] theorem Dev.setTrig_pin' (d : Dev) (n : Nat) (x : TrigIn) (m : Nat) : (d.setTrig n x).pin m = d.pin m := rfl
@[simp] theorem Dev.setGleaner_pin' (d : Dev) (n : Nat) (x : Gleaner) (m : Nat) : (d.setGleaner n x).pin m = d.pin m := rfl
@[simp] theorem Dev.setCapture_pin' (d : Dev) (n : Nat) (x : Capture) (m : Nat) : (d.setCapture n x).pin m = d.pin m := rfl
@[simp] theorem Dev.setFn_pin' (d : Dev) (n : Nat) (x : FnSt) (m : Nat) : (d.setFn n x).pin m = d.pin m := rfl
@[simp] theorem Dev.setDma_pin' (d : Dev) (n : Nat) (x : DmaCh) (m : Nat) : (d.setDma n x).pin m = d.pin m := rfl
@[simp] theorem Dev.setPort_pin' (d : Dev) (n : Nat) (x : PortSt) (m : Nat) : (d.setPort n x).pin m = d.pin m := rfl
@[simp] theorem Dev.setPtp_pin' (d : Dev) (n : Nat) (x : PtpPort) (m : Nat) : (d.setPtp n x).pin m = d.pin m := rfl
@[simp] theorem Dev.setCommit_pin' (d : Dev) (n : Nat) (x : CommitSt) (m : Nat) : (d.setCommit n x).pin m = d.pin m := rfl
@[simp] theorem Dev.setUnit_pin' (d : Dev) (n : Nat) (x : UnitSt) (m : Nat) : (d.setUnit n x).pin m = d.pin m := rfl

/-! ### val -/

@[simp] theorem Dev.tick_val' (d : Dev) (t : Nat) (m : Nat) : (d.tick t).val m = d.val m := rfl
@[simp] theorem Dev.used_val' (d : Dev) (m : Nat) : (d.used).val m = d.val m := rfl
@[simp] theorem Dev.emit_val' (d : Dev) (o : Output) (m : Nat) : (d.emit o).val m = d.val m := rfl
@[simp] theorem Dev.setDrill_val' (d : Dev) (n : Nat) (x : Drill) (m : Nat) : (d.setDrill n x).val m = d.val m := rfl
@[simp] theorem Dev.setChain_val' (d : Dev) (n : Nat) (x : Chain) (m : Nat) : (d.setChain n x).val m = d.val m := rfl
@[simp] theorem Dev.setGroup_val' (d : Dev) (n : Nat) (x : Group) (m : Nat) : (d.setGroup n x).val m = d.val m := rfl
@[simp] theorem Dev.setSlot_val' (d : Dev) (n : Nat) (x : SlotSt) (m : Nat) : (d.setSlot n x).val m = d.val m := rfl
@[simp] theorem Dev.setBias_val' (d : Dev) (n : Nat) (x : BiasOut) (m : Nat) : (d.setBias n x).val m = d.val m := rfl
@[simp] theorem Dev.setTrig_val' (d : Dev) (n : Nat) (x : TrigIn) (m : Nat) : (d.setTrig n x).val m = d.val m := rfl
@[simp] theorem Dev.setGleaner_val' (d : Dev) (n : Nat) (x : Gleaner) (m : Nat) : (d.setGleaner n x).val m = d.val m := rfl
@[simp] theorem Dev.setCapture_val' (d : Dev) (n : Nat) (x : Capture) (m : Nat) : (d.setCapture n x).val m = d.val m := rfl
@[simp] theorem Dev.setFn_val' (d : Dev) (n : Nat) (x : FnSt) (m : Nat) : (d.setFn n x).val m = d.val m := rfl
@[simp] theorem Dev.setDma_val' (d : Dev) (n : Nat) (x : DmaCh) (m : Nat) : (d.setDma n x).val m = d.val m := rfl
@[simp] theorem Dev.setPort_val' (d : Dev) (n : Nat) (x : PortSt) (m : Nat) : (d.setPort n x).val m = d.val m := rfl
@[simp] theorem Dev.setPtp_val' (d : Dev) (n : Nat) (x : PtpPort) (m : Nat) : (d.setPtp n x).val m = d.val m := rfl
@[simp] theorem Dev.setCommit_val' (d : Dev) (n : Nat) (x : CommitSt) (m : Nat) : (d.setCommit n x).val m = d.val m := rfl
@[simp] theorem Dev.setUnit_val' (d : Dev) (n : Nat) (x : UnitSt) (m : Nat) : (d.setUnit n x).val m = d.val m := rfl

/-! ### flag -/

@[simp] theorem Dev.tick_flag' (d : Dev) (t : Nat) (m : Nat) : (d.tick t).flag m = d.flag m := rfl
@[simp] theorem Dev.used_flag' (d : Dev) (m : Nat) : (d.used).flag m = d.flag m := rfl
@[simp] theorem Dev.emit_flag' (d : Dev) (o : Output) (m : Nat) : (d.emit o).flag m = d.flag m := rfl
@[simp] theorem Dev.setDrill_flag' (d : Dev) (n : Nat) (x : Drill) (m : Nat) : (d.setDrill n x).flag m = d.flag m := rfl
@[simp] theorem Dev.setChain_flag' (d : Dev) (n : Nat) (x : Chain) (m : Nat) : (d.setChain n x).flag m = d.flag m := rfl
@[simp] theorem Dev.setGroup_flag' (d : Dev) (n : Nat) (x : Group) (m : Nat) : (d.setGroup n x).flag m = d.flag m := rfl
@[simp] theorem Dev.setSlot_flag' (d : Dev) (n : Nat) (x : SlotSt) (m : Nat) : (d.setSlot n x).flag m = d.flag m := rfl
@[simp] theorem Dev.setBias_flag' (d : Dev) (n : Nat) (x : BiasOut) (m : Nat) : (d.setBias n x).flag m = d.flag m := rfl
@[simp] theorem Dev.setTrig_flag' (d : Dev) (n : Nat) (x : TrigIn) (m : Nat) : (d.setTrig n x).flag m = d.flag m := rfl
@[simp] theorem Dev.setGleaner_flag' (d : Dev) (n : Nat) (x : Gleaner) (m : Nat) : (d.setGleaner n x).flag m = d.flag m := rfl
@[simp] theorem Dev.setCapture_flag' (d : Dev) (n : Nat) (x : Capture) (m : Nat) : (d.setCapture n x).flag m = d.flag m := rfl
@[simp] theorem Dev.setFn_flag' (d : Dev) (n : Nat) (x : FnSt) (m : Nat) : (d.setFn n x).flag m = d.flag m := rfl
@[simp] theorem Dev.setDma_flag' (d : Dev) (n : Nat) (x : DmaCh) (m : Nat) : (d.setDma n x).flag m = d.flag m := rfl
@[simp] theorem Dev.setPort_flag' (d : Dev) (n : Nat) (x : PortSt) (m : Nat) : (d.setPort n x).flag m = d.flag m := rfl
@[simp] theorem Dev.setPtp_flag' (d : Dev) (n : Nat) (x : PtpPort) (m : Nat) : (d.setPtp n x).flag m = d.flag m := rfl
@[simp] theorem Dev.setCommit_flag' (d : Dev) (n : Nat) (x : CommitSt) (m : Nat) : (d.setCommit n x).flag m = d.flag m := rfl
@[simp] theorem Dev.setUnit_flag' (d : Dev) (n : Nat) (x : UnitSt) (m : Nat) : (d.setUnit n x).flag m = d.flag m := rfl

/-! ### live -/

@[simp] theorem Dev.tick_live' (d : Dev) (t : Nat) : (d.tick t).live = d.live := rfl
@[simp] theorem Dev.put_live' (d : Dev) (k v : Nat) : (d.put k v).live = d.live := rfl
@[simp] theorem Dev.unset_live' (d : Dev) (k : Nat) : (d.unset k).live = d.live := rfl
@[simp] theorem Dev.bump_live' (d : Dev) (k : Nat) : (d.bump k).live = d.live := rfl
@[simp] theorem Dev.bump64_live' (d : Dev) (k : Nat) : (d.bump64 k).live = d.live := rfl
@[simp] theorem Dev.used_live' (d : Dev) : (d.used).live = d.live := rfl
@[simp] theorem Dev.emit_live' (d : Dev) (o : Output) : (d.emit o).live = d.live := rfl
@[simp] theorem Dev.setDrill_live' (d : Dev) (n : Nat) (x : Drill) : (d.setDrill n x).live = d.live := rfl
@[simp] theorem Dev.setChain_live' (d : Dev) (n : Nat) (x : Chain) : (d.setChain n x).live = d.live := rfl
@[simp] theorem Dev.setGroup_live' (d : Dev) (n : Nat) (x : Group) : (d.setGroup n x).live = d.live := rfl
@[simp] theorem Dev.setSlot_live' (d : Dev) (n : Nat) (x : SlotSt) : (d.setSlot n x).live = d.live := rfl
@[simp] theorem Dev.setBias_live' (d : Dev) (n : Nat) (x : BiasOut) : (d.setBias n x).live = d.live := rfl
@[simp] theorem Dev.setTrig_live' (d : Dev) (n : Nat) (x : TrigIn) : (d.setTrig n x).live = d.live := rfl
@[simp] theorem Dev.setGleaner_live' (d : Dev) (n : Nat) (x : Gleaner) : (d.setGleaner n x).live = d.live := rfl
@[simp] theorem Dev.setCapture_live' (d : Dev) (n : Nat) (x : Capture) : (d.setCapture n x).live = d.live := rfl
@[simp] theorem Dev.setFn_live' (d : Dev) (n : Nat) (x : FnSt) : (d.setFn n x).live = d.live := rfl
@[simp] theorem Dev.setDma_live' (d : Dev) (n : Nat) (x : DmaCh) : (d.setDma n x).live = d.live := rfl
@[simp] theorem Dev.setPort_live' (d : Dev) (n : Nat) (x : PortSt) : (d.setPort n x).live = d.live := rfl
@[simp] theorem Dev.setPtp_live' (d : Dev) (n : Nat) (x : PtpPort) : (d.setPtp n x).live = d.live := rfl
@[simp] theorem Dev.setCommit_live' (d : Dev) (n : Nat) (x : CommitSt) : (d.setCommit n x).live = d.live := rfl
@[simp] theorem Dev.setUnit_live' (d : Dev) (n : Nat) (x : UnitSt) : (d.setUnit n x).live = d.live := rfl

/-! ### A unit replaced -/

@[simp] theorem Dev.drill_setDrill_same (d : Dev) (n : Nat) (x : Drill) : (d.setDrill n x).drill n = x := by simp [Dev.drill]
theorem Dev.drill_setDrill_other (d : Dev) (n m : Nat) (x : Drill) (h : n ≠ m) : (d.setDrill n x).drill m = d.drill m := by
  simp [Dev.drill, SMap.find_set_other _ _ _ _ h]
@[simp] theorem Dev.chain_setChain_same (d : Dev) (n : Nat) (x : Chain) : (d.setChain n x).chain n = x := by simp [Dev.chain]
theorem Dev.chain_setChain_other (d : Dev) (n m : Nat) (x : Chain) (h : n ≠ m) : (d.setChain n x).chain m = d.chain m := by
  simp [Dev.chain, SMap.find_set_other _ _ _ _ h]
@[simp] theorem Dev.group_setGroup_same (d : Dev) (n : Nat) (x : Group) : (d.setGroup n x).group n = x := by simp [Dev.group]
theorem Dev.group_setGroup_other (d : Dev) (n m : Nat) (x : Group) (h : n ≠ m) : (d.setGroup n x).group m = d.group m := by
  simp [Dev.group, SMap.find_set_other _ _ _ _ h]
@[simp] theorem Dev.slot_setSlot_same (d : Dev) (n : Nat) (x : SlotSt) : (d.setSlot n x).slot n = x := by simp [Dev.slot]
theorem Dev.slot_setSlot_other (d : Dev) (n m : Nat) (x : SlotSt) (h : n ≠ m) : (d.setSlot n x).slot m = d.slot m := by
  simp [Dev.slot, SMap.find_set_other _ _ _ _ h]
@[simp] theorem Dev.trig_setTrig_same (d : Dev) (n : Nat) (x : TrigIn) : (d.setTrig n x).trig n = x := by simp [Dev.trig]
theorem Dev.trig_setTrig_other (d : Dev) (n m : Nat) (x : TrigIn) (h : n ≠ m) : (d.setTrig n x).trig m = d.trig m := by
  simp [Dev.trig, SMap.find_set_other _ _ _ _ h]
@[simp] theorem Dev.gleaner_setGleaner_same (d : Dev) (n : Nat) (x : Gleaner) : (d.setGleaner n x).gleaner n = x := by simp [Dev.gleaner]
theorem Dev.gleaner_setGleaner_other (d : Dev) (n m : Nat) (x : Gleaner) (h : n ≠ m) : (d.setGleaner n x).gleaner m = d.gleaner m := by
  simp [Dev.gleaner, SMap.find_set_other _ _ _ _ h]
@[simp] theorem Dev.capture_setCapture_same (d : Dev) (n : Nat) (x : Capture) : (d.setCapture n x).capture n = x := by simp [Dev.capture]
theorem Dev.capture_setCapture_other (d : Dev) (n m : Nat) (x : Capture) (h : n ≠ m) : (d.setCapture n x).capture m = d.capture m := by
  simp [Dev.capture, SMap.find_set_other _ _ _ _ h]
@[simp] theorem Dev.fn_setFn_same (d : Dev) (n : Nat) (x : FnSt) : (d.setFn n x).fn n = x := by simp [Dev.fn]
theorem Dev.fn_setFn_other (d : Dev) (n m : Nat) (x : FnSt) (h : n ≠ m) : (d.setFn n x).fn m = d.fn m := by
  simp [Dev.fn, SMap.find_set_other _ _ _ _ h]
@[simp] theorem Dev.dmaCh_setDma_same (d : Dev) (n : Nat) (x : DmaCh) : (d.setDma n x).dmaCh n = x := by simp [Dev.dmaCh]
theorem Dev.dmaCh_setDma_other (d : Dev) (n m : Nat) (x : DmaCh) (h : n ≠ m) : (d.setDma n x).dmaCh m = d.dmaCh m := by
  simp [Dev.dmaCh, SMap.find_set_other _ _ _ _ h]
@[simp] theorem Dev.port_setPort_same (d : Dev) (n : Nat) (x : PortSt) : (d.setPort n x).port n = x := by simp [Dev.port]
theorem Dev.port_setPort_other (d : Dev) (n m : Nat) (x : PortSt) (h : n ≠ m) : (d.setPort n x).port m = d.port m := by
  simp [Dev.port, SMap.find_set_other _ _ _ _ h]
@[simp] theorem Dev.commitOf_setCommit_same (d : Dev) (n : Nat) (x : CommitSt) : (d.setCommit n x).commitOf n = x := by simp [Dev.commitOf]
theorem Dev.commitOf_setCommit_other (d : Dev) (n m : Nat) (x : CommitSt) (h : n ≠ m) : (d.setCommit n x).commitOf m = d.commitOf m := by
  simp [Dev.commitOf, SMap.find_set_other _ _ _ _ h]
@[simp] theorem Dev.unit_setUnit_same (d : Dev) (n : Nat) (x : UnitSt) : (d.setUnit n x).unit n = x := by simp [Dev.unit]
theorem Dev.unit_setUnit_other (d : Dev) (n m : Nat) (x : UnitSt) (h : n ≠ m) : (d.setUnit n x).unit m = d.unit m := by
  simp [Dev.unit, SMap.find_set_other _ _ _ _ h]
@[simp] theorem Dev.biasOut_setBias_same (d : Dev) (n : Nat) (x : BiasOut) : (d.setBias n x).biasOut n = x := by simp [Dev.biasOut]
theorem Dev.biasOut_setBias_other (d : Dev) (n m : Nat) (x : BiasOut) (h : n ≠ m) : (d.setBias n x).biasOut m = d.biasOut m := by
  simp [Dev.biasOut, SMap.find_set_other _ _ _ _ h]

/-! ### Objects -/

/-- An object reads as it was put. -/
@[simp] theorem Dev.val_put_same (d : Dev) (k v : Nat) : (d.put k v).val k = v := by simp [Dev.val]
/-- Putting an object leaves every other alone; the defaults of the bias group follow NV objects (Table 11-4). -/
theorem Dev.val_put_other (d : Dev) (k j v : Nat) (h : k ≠ j) (hb : isBiasKey j = false) : (d.put k v).val j = d.val j := by
  simp [Dev.val, Dev.dflt, hb, SMap.find_set_other _ _ _ _ h]
/-- A counter bumped reads one more, wrapped. -/
@[simp] theorem Dev.val_bump_same (d : Dev) (k : Nat) : (d.bump k).val k = wrap 32 (d.val k + 1) := by simp [Dev.bump]
/-- Bumping a counter leaves every other object alone. -/
theorem Dev.val_bump_other (d : Dev) (k j : Nat) (h : k ≠ j) (hb : isBiasKey j = false) : (d.bump k).val j = d.val j :=
  Dev.val_put_other d k j _ h hb
/-- A 64-bit counter bumped reads one more, wrapped. -/
@[simp] theorem Dev.val_bump64_same (d : Dev) (k : Nat) : (d.bump64 k).val k = wrap 64 (d.val k + 1) := by simp [Dev.bump64]
/-- Bumping a 64-bit counter leaves every other object alone. -/
theorem Dev.val_bump64_other (d : Dev) (k j : Nat) (h : k ≠ j) (hb : isBiasKey j = false) : (d.bump64 k).val j = d.val j :=
  Dev.val_put_other d k j _ h hb

end Sys2Proof.Machine
end

