-- ==== Sys2Proof/Laws/Steps.lean ====
section
/-! SUPPORT. What the lifts answer: every command answers a next state, and the four forms of it, once each. -/

namespace Sys2Proof.Machine

/-! ### The seal (R445) -/

/-- The Grave latch kept over no change is no change. -/
@[simp] theorem keepGrave_self (f : Faults) : keepGrave f f = f := by
  have hs : f.sticky ||| (f.sticky &&& graveMask) = f.sticky := by
    apply Nat.eq_of_testBit_eq
    intro i
    simp only [Nat.testBit_or, Nat.testBit_and]
    cases f.sticky.testBit i <;> simp
  have hf : (if f.safe = 2 then 2 else f.safe) = f.safe := by split <;> simp_all
  simp [keepGrave, hs, hf]

/-- A command that leaves the faults alone is not touched by the seal. -/
theorem Dev.seal_of_faults {a b : Dev} (h : b.faults = a.faults) : a.seal b = b := by
  simp [Dev.seal, ← h]

/-- The seal changes nothing but the faults. -/
theorem Dev.seal_eq (a b : Dev) : a.seal b = { b with faults := keepGrave a.faults b.faults } := rfl

/-- The latch after a sealed command, when it held before. -/
theorem keepGrave_safe (a b : Faults) (h : a.safe = 2) : (keepGrave a b).safe = 2 := by simp [keepGrave, h]

/-- Every Grave bit set before a sealed command is set after it. -/
theorem keepGrave_bit (a b : Faults) (i : Nat) (hi : graveMask.testBit i = true) (h : a.sticky.testBit i = true) :
    (keepGrave a b).sticky.testBit i = true := by
  simp [keepGrave, Nat.testBit_or, Nat.testBit_and, hi, h]

/-- Units outside the VAUX island live or rest whatever the time is. -/
@[simp] theorem Dev.tick_live (d : Dev) (t : Nat) : (d.tick t).live = d.live := rfl

/-! ### The lifts -/

/-- A command on a live block. -/
theorem devStep_live (t : Nat) (f : Mem → Dev → Dev) (s : State) (h : s.dev.live = true) :
    devStep t f s = .next { s with dev := s.dev.seal (f s.mem (s.dev.tick t)) } := by simp [devStep, h]

/-- A command on a live block whose effect leaves the faults alone. -/
theorem devStep_keeps (t : Nat) (f : Mem → Dev → Dev) (s : State) (h : s.dev.live = true)
    (hf : (f s.mem (s.dev.tick t)).faults = s.dev.faults) :
    devStep t f s = .next { s with dev := f s.mem (s.dev.tick t) } := by
  rw [devStep_live t f s h, Dev.seal_of_faults hf]

/-- While the block is held in reset only time passes. -/
theorem devStep_held (t : Nat) (f : Mem → Dev → Dev) (s : State) (h : s.dev.live = false) :
    devStep t f s = .next { s with dev := s.dev.tick t } := by
  have hs : s.dev.seal (s.dev.tick t) = s.dev.tick t := Dev.seal_of_faults rfl
  simp [devStep, h, hs]

/-- A command of the VAUX island. -/
theorem islandStep_up (t : Nat) (f : Mem → Dev → Dev) (s : State) (h : s.dev.power.vauxUp = true) :
    islandStep t f s = .next { s with dev := s.dev.seal (f s.mem (s.dev.tick t)) } := by simp [islandStep, h]

/-- A command of the VAUX island whose effect leaves the faults alone. -/
theorem islandStep_keeps (t : Nat) (f : Mem → Dev → Dev) (s : State) (h : s.dev.power.vauxUp = true)
    (hf : (f s.mem (s.dev.tick t)).faults = s.dev.faults) :
    islandStep t f s = .next { s with dev := f s.mem (s.dev.tick t) } := by
  rw [islandStep_up t f s h, Dev.seal_of_faults hf]

/-- A command that writes DDR5, on a live block. -/
theorem memStep_live (t : Nat) (f : Mem → Dev → Dev × List MemOp) (s : State) (h : s.dev.live = true) :
    memStep t f s = .next { s with
      dev := s.dev.seal (f s.mem (s.dev.tick t)).1, mem := s.mem.apply (f s.mem (s.dev.tick t)).2 } := by simp [memStep, h]

/-- A live block's command answers a next state, whatever its effect. -/
theorem devStep_next (t : Nat) (f : Mem → Dev → Dev) (s : State) : ∃ s', devStep t f s = .next s' := ⟨_, rfl⟩
/-- The same of the VAUX island. -/
theorem islandStep_next (t : Nat) (f : Mem → Dev → Dev) (s : State) : ∃ s', islandStep t f s = .next s' := ⟨_, rfl⟩
/-- The same of a command that writes DDR5. -/
theorem memStep_next (t : Nat) (f : Mem → Dev → Dev × List MemOp) (s : State) : ∃ s', memStep t f s = .next s' := ⟨_, rfl⟩
/-- The same of VAUX falling or rising. -/
theorem vauxStep_next (t : Nat) (f : Dev → Dev) (s : State) : ∃ s', vauxStep t f s = .next s' := ⟨_, rfl⟩

/-- What a command that only changes the block leaves alone: DDR5 and the queue. -/
theorem devStep_frame {t : Nat} {f : Mem → Dev → Dev} {s s' : State} (h : devStep t f s = .next s') :
    s'.mem = s.mem ∧ s'.pending = s.pending := by
  simp only [devStep, Host.Outcome.next.injEq] at h
  subst h
  exact ⟨rfl, rfl⟩

/-- What a command of the VAUX island leaves alone. -/
theorem islandStep_frame {t : Nat} {f : Mem → Dev → Dev} {s s' : State} (h : islandStep t f s = .next s') :
    s'.mem = s.mem ∧ s'.pending = s.pending := by
  simp only [islandStep, Host.Outcome.next.injEq] at h
  subst h
  exact ⟨rfl, rfl⟩

/-- What a command that writes DDR5 leaves alone. -/
theorem memStep_frame {t : Nat} {f : Mem → Dev → Dev × List MemOp} {s s' : State} (h : memStep t f s = .next s') :
    s'.pending = s.pending := by
  simp only [memStep, Host.Outcome.next.injEq] at h
  subst h
  rfl

/-- What VAUX falling or rising leaves alone. -/
theorem vauxStep_frame {t : Nat} {f : Dev → Dev} {s s' : State} (h : vauxStep t f s = .next s') :
    s'.mem = s.mem ∧ s'.pending = s.pending := by
  simp only [vauxStep, Host.Outcome.next.injEq] at h
  subst h
  exact ⟨rfl, rfl⟩

/-- A drill command on a live block whose drill's next instruction decodes. -/
theorem drillStep_live (t : Nat) (lane : Lane) (f : Dev → Nat → Drill → Op → Dev) (s : State) (op : Op) (h : s.dev.live = true)
    (hop : (s.dev.tick t).nextOp lane.val = some op) :
    drillStep t lane f s =
      .next { s with dev := s.dev.seal (f (s.dev.tick t) lane.val (s.dev.drill lane.val) op) } := by
  simp [drillStep, devStep, h, hop]

/-- DDR5 is canonical right after reset. -/
theorem State.reset_mem_wf : State.reset.mem.wf = true := rfl

/-- What is scrambled is descrambled to itself (R373). -/
theorem descramble_scramble : ∀ (bs s : List Bool), descramble s (scramble s bs) = bs
  | [], _ => rfl
  | b :: r, s => by simp [scramble, descramble, descramble_scramble r]

end Sys2Proof.Machine
end

