-- ==== Sys2Proof/Laws/Access.lean ====
section
/-! SUPPORT. A write that reaches its object: what its command answers, once for every written object. -/

namespace Sys2Proof.Machine

/-- A write that is admitted runs its object's rule and answers the code the rule gives. -/
theorem gated_admits {s : State} {t : Nat} {path : Path} {key v : Nat} (f : Dev → Dev × Nat) (h : s.Admits t path key v) :
    (s.devAt t).gated path key v f = (f (s.devAt t)).1.answerWrite path key (f (s.devAt t)).2 := by
  obtain ⟨⟨h1, h2⟩, h3⟩ := h
  unfold State.Asked at h3
  simp [Dev.gated, h1, h2, h3]

/-- A write of a fitting value that is admitted runs its object's rule. -/
theorem gatedValue_admits {s : State} {t : Nat} {path : Path} {key value : Nat} (f : Dev → Dev × Nat) (h : s.Admits t path key value)
    (hv : valueFits key value) :
    (s.devAt t).gatedValue path key value f = (f (s.devAt t)).1.answerWrite path key (f (s.devAt t)).2 := by
  unfold Dev.gatedValue
  rw [gated_admits _ h]
  cases hr : rowAt (keyIndex key) (keySub key) with
  | none => rfl
  | some r =>
    obtain ⟨h1, h2⟩ := hv r hr
    simp [h1, h2]

end Sys2Proof.Machine
end

