-- ==== Sys2Proof/Laws/Shots.lean ====
section
/-! SUPPORT. What the end of a shot, a lane leaving its group, and a request do: once each, for every command that calls them. -/

namespace Sys2Proof.Machine

/-- A fold keeps what each of its steps keeps. -/
theorem foldl_keeps {α β γ : Type} (f : α → β → α) (p : α → γ) (h : ∀ a b, p (f a b) = p a) (l : List β) (a : α) : p (l.foldl f a) = p a := by
  induction l generalizing a with
  | nil => rfl
  | cons b l ih => simp only [List.foldl_cons]; rw [ih, h]

/-- A shot that closes moves no drill. -/
@[simp] theorem Dev.closeShot_drills (d : Dev) (g : Nat) : (d.closeShot g).drills = d.drills := by
  unfold Dev.closeShot
  simp only
  refine (foldl_keeps _ Dev.drills (fun a b => ?_) _ _).trans ?_
  · split <;> rfl
  · refine (foldl_keeps _ Dev.drills (fun a b => ?_) _ _).trans ?_
    · rfl
    · refine (foldl_keeps _ Dev.drills (fun a b => ?_) _ _).trans ?_ <;> rfl

/-- A shot that closes changes the group's own record, and no other group's: its members stay, and it is in no shot. -/
theorem Dev.closeShot_groups (d : Dev) (g : Nat) :
    ∃ y : Group, (d.closeShot g).groups = SMap.set d.groups g y ∧ y.members = (d.group g).members ∧ y.inShot = false := by
  unfold Dev.closeShot
  refine ⟨?_, (foldl_keeps _ Dev.groups (fun a b => ?_) _ _).trans ((foldl_keeps _ Dev.groups (fun a b => ?_) _ _).trans
    ((foldl_keeps _ Dev.groups (fun a b => ?_) _ _).trans ?_)), ?_, ?_⟩
  case refine_5 => rfl
  all_goals first | rfl | (simp only; split <;> rfl)

/-- A shot that closes keeps who belongs to each group. -/
theorem Dev.closeShot_members (d : Dev) (g k : Nat) : ((d.closeShot g).group k).members = (d.group k).members := by
  obtain ⟨y, h, hm, _⟩ := Dev.closeShot_groups d g
  by_cases hk : g = k
  · subst hk
    simp only [Dev.group, h, SMap.find_set_same, Option.getD_some]
    simpa [Dev.group] using hm
  · simp [Dev.group, h, SMap.find_set_other _ _ _ _ hk]

/-- A shot that some running member has not left goes on. -/
theorem Dev.endShotIfDone_open (d : Dev) (g : Nat) (h : (d.group g).allEnded = false) : d.endShotIfDone g = d := by
  simp [Dev.endShotIfDone, h]

/-- A lane out of its group moves no drill. -/
@[simp] theorem Dev.outOfGroup_drills (d : Dev) (l : Nat) : (d.outOfGroup l).drills = d.drills := rfl
/-- A lane out of its group is no member of it. -/
theorem Dev.outOfGroup_members (d : Dev) (l : Nat) : l ∉ ((d.outOfGroup l).group (d.groupOf l)).members := by
  simp [Dev.outOfGroup]
/-- A lane that leaves a group whose shot goes on without it changes its group's record only. -/
theorem Dev.leaveGroup_open (d : Dev) (l : Nat) (h : ((d.outOfGroup l).group (d.groupOf l)).allEnded = false) : d.leaveGroup l = d.outOfGroup l :=
  Dev.endShotIfDone_open _ _ h

/-- A request outside a prediction goes to the lane's chain, behind those before it. -/
theorem Dev.request_confirmed (d : Dev) (l : Nat) (x : Timed) (h : (d.drill l).shadow = none) :
    d.request l x = d.setChain l { d.chain l with timed := (d.chain l).timed ++ [{ req := x, why := (d.drill l).why }] } := by simp [Dev.request, h]

/-- A request inside a prediction waits in the staging buffer (R217). -/
theorem Dev.request_predicted (d : Dev) (l : Nat) (x : Timed) (s : Shadow) (h : (d.drill l).shadow = some s) :
    d.request l x = d.setDrill l { d.drill l with shadow := some { s with timed := s.timed ++ [{ req := x, why := (d.drill l).why }] } } := by
  simp [Dev.request, h]

/-- A segment end that no commit waits for is only remembered as the latest. -/
theorem Dev.segmentCommits_idle (d : Dev) (l e cut : Nat) (h1 : (d.commitOf (Obj.laneCommit l)).waits 2 = false)
    (h2 : (d.commitOf (Obj.biasCommit l)).waits 2 = false) :
    d.segmentCommits l e cut = d.setDrill l { d.drill l with segEnds := e :: (d.drill l).segEnds.filter (fun x => d.now < x) } := by
  simp [Dev.segmentCommits, h1, h2]

end Sys2Proof.Machine
end

