-- ==== Sys2Proof/Machine/Balls.lean ====
section
/-! DEFINITION. Where the balls of the tile fields lie (R481), and the word the JTAG port identifies the device by (R485). -/

namespace Sys2Proof.Machine

/-- What a ball of a tile field carries (Table 22-3): of a pair, `n` is its _N half. -/
inductive Ball where
  | aout (lane : Nat) (n : Bool)
  | ain (input : Nat) (n : Bool)
  | bias (lane : Nat)
  | bsense (tile : Nat)
  | trig (tile : Nat)
  | mark (pin : Nat)
  | vss
deriving DecidableEq, Repr

/-- The ball in row `r` and column `c` of the field of tile `k` (Table 22-3). -/
def fieldBall (k r c : Nat) : Ball :=
  let i := (c - 1) / 4
  let w := (c - 1) % 4
  if r ≤ 7 then
    let slot := 5 * (r - 1) + i
    let first := if r % 2 = 1 then 0 else 2
    if slot < 32 && (w = first || w = first + 1) then .aout (32 * k + slot) (w != first) else .vss
  else if r = 9 then if i < 4 && (w = 1 || w = 2) then .ain (4 * k + i) (w = 2) else .vss
  else if r = 11 then if c ≤ 16 then .bias (32 * k + c - 1) else if c = 18 then .bsense k else if c = 20 then .trig k else .vss
  else if r = 12 then
    if c ≤ 16 then .bias (32 * k + 16 + c - 1) else if c = 18 then .mark (2 * k) else if c = 20 then .mark (2 * k + 1) else .vss
  else .vss

/-- Package row and column of a position of the field of tile `k` (Table 22-2). -/
def packagePos (k r c : Nat) : Nat × Nat :=
  let along := 20 * (k % 4) + c
  match k / 4 with
  | 0 => (r, along)
  | 1 => (along, 94 - r)
  | 2 => (94 - r, 94 - along)
  | _ => (94 - along, r)

/-- The balls of the field of tile `k`, with their package positions. -/
def tileBalls (k : Nat) : List (Ball × Nat × Nat) :=
  ((List.range 12).map (fun r => (List.range 20).map (fun c => (fieldBall k (r + 1) (c + 1), packagePos k (r + 1) (c + 1))))).flatten

/-- IDCODE of the JTAG port (R485): the silicon revision, part 0x5120, Ratric's manufacturer identity, and the 1 that IEEE 1149.1 has in bit 0. -/
def jtagIdcode : Nat := wrap 4 Config.siliconRevision * 2 ^ 28 + 0x5120 * 2 ^ 12 + wrap 11 Config.manufacturer * 2 + 1

end Sys2Proof.Machine
end

