-- ==== Sys2Proof/Tests/Slice0.lean ====
section
/-! SUPPORT. The author's own tests: ill-formed terms that WellFormed refuses, effects the spec works out, and for every statement of
Obligations.lean states and operands that meet its hypotheses. -/

open Sys2Proof Sys2Proof.Machine

namespace Sys2Proof.Tests

set_option Elab.async false

/-! ### WellFormed refuses (R48, R175, R285, R305, R379, Tables 3-4, 16-5 to 16-9, 18-2) -/

/-- A time beyond 64 bits. -/
theorem test_wf_fits : Instr.wf (.nop (2 ^ 64) 0) = false := by decide
/-- A CAN write of 256 bytes. -/
theorem test_wf_atMost : Instr.wf (.classicalCanFrame 0 0 (zeros 9)) = false := by decide
/-- A request whose sub-index does not fit its byte. -/
theorem test_wf_requestOk : Instr.wf (.read 0 .pf0 { tag := 0, index := 0, sub := 256, typ := 0, data := [] }) = false := by decide
/-- 100 ps are one tick more. -/
theorem test_wf_psOk : Instr.wf (.trigEdge 0 0 100 true) = false := by decide
/-- A code above 12 bits. -/
theorem test_wf_codeOk : Instr.wf (.windowCheckpoint 0 0 [2048]) = false := by decide
/-- The least code is allowed, the one below is not. -/
theorem test_wf_codesIn : Instr.wf (.finalVerdict 0 0 [-2048]) = true ∧ Instr.wf (.finalVerdict 0 0 [-2049]) = false := by decide
/-- A history of other than 80 codes. -/
theorem test_wf_codesOk : Instr.wf (.windowOpen 0 0 [0]) = false := by decide
/-- Seven trained channels. -/
theorem test_wf_trainedOk : Instr.wf (.memoryTrainingComplete 0 [0, 0, 0, 0, 0, 0, 0]) = false := by decide
/-- Class 6. -/
theorem test_wf_classOk : Instr.wf (.creditBlockReceive 0 0 6 1) = false := by decide
/-- A fabric ID that no producer has. -/
theorem test_wf_entriesOk : Instr.wf (.ggVerdictFrameReceive 0 0 0 0 [{ fabricId := 1284, void := false, value := 0 }]) = false := by decide
/-- A message type beyond 4 bits. -/
theorem test_wf_timeBodyOk : Instr.wf (.syncReceive 0 0 { emptyBody with msgType := 16 } 0 []) = false := by decide
/-- A rate beyond its byte. -/
theorem test_wf_capabilityOk : Instr.wf (.capabilityBlockReceive 0 0 0 { version := 1, maxRate := 256, ack := false, rest := false, serial := 0 }) = false := by
  decide
/-- A request code beyond 2 bits. -/
theorem test_wf_trainingOk :
    Instr.wf (.trainingBlockReceive 0 0 0
      { rate := 1, reqPre := 4, reqMain := 0, reqPost := 0, ready := false, statPre := 0, statMain := 0, statPost := 0, margin := 0 }) = false := by
  decide
/-- A frame whose picoseconds are not below 100. -/
theorem test_wf_eventFrameOk :
    Instr.wf (.eventFrameReceive 0 0 { kind := 0, line := 0, void := false, aligned := true, ps := 100, time := 0 }) = false := by decide
/-- A write of more than 64 bits to a ring's window. -/
theorem test_wf_ringAccessOk : Instr.wf (.ringReadOffsetWrite 0 .pf0 0 (.write 4 4 (2 ^ 64))) = false := by decide
/-- A count of functions beyond its byte. -/
theorem test_wf_configAccessOk : Instr.wf (.sriovVfEnable 0 (.setVfs 256)) = false := by decide
/-- A converter die 16. -/
theorem test_wf_tapOk : Instr.wf (.calTapStep 0 { item := 4, unit := 16, value := 0 }) = false := by decide

/-! ### States to test on -/

/-- The block after start-up: not held, reads open, DevState 1. -/
def up : Dev :=
  ({ Dev.reset with power := { Dev.reset.power with inReset := false, pinLow := false, readsOpen := true } } : Dev).put Obj.devState 1
/-- A state with a block. -/
def on (d : Dev) : State := { State.reset with dev := d }
/-- A drill in a shot that stands at a grain. -/
def stand (g : Nat) : Drill := { Drill.init with run := .inShot, length := 1, grains := [g] }
/-- The block with lane 0's drill. -/
def lane0 (r : Drill) : State := on (up.setDrill 0 r)
/-- A grain of an opcode (Table 5-4). -/
def grain (op rest : Nat) : Nat := op * 2 ^ 66 + rest
/-- The block runs and lane 0's drill executes this. -/
def runs (r : Drill) (op : Op) : Bool := (lane0 r).dev.live && decide (((lane0 r).devAt 0).nextOp 0 = some op)
/-- The block runs and a write on a path reaches its object; the path holds no record, so any value may be written. -/
def admits (s : State) (path : Path) (key : Nat) : Bool :=
  s.dev.live && (s.devAt 0).pathThere path && decide ((s.devAt 0).writeGate path key = 0) && (s.devAt 0).asksFor path key 0

/-! ### Witnesses: the drill -/

theorem test_StepRunsTheFrontCommand : step { lane0 (stand 0) with pending := [.nop 0 0] } = exec (.nop 0 0) (lane0 (stand 0)) := rfl

theorem test_SequenceInstructionsMoveTheCounter :
    runs (stand 0) .nop = true ∧ runs (stand (grain 8 (2 ^ 65 + 5 * 2 ^ 32))) (.loop true 5 0) = true
    ∧ runs (stand (grain 8 (5 * 2 ^ 32))) (.loop false 5 0) = true ∧ runs (stand (grain 8 (5 * 2 ^ 32 + 1))) (.loop false 5 1) = true
    ∧ runs { stand (grain 9 0) with loops := [{ remaining := 0, forever := true, body := 0, endAddr := 0 }] } (.endloop 0) = true
    ∧ runs { stand (grain 9 0) with loops := [{ remaining := 2, forever := false, body := 0, endAddr := 0 }] } (.endloop 0) = true
    ∧ runs { stand (grain 9 0) with loops := [{ remaining := 1, forever := false, body := 0, endAddr := 0 }] } (.endloop 0) = true
    ∧ runs (stand (grain 10 3)) (.call 3) = true ∧ runs { stand (grain 11 0) with calls := [{ ret := 0, depth := 0 }] } .ret = true
    ∧ runs (stand (grain 14 (2 ^ 24 + 7))) (.jump 1 7) = true := by decide

/-- A watch of channel 0, armed at tick 0 outside every loop. -/
def watch0 (mask : Nat) : Watch :=
  { channel := 0, mask := mask, negate := false, target := 0, pop := 0, loopDepth := 0, callDepth := 0, armTime := 0, prev := none }
/-- A drill with an armed watch that stands at a segment end. -/
def watching (g mask : Nat) : Drill := { stand g with cursor := 1, watch := some (watch0 mask) }

theorem test_CursorInstructionsMoveTheCursor :
    runs (stand (grain 6 1)) (.wait false false 1) = true ∧ ((lane0 (stand 0)).devAt 0).watchWaits 0 = false
    ∧ runs (watching (grain 6 (2 ^ 65 + 1)) 1) (.wait true false 1) = true ∧ ((lane0 (watching 0 1)).devAt 0).watchWaits 0 = true
    ∧ runs (watching (grain 6 (2 ^ 65 + 1)) 0) (.wait true false 1) = true ∧ ((lane0 (watching 0 0)).devAt 1).watchWaits 0 = false
    ∧ (watching 0 0).segStart < (watching 0 0).cursor ∧ (watching 0 0).watchFires (((lane0 (watching 0 0)).devAt 0).cutoff 0 1) = some (watch0 0)
    ∧ (((lane0 (stand 0)).devAt 0).commitOf (Obj.laneCommit 0)).waits 2 = false
    ∧ (((lane0 (stand 0)).devAt 0).commitOf (Obj.biasCommit 0)).waits 2 = false
    ∧ runs (stand (grain 6 0)) (.wait false false 0) = true ∧ runs (stand (grain 7 1)) (.atC 1) = true := by decide

theorem test_ShotInstructionsOutsideTheShot :
    runs { stand (grain 1 0) with run := .between } .halt = true
    ∧ runs (stand (grain 13 (3 * 2 ^ 63))) (.watch 3 0 0 0 false false 0 0) = true
    ∧ runs { stand (grain 2 0) with run := .between } (.shotBegin 0 0 0) = true
    ∧ runs { stand (grain 2 0) with run := .between, stopAtBoundary := true } (.shotBegin 0 0 0) = true := by decide

theorem test_RequestsTravelWithTheirStamp :
    runs (stand (grain 15 1)) (.frameFreq 0 1) = true ∧ runs (stand (grain 16 1)) (.framePhase 0 false 1) = true
    ∧ runs (stand (grain 17 (2 ^ 32 - 1))) (.frameOrigin 0 (-1)) = true ∧ runs (stand (grain 18 (2 ^ 65))) (.mark 1 0 0 0 0) = true
    ∧ runs (stand (grain 18 (2 ^ 56))) (.mark 0 0 1 0 0) = true ∧ runs (stand (grain 18 0)) (.mark 0 0 0 0 0) = true
    ∧ runs (stand (grain 20 1)) (.bias 1) = true ∧ runs (stand (grain 19 (2 ^ 44))) (.acquire 0 1 0) = true := by decide

theorem test_SyncTakesItsEventOrTimesOut :
    runs { stand (grain 21 0) with latches := [(0, { tick := 0, ps := 0 })] } (.sync 0 false 0 0) = true
    ∧ (0 : Nat) ≤ ((lane0 (stand 0)).devAt 0).syncLimit 0 0 0
    ∧ ((lane0 (stand 0)).devAt 0).syncLimit 0 0 0 < ((lane0 (stand 0)).devAt 0).syncLimit 0 0 0 + 1
    ∧ runs (stand (grain 21 0)) (.sync 0 false 0 0) = true ∧ runs (stand (grain 21 (2 ^ 58))) (.sync 0 true 0 0) = true
    ∧ decodeGrain (grain 21 0) = .sync 0 false 0 0
    ∧ ((lane0 { stand 0 with run := .waitSync, waitGrain := grain 21 0 }).devAt 0).syncLimit 0 0 0 + 200 ≤
        ((lane0 { stand 0 with run := .waitSync, waitGrain := grain 21 0 }).devAt 264).now := by decide

/-- Lane 0 in shot 0 of its own group, with a window of slot 0 that ended at tick 0 and its final item of value 1. -/
def seen (r : Drill) : State :=
  on { up.setDrill 0 r with
    items := [{ id := 0, value := 1, void := false, final := true, windowEnd := 0, shot := 0, time := 0, grain := 0, flags := 0, length := 0 }]
    groups := [(64, { Group.init with inShot := true, members := [0], took := [0]
                                      windows := [{ slot := 0, start := 0, stop := 0, lane := 0, shot := 0, late := false }] })] }

theorem test_BranchTakesThePathItsConditionGives :
    runs (stand (grain 12 (3 * 2 ^ 63))) (.branch 3 0 0 0 false false 0 0) = true
    ∧ runs (stand (grain 12 (4 * 2 ^ 63))) (.branch 4 0 0 0 false false 0 0) = true
    ∧ runs (stand (grain 12 0)) (.branch 0 0 0 0 false false 0 0) = true
    ∧ ((seen (stand (grain 12 0))).devAt 0).nextOp 0 = some (.branch 0 0 0 0 false false 0 0)
    ∧ (((seen (stand (grain 12 0))).devAt 0).branchItem 0 0 0).map (fun i => (i.void, i.time)) = some (false, 0)
    ∧ ((lane0 (stand (grain 12 0))).devAt 0).branchItem 0 0 0 = none
    ∧ runs (stand (grain 12 (2 ^ 34))) (.branch 0 0 0 0 false true 0 0) = true ∧ (stand 0).mode ≠ modeProvisional := by decide

theorem test_WaitingBranchesEnd :
    (seen { stand 0 with run := .waitBranch, waitGrain := grain 12 0 }).dev.live = true
    ∧ (((seen { stand 0 with run := .waitBranch, waitGrain := grain 12 (2 ^ 34) }).devAt 0).branchItem 0 0 0).map (fun i => (i.void, i.time)) = some (false, 0)
    ∧ decodeGrain (grain 12 (2 ^ 34)) = .branch 0 0 0 0 false true 0 0
    ∧ ((lane0 { stand 0 with run := .waitBranch, waitGrain := grain 12 0 }).devAt 0).branchItem 0 0 0 = none
    ∧ ((lane0 { stand 0 with run := .waitBranch, waitGrain := grain 12 0 }).devAt 0).cursorTime 0 0 ≤ 0 := by decide

/-- A confirmed entry of lane 0's branch on fabric ID 0 equal to 1. -/
def entry0 (v : VptState) : VptEntry :=
  { state := v, isBranch := true, lane := 0, slot := 0, kind := 0, source := 0, value := 1, mask := 1, negate := false, windowEnd := 0, shot := 0
    release := 0, reservation := 0, group := none, first := none }
/-- What a prediction at cursor 0 keeps. -/
def shadow0 : Shadow :=
  { entry := 0, pc := 0, cursor := 0, busy := 0, loops := [], calls := [], grain := 0, predicted := true, watch := none, segStart := 0, segDue := false
    firstDue := false, streamCur := 0, jobs := [], timed := [] }
/-- An empty alternate slot, selected, with no granule. -/
def alt0 : AltSlot := { granules := [], releaseStamp := 0, length := 0, selected := true, playing := false, shot := 0, why := 6, lost := [] }
/-- An alternate group at granule 0 with these slots open. -/
def altGroup (o : List AltOpen) : AltGroup := { release := 0, closed := false, opened := o, windowEnd := 0, shot := 0, refused := false, first := false }
/-- Slot 0 opened on fabric ID 0 equal to a value, without an entry. -/
def altOpen0 (value : Nat) (entry : Option Nat) : AltOpen :=
  { slot := 0, kind := 0, source := 0, value := value, mask := 1, length := 0, jobs := [], entry := entry }

theorem test_BranchTakesThePathItsConditionGives_predicted :
    runs { stand (grain 12 (2 ^ 34)) with shadow := some shadow0 } (.branch 0 0 0 0 false true 0 0) = true := by decide

theorem test_WaitingBranchesEnd_confirmed :
    (lane0 { stand 0 with shadow := some shadow0 }).dev.live = true
    ∧ SMap.find ({ (lane0 { stand 0 with shadow := some shadow0 }).dev with vpt := [(0, entry0 .confirmed)] } : Dev).vpt shadow0.entry
        = some (entry0 .confirmed) := by decide

/-- Waveform 0 of one granule. -/
def wave0 : Nat × LibEntry := (0, { length := 1, stream := false, offset := 0, region := 0, energySum := 0, peak := 0, data := [] })

theorem test_PlayQueuesItsGranules :
    runs { stand (grain 32 0) with library := [wave0] } (.play false false false 0 0 0 0) = true
    ∧ 0 < (({ stand (grain 32 0) with library := [wave0] } : Drill).entryOf 0).length
    ∧ ((lane0 { stand (grain 32 0) with library := [wave0] }).devAt 0).watchWaits 0 = false
    ∧ runs { watching (grain 32 (4 * 2 ^ 66)) 1 with library := [wave0] } (.play true false false 0 0 0 0) = true
    ∧ ((lane0 { watching 0 1 with library := [wave0] }).devAt 0).watchWaits 0 = true
    ∧ runs { watching (grain 32 (4 * 2 ^ 66)) 0 with library := [wave0] } (.play true false false 0 0 0 0) = true
    ∧ ((lane0 { watching 0 0 with library := [wave0] }).devAt 1).watchWaits 0 = false
    ∧ (watching 0 0).watchFires (((lane0 { watching 0 0 with library := [wave0] }).devAt 0).cutoff 0 1) = some (watch0 0)
    ∧ runs (stand (grain 32 0)) (.play false false false 0 0 0 0) = true ∧ ((stand (grain 32 0)).entryOf 0).length = 0 := by decide

/-- Lane 0 of a shot from tick 1000 on opens slot 0 of an alternate group in provisional mode; the device's speculation limit is `limit`. -/
def opensAlt (limit : Nat) : State :=
  on { (up.put Obj.devSpeculationLimit limit).setDrill 0 { stand (grain 5 0) with mode := modeProvisional, alt := some (altGroup []) } with
    groups := [(64, { Group.init with inShot := true, members := [0], took := [0], origin := 1000 })] }

theorem test_AlternateGroupsOpenAndClose :
    runs { stand (grain 5 0) with mode := modeStrict, alt := some (altGroup []) } (.altOpen 0 0 0 0 0) = true
    ∧ runs { stand (grain 5 0) with mode := modeStrict } (.altOpen 0 0 0 0 0) = true
    ∧ (opensAlt 0).dev.live = true ∧ ((opensAlt 0).devAt 0).nextOp 0 = some (.altOpen 0 0 0 0 0) ∧ ((opensAlt 1).devAt 0).altFree 0 0 = true
    ∧ 40 ≤ ((opensAlt 1).devAt 0).cursorTime 0 0 ∧ ((opensAlt 1).devAt 0).finalItem 0 (((opensAlt 1).devAt 0).shotNo 0) 1000 0 = none
    ∧ ((opensAlt 1).devAt 0).vptInUse < (opensAlt 1).dev.val Obj.devSpeculationLimit ∧ ((opensAlt 1).devAt 0).freeEntry < 1024
    ∧ (opensAlt 0).dev.val Obj.devSpeculationLimit ≤ ((opensAlt 0).devAt 0).vptInUse
    ∧ runs { stand (grain 5 (2 ^ 65)) with alt := some (altGroup [altOpen0 0 none]) } .altClose = true
    ∧ runs { stand (grain 5 (2 ^ 65)) with alt := some (altGroup [altOpen0 0 (some 0)]) } .altClose = true := by decide +kernel

/-- Lane 0 waits at the close of a group whose slot 0 turns on its item. -/
def atClose (value : Nat) : State := seen { stand 0 with run := .waitAlt, alt := some (altGroup [altOpen0 value none]) }

theorem test_AlternatesResolvePlayAndEnd :
    (atClose 0).dev.live = true ∧ ((atClose 0).devAt 0).chosenAlt 0 (altGroup [altOpen0 0 none]) = some none
    ∧ ((atClose 1).devAt 0).chosenAlt 0 (altGroup [altOpen0 1 none]) = some (some (altOpen0 1 none))
    ∧ (((atClose 1).devAt 0).openItem 0 (altGroup [altOpen0 1 none]) (altOpen0 1 none)).map Item.void = some false
    ∧ ((atClose 1).devAt 0).altFree 0 0 = true ∧ ((atClose 1).devAt 0).groupEntries 0 (((atClose 1).devAt 0).cursorTime 0 0) = []
    ∧ (on (up.setChain 0 { Chain.init with alt0 := some alt0 })).dev.live = true ∧ alt0.needs Chain.init ≤ alt0.granules.length
    ∧ [(0, entry0 .confirmed)].filter (fun p => p.2.lane = 0) = [(0, entry0 .confirmed)]
    ∧ ((on (up.setChain 0 { Chain.init with alt0 := some { alt0 with releaseStamp := 41 } })).devAt 0).now + 40 < 41
    ∧ alt0.releaseStamp ≤ ((on (up.setChain 0 { Chain.init with alt0 := some alt0 })).devAt 0).now + 40
    ∧ ({ alt0 with playing := true } : AltSlot).releaseStamp + 64 * alt0.length ≤ ((on up).devAt 0).now := by decide

/-- The branch entry 0 of lane 0, with its slot and item. -/
def pendingEntry (v : VptEntry) : State :=
  let s := seen { stand 0 with shadow := some shadow0, cursor := 16 }
  { s with dev := ({ s.dev with vpt := [(0, v)] } : Dev).setChain 0 { Chain.init with alt0 := some alt0 } }

theorem test_EntriesAreStagedAndResolved :
    (pendingEntry (entry0 .staging)).dev.live = true ∧ ((pendingEntry (entry0 .staging)).dev.drill 0).shadow = some shadow0
    ∧ shadow0.cursor + 16 ≤ ((pendingEntry (entry0 .staging)).dev.drill 0).cursor
    ∧ ((pendingEntry (entry0 .staging)).dev.chain 0).alt 0 = some alt0 ∧ alt0.granules.length = alt0.length
    ∧ (pendingEntry (entry0 .staging)).dev.vpt.filter (fun p => p.2.fid = 0) = [(0, entry0 .staging)]
    ∧ (((pendingEntry (entry0 .staged)).devAt 0).entryItem (entry0 .staged)).map (fun x => (x.void, (entry0 .staged).holds x)) = some (false, true)
    ∧ (((pendingEntry { entry0 .staged with value := 0 }).devAt 0).entryItem { entry0 .staged with value := 0 }).map
        (fun x => (x.void, ({ entry0 .staged with value := 0 } : VptEntry).holds x)) = some (false, false)
    ∧ (entry0 .staged).fid = 0 ∧ ((pendingEntry (entry0 .staged)).devAt 0).now ≤ (entry0 .staged).release := by decide

/-! ### Witnesses: shots, issue and arrival -/

/-- Lane 0 alone at the join of its own group, started or not. -/
def atJoin (started : Bool) (mode : Nat) : State :=
  on { (up.put (Obj.laneProgram 0) (9 * 2 ^ 32)).setDrill 0 { stand (grain 2 (mode * 2 ^ 64)) with run := .atJoin } with
    groups := [(64, { Group.init with started := started, members := [0] })] }

theorem test_JoinsBeginTheShotOfAllMembers :
    (atJoin true 0).dev.live = true ∧ ((atJoin true 0).devAt 0).joinLanes 64 = [0] ∧ ((atJoin false 0).devAt 0).joinLanes 64 = [0]
    ∧ ((atJoin true 0).devAt 0).joinReady 0 = true ∧ ((atJoin false 0).devAt 0).joinReady 0 = true
    ∧ (((atJoin true 0).dev.drill 0).grain 0).map decodeGrain = some (.shotBegin 0 0 0)
    ∧ ((atJoin true 0).devAt 0).originOf ((atJoin true 0).dev.group 64) 0 0 0 0 = .at 0 0 0
    ∧ (((atJoin true 1).dev.drill 0).grain 0).map decodeGrain = some (.shotBegin 1 0 0)
    ∧ SMap.find ((atJoin true 1).dev.drill 0).latches 0 = none := by decide

/-- Lane 0 in a shot of group 0 with lane 1, which has ended its part or not. -/
def twoLanes (ended : List (Nat × Nat)) : State :=
  let d := (up.put (Obj.laneShotGroup 0) 0).setDrill 0 (stand (grain 3 0))
  on { d with groups := [(0, { Group.init with started := true, inShot := true, members := [0, 1], took := [0, 1], ended := ended })] }

/-- Group 0's shot goes on when lane 0 leaves it. -/
theorem test_ShotInstructionsOutsideTheShot_goesOn :
    ({ (twoLanes []).dev.group 0 with members := ((twoLanes []).dev.group 0).members.filter (fun m => m != 0) } : Group).allEnded = false := by decide

theorem test_ShotEndEndsTheLanesPart :
    (twoLanes []).dev.live = true ∧ ((twoLanes []).devAt 0).nextOp 0 = some .shotEnd ∧ ((twoLanes []).devAt 0).groupOf 0 = 0
    ∧ ((twoLanes []).dev.group 0).inShot = true ∧ (∃ m ∈ ((twoLanes []).dev.group 0).members, m ≠ 0 ∧ ∀ p ∈ ((twoLanes []).dev.group 0).ended, p.1 ≠ m)
    ∧ (((twoLanes []).devAt 0).commitOf (Obj.laneCommit 0)).waits 2 = false
    ∧ (∀ m ∈ ((twoLanes [(1, 0)]).dev.group 0).members, m = 0 ∨ ∃ p ∈ ((twoLanes [(1, 0)]).dev.group 0).ended, p.1 = m)
    ∧ (twoLanes [(1, 0)]).dev.vpt = [] ∧ (twoLanes [(1, 0)]).dev.commits = [] := by decide

/-- One granule waiting at the issue port, urgent and inside a reservation. -/
def job0 : PlayJob :=
  { waveform := 0, amplitude := 0, frame := 0, phase := 0, start := 0, next := 0, length := 1, streamed := false, urgent := true, altSlot := none
    reserved := true, shot := 0, tsOrigin := 0, first := true, last := false, seg := none, streamAt := 0, why := 6 }

theorem test_TheIssuePortServesOneGranule :
    chooseClaim (((lane0 { stand 0 with ready := [job0] }).devAt 0).claims 0) = some { lane := 0, urgent := true, passed := 0, release := releaseTick 0 0 }
    ∧ ((lane0 { stand 0 with ready := [job0] }).devAt 0).issuable 0 = some job0
    ∧ (lane0 { stand 0 with ready := [job0] }).dev.val (Obj.stripState 0) = 0 ∧ (lane0 { stand 0 with ready := [job0] }).dev.live = true :=
  ⟨rfl, by decide, by decide, by decide⟩

/-- A granule with a stamp. -/
def granule (stamp : Nat) : Granule :=
  { stamp := stamp, first := true, last := false, shotTag := 0, streamed := false, phase := 0, frame := 0, samples := [(0, 0), (0, 0), (0, 0), (0, 0)]
    allowance := 0, shot := 0, urgent := false, altSlot := none, reserved := false, seg := none, why := 6 }
/-- The block with lane 0's chain. -/
def chain0 (c : Chain) : State := on (up.setChain 0 c)

/-- A stamp two ticks and the pipeline ahead is on time at tick 0, whatever the pipeline's length. -/
theorem stamp_on_time (n : Nat) : releaseTick 0 (n + Config.pipelineTicks 0) = n := Nat.add_sub_cancel ..

/-- The granule two ticks ahead of its arrival's limit. -/
def soon : Granule := granule (2 + Config.pipelineTicks 0)

theorem test_ArrivalsAreOnTimeOrNotCarriedOut : 0 + 2 ≤ releaseTick 0 soon.stamp := Nat.le_of_eq (stamp_on_time 2).symm
theorem test_ArrivalsAreOnTimeOrNotCarriedOut_late : releaseTick 0 0 < 0 + 2 := Nat.lt_of_le_of_lt (Nat.sub_le ..) (by decide)
theorem test_ArrivalsAreOnTimeOrNotCarriedOut_forms :
    (chain0 { Chain.init with flight := [soon] }).dev.live = true ∧ soon.altSlot = none ∧ Chain.init.lastStamp = none
    ∧ ({ Chain.init with flight := [granule 0], muteFrom := some 0 } : Chain).discards (granule 0) = true
    ∧ ((chain0 { Chain.init with timed := [⟨.window 0 2 0, 6⟩] }).devAt 0).now + 2 ≤ 2 ∧ Chain.init.frameQ.length < 16
    ∧ Chain.init.firstRelease 0 0 = none ∧ Chain.init.last = none := by decide

/-- The granule whose release tick is `n`. -/
def releasedAt (n : Nat) : Granule := granule (n + Config.pipelineTicks 0)
/-- Lane 0's chain with RF on. -/
def radiating (c : Chain) : State := on ((up.put Obj.devRfEnable 1).setChain 0 c)

theorem test_TheConverterDieActsOnTime : ((radiating { Chain.init with furrow := [releasedAt 0] }).devAt 0).now = releaseTick 0 (releasedAt 0).stamp :=
  (stamp_on_time 0).symm
theorem test_TheConverterDieActsOnTime_early :
    ((radiating { Chain.init with furrow := [releasedAt 1] }).devAt 0).now ≠ releaseTick 0 (releasedAt 1).stamp :=
  fun h => absurd (h.trans (stamp_on_time 1)) (by decide)
theorem test_TheConverterDieActsOnTime_forms :
    (radiating { Chain.init with furrow := [releasedAt 0] }).dev.live = true
    ∧ (radiating { Chain.init with furrow := [releasedAt 0] }).dev.flag Obj.devRfEnable = true
    ∧ (radiating Chain.init).dev.val Obj.timeRefState = 0 ∧ (on (up.put Obj.timeRefState 1)).dev.val Obj.timeRefState ≠ 0
    ∧ (on up).dev.faults.safe = 0 ∧ Timed.due 0 (.pin 3 1 0 0) = true ∧ Timed.due 0 (.event 5 0) = true ∧ (0 : Nat) < 0 + max 0 10
    ∧ SMap.find up.pinSets 3 = none ∧ (on up).dev.pulses = [] ∧ (on up).dev.router.waves.length < 64
    ∧ ((chain0 { Chain.init with frameQ := [.frame 0 0 0 0 false] }).devAt 0).now ≥ 0
    ∧ ((chain0 { Chain.init with frameQ := [.frame 0 0 0 9 false] }).devAt 0).now < 9
    ∧ ((((chain0 { Chain.init with sums := [(0, 0, 0)] }).devAt 0).runTail 0).chain 0).sums = (0, 0, 0) :: [] := by decide +kernel

/-! ### Witnesses: tables, streams, long programs -/

/-- Lane 0 at `seg 0` of a table with this one entry. -/
def segAt (entry : Nat) (walk : Option SegWalk) : State :=
  lane0 { stand (grain 22 0) with table := [0, 0, entry], library := [wave0], seg := walk }
/-- The walk at its first repetition of entry 0. -/
def walk0 : SegWalk := { entry := 0, rep := 1, entryStart := 0, prev := none }

/-- An entry of two repetitions and no end, left on condition 1, whose event has come at tick 0 or not. -/
def segLeft (seen : Bool) : State :=
  lane0 { stand (grain 22 0) with
    table := [0, 0, 2 * 2 ^ 36 + 2 ^ 18 + 2 ^ 21], library := [wave0], seg := some walk0, latches := if seen then [(0, { tick := 0, ps := 0 })] else [] }

theorem test_SegmentTablesPlayEntryByEntry :
    ((segAt (2 ^ 36 + 2 ^ 18) none).devAt 0).nextOp 0 = some (.seg 0) ∧ ((segAt 0 none).dev.drill 0).run = .inShot ∧ (segAt 0 none).dev.live = true
    ∧ ((segAt 0 none).devAt 0).watchWaits 0 = false
    ∧ runs { watching (grain 22 0) 0 with table := [0, 0, 2 ^ 36 + 2 ^ 18] } (.seg 0) = true ∧ ((lane0 (watching 0 1)).devAt 0).watchWaits 0 = true
    ∧ (((segLeft true).dev.drill 0).segEntry 0).cond ≠ 0 ∧ ((segLeft true).devAt 0).now < ((segLeft true).devAt 0).cutoff 0 0 + 200
    ∧ ((segLeft true).devAt 200).cutoff 0 0 + 200 ≤ ((segLeft true).devAt 200).now
    ∧ ((segLeft true).dev.drill 0).segEvent walk0 = some { tick := 0, ps := 0 } ∧ ((segLeft false).dev.drill 0).segEvent walk0 = none
    ∧ ((segLeft true).devAt 200).endWaits 0 0 = false ∧ ((lane0 (watching 0 0)).devAt 0).endWaits 0 1 = true
    ∧ ({ tick := 0, ps := 0 } : EvTime).by 0 = true ∧ ({ tick := 0, ps := 1 } : EvTime).past 0 = true
    ∧ ((segAt (2 ^ 36 + 2 ^ 18) none).dev.drill 0).segPlays 4096 0 = some 0 ∧ ((segAt (2 ^ 18) none).dev.drill 0).segPlays 4096 0 = none
    ∧ ((segAt (2 ^ 36 + 2 ^ 18) none).dev.drill 0).segStart = ((segAt (2 ^ 36 + 2 ^ 18) none).dev.drill 0).cursor
    ∧ (((segAt (2 * 2 ^ 36 + 2 ^ 18) (some walk0)).dev.drill 0).segEntry 0).cond = 0
    ∧ walk0.rep < (((segAt (2 * 2 ^ 36 + 2 ^ 18) (some walk0)).dev.drill 0).segEntry 0).rep
    ∧ (((segAt (2 ^ 36 + 2 ^ 18) (some walk0)).dev.drill 0).segEntry 0).rep ≤ walk0.rep
    ∧ (((segAt (2 ^ 36 + 2 ^ 18) (some walk0)).dev.drill 0).segEntry 0).last = true
    ∧ ((segAt (2 ^ 36 + 2 ^ 18) (some walk0)).devAt 0).horizonOk 0 (0 - 1) = true := by decide

/-- A streamed waveform of 64 granules in region 0. -/
def streamed0 : LibEntry := { length := 64, stream := true, offset := 0, region := 0, energySum := 0, peak := 0, data := [] }
/-- Memory ready, region 0 is partition 0's with 2 MiB, lane 0 partition 0's with grants. -/
def withMemory (r : Drill) : State :=
  let d := ((((up.put Obj.memState 3).put (Obj.memRegion 0 0) (2 ^ 17)).put (Obj.laneStreamRate 0) 1).put (Obj.laneFetchGranted 0) 1)
  on (((d.put (Obj.laneStreamBuffer 0) 128).put (Obj.laneFetchRate 0) 1).setDrill 0 r)

theorem test_LaneFetchesAreClassOneRequests :
    let r := { stand 0 with library := [(0, streamed0)], streamSeq := [0] }
    let s := withMemory r
    s.dev.live = true ∧ s.dev.val Obj.memState = 3 ∧ s.dev.val (Obj.stripState (stripOf 0)) = 0 ∧ (s.devAt 0).streamEnd 0 = 0
    ∧ 0 < s.dev.val (Obj.laneStreamRate 0) ∧ 0 < (r.streams.map LibEntry.length).sum
    ∧ 0 + min 64 (streamed0.length - 0) ≤ s.dev.val (Obj.laneStreamBuffer 0) + r.streamWant
    ∧ seekStream r.streams (0 % (r.streams.map LibEntry.length).sum) = some (streamed0, 0)
    ∧ (s.devAt 0).reach (actsFor ((s.devAt 0).laneOwner 0)) 0 (0 + 18 * 0) 1152 = true
    ∧ 0 < (withMemory { stand 0 with length := 4096 }).dev.val (Obj.laneFetchRate 0)
    ∧ ((withMemory { stand 0 with length := 4096 }).devAt 0).nextLine 0 = some 0
    ∧ (let d := (withMemory { stand 0 with length := 4096 }).devAt 0
      d.reach (actsFor (d.laneOwner 0)) (domRegion (d.val (Obj.laneProgram 0))) (domOffset (d.val (Obj.laneProgram 0)) + 576 * 0) 576 = true) := by
  decide +kernel

/-! ### Witnesses: the object dictionary -/

/-- A path other than CAN is there, and a response needs no hypothesis but its path. -/
theorem test_ResponsesLeaveOnTheirPath :
    Path.function .pf0 = some 0 ∧ (up.fn 0).stale = []
    ∧ ((up.setFn 0 { FnSt.init with stale := [[1]] }).fn 0).stale = [1] :: [] := by decide

/-- The link is up. -/
def linked : Dev := up.put Obj.pcieLinkState 2
/-- A request for an object. -/
def asks (index sub typ : Nat) (data : List Byte) : Request := { tag := 0, index := index, sub := sub, typ := typ, data := data }

theorem test_ReadsAnswerAndChangeNothing :
    (on linked).dev.live = true ∧ ((on linked).devAt 0).pathThere .pf0 = true ∧ ((on linked).devAt 0).pathOpen .pf0 = true
    ∧ ((on linked).devAt 0).mayRead 0 0x3000 2 = true ∧ (rowAt 0x1000 0).isSome = true
    ∧ (rowAt (keyIndex Obj.timeSnapshot) (keySub Obj.timeSnapshot)).map Row.acc = some .wo
    ∧ (memberOf (keyIndex (Obj.laneHorizon 0)) (keySub (Obj.laneHorizon 0))).isSome = true
    ∧ (rowAt (keyIndex (Obj.laneHorizon 0)) (keySub (Obj.laneHorizon 0))).map Row.acc = some .rwc
    ∧ (rowAt 0x3000 0).isNone = true ∧ indexExists 0x3000 = true ∧ 1 < highestSub 0x3000
    ∧ ((on (linked.put Obj.canNmtState 5)).devAt 0).pathThere .can = true
    ∧ ((on linked).devAt 0).onPath .pf0 1 (asks 0x3000 2 0 []) = some (asks 0x3000 2 0 []) := by decide +kernel

/-- Physical function 0 has submitted a record. -/
def submitted (record : List Byte) : State := on (linked.setFn 0 { FnSt.init with mailbox := 1, request := record })

/-- The record in the mailbox is the request served, and an operation it does not ask for is not. -/
theorem test_ReadsAnswerAndChangeNothing_submitted :
    ((submitted [1, 7, 0, 0x10]).devAt 0).onPath .pf0 1 (asks 0 0 0 []) = some { tag := 7, index := 0x1000, sub := 0, typ := 0, data := [] }
    ∧ ((submitted [3, 7, 2, 0x30, 2]).devAt 0).onPath .pf0 3 (asks 0 0 0 []) = some { tag := 7, index := 0x3002, sub := 2, typ := 0, data := [] }
    ∧ ((submitted [2]).devAt 0).pathThere .pf0 = true ∧ (((submitted [2]).devAt 0).fn 0).mailbox = 1
    ∧ field (((submitted [2]).devAt 0).fn 0).request 0 1 ≠ 1 := by decide +kernel

theorem test_WritesStageOrAreRefused :
    admits (on linked) .pf0 (Obj.laneHorizon 0) = true ∧ ((on linked).devAt 0).onPath .pf0 2 (asks 0 0 0 []) = some (asks 0 0 0 [])
    ∧ (on linked).dev.nv.pending = [] ∧ keyIndex Obj.canNodeId < 0x3200
    ∧ ((rowAt (keyIndex (Obj.laneHorizon 0)) (keySub (Obj.laneHorizon 0))).map (fun r => r.valueAbort (leBytes r.ty.size 8192))) = some 0
    ∧ ((rowAt (keyIndex (Obj.laneHorizon 0)) (keySub (Obj.laneHorizon 0))).map (fun r => r.valueAbort [])) ≠ some 0
    ∧ ((on linked).devAt 0).foreignChannel (keyIndex (Obj.laneHorizon 0)) (keySub (Obj.laneHorizon 0)) 8192 = false
    ∧ (memberOf (keyIndex (Obj.laneHorizon 0)) (keySub (Obj.laneHorizon 0))).isSome = true
    ∧ (((on linked).devAt 0).commitOf (Obj.laneCommit 0)).status ≠ 2
    ∧ (rowAt 0x1000 0).map Row.acc = some .konst ∧ admits (on linked) .pf0 (Obj.canNodeId) = true
    ∧ (rowAt (keyIndex Obj.canNodeId) (keySub Obj.canNodeId)).map Row.acc = some .nv
    ∧ memberOf (keyIndex Obj.canNodeId) (keySub Obj.canNodeId) = none ∧ (on linked).dev.val Obj.devNvWear < 100000 := by decide +kernel

theorem test_MailboxesTakeOneRequestAtATime :
    (on linked).dev.live = true ∧ (on linked).dev.val Obj.pcieLinkState = 2 ∧ 0 ≤ (on linked).dev.val Obj.pcieNumVfs
    ∧ (linked.fn 0).mailbox ≠ 1 ∧ field [1] 0 1 = 1 ∧ 5 < field [6] 0 1 ∧ field [0] 0 1 = 0
    ∧ bit ((on linked).dev.val Obj.devPartitionsEnabled) 1 = false ∧ (0x1000 : Nat) < 0x10000 ∧ 0x1000 % 4 = 0 ∧ 0x1001 % 4 ≠ 0
    ∧ ((linked.setFn 0 { FnSt.init with mailbox := 1 }).fn 0).mailbox = 1 ∧ ((linked.setFn 0 { FnSt.init with mailbox := 2 }).fn 0).mailbox = 2 := by
  decide +kernel

/-- The CAN port operational, with this transfer. -/
def onCan (x : Option (Nat × Nat × Nat)) : State := on (((up.put Obj.canNmtState 5).put Obj.devCanWriteMask 31).setTransfer x)

theorem test_CanTransfersAreAnswered :
    (onCan none).dev.live = true ∧ 1 ≠ 0x600 + (onCan none).dev.can.nodeId ∧ ((onCan none).devAt 0).pathThere .can = true ∧ (onCan none).dev.can.transfer = none
    ∧ (((onCan none).devAt 0).answerRead .can (usdoRequest 0x1000 0 [])).data.length ≤ 4
    ∧ 4 < (((onCan none).devAt 0).answerRead .can (usdoRequest (keyIndex (Obj.laneProgram 0)) (keySub (Obj.laneProgram 0)) [])).data.length
    ∧ ((rowAt (keyIndex (Obj.laneProgram 0)) (keySub (Obj.laneProgram 0))).map (fun r => decide (4 < r.ty.size))) = some true
    ∧ (rowAt (keyIndex Obj.timeStepCount) (keySub Obj.timeStepCount)).isSome = true
    ∧ admits (onCan none) .can (Obj.laneHorizon 0) = true
    ∧ (onCan (some (0x1008, 0, 0))).dev.can.transfer = some (0x1008, 0, 0) ∧ 0 + ticksS ≤ ((onCan none).devAt ticksS).now := by decide +kernel

/-! ### Witnesses: commits -/

/-- Lane 0's commit object with this status, its drill at rest or in a shot. -/
def commit0 (c : CommitSt) (r : Drill) : State := on (({ (linked.setDrill 0 r) with commits := [(Obj.laneCommit 0, c)] } : Dev))
/-- Lane 0 in a shot of its own group. -/
def inShot0 (c : CommitSt) : State :=
  let s := commit0 c (stand 0)
  { s with dev := { s.dev with groups := [(64, { Group.init with started := true, inShot := true, members := [0], took := [0] })] } }

theorem test_CommitWritesAreAcceptedRefusedOrCancelled :
    let key := Obj.laneCommit 0
    let d := (commit0 CommitSt.init Drill.init).devAt 0
    let taken := (d.setCommit key { CommitSt.init with status := 2, boundary := 1, acceptedAt := d.now, loading := false, path := Path.number .pf0, carried := none }).askLoads
      [] 0 .lane 0
    commitAt (keyIndex key) (keySub key) = some (.lane, 0) ∧ admits (commit0 CommitSt.init Drill.init) .pf0 key = true
    ∧ ((commit0 { CommitSt.init with status := 2 } Drill.init).dev.commitOf key).status = 2
    ∧ (let f := Obj.laneDigitalGain 0
      memberOf (keyIndex f) (keySub f) = some (.lane, 0) ∧ ((commit0 { CommitSt.init with status := 2 } Drill.init).devAt 0).writeGate .pf0 f = 0
        ∧ (rowAt (keyIndex f) (keySub f)).map (fun r => (r.acc, decide (r.ty = .domain), r.valueAbort (leBytes r.ty.size 1))) = some (.rwc, false, 0)
        ∧ ((commit0 { CommitSt.init with status := 2 } Drill.init).devAt 0).foreignChannel (keyIndex f) (keySub f) 1 = false)
    ∧ commitAt 0x2010 0x10 = some (.feedback, 0) ∧ bit (boundaryMask .feedback) 1 = false ∧ admits (on linked) .pf0 (0x2010 * 256 + 0x10) = true
    ∧ (commit0 CommitSt.init Drill.init).dev.val Obj.memState ≠ 4 ∧ d.faultHolds = false ∧ d.power.preparing = false ∧ d.groupVoid .lane 0 = false ∧ d.groupCheck [] .lane 0 none = (d, 0) ∧ d.needsLoad .lane 0 1 = false ∧ d.groupIdle .lane 0 = true
    ∧ d.readsLive .lane 0 = false ∧ taken.readsLive .lane 0 = false ∧ taken.groupCheck [] .lane 0 none = (taken, 0)
    ∧ ((inShot0 CommitSt.init).devAt 0).groupIdle .lane 0 = false ∧ ((inShot0 CommitSt.init).dev.drill 0).segEnds = []
    ∧ ((inShot0 CommitSt.init).dev.group (((inShot0 CommitSt.init).devAt 0).groupOf 0)).inShot = true
    ∧ ((inShot0 CommitSt.init).devAt 0).groupCheck [] .lane 0 none = ((inShot0 CommitSt.init).devAt 0, 0)
    ∧ ({ stand 0 with segEnds := [64] } : Drill).segEnds.filter (fun e => ((inShot0 CommitSt.init).devAt 0).now < e) = [64]
    ∧ commitAt 0x2000 9 = some (.device, 0) ∧ bit (boundaryMask .device) 0 = false ∧ admits (on linked) .pf0 Obj.devCommit = true
    ∧ commitAt (keyIndex (Obj.laneDacCommit 0)) (keySub (Obj.laneDacCommit 0)) = some (.dac, 0) ∧ bit (boundaryMask .dac) 2 = false
    ∧ admits (on linked) .pf0 (Obj.laneDacCommit 0) = true := by decide +kernel

theorem test_AppliedCommitsBringTheStagedValues :
    GKind.plain .lane = true ∧ (up.commitOf (Obj.laneCommit 0)).carried = none
    ∧ Obj.laneDigitalGain 0 ∈ ({ up with staged := [(Obj.laneDigitalGain 0, (1, 0))] } : Dev).stagedKeys .lane 0 := by decide +kernel

theorem test_PendingCommitsTakeEffectAtTheirBoundary :
    let pend := { CommitSt.init with status := 2, boundary := 2 }
    let d := (commit0 pend Drill.init).devAt 0
    d.boundaryDue .lane 0 pend = true ∧ d.readsLive .lane 0 = false ∧ d.groupCheck [] .lane 0 none = (d, 0)
    ∧ (commit0 pend Drill.init).dev.live = true
    ∧ (let e := ({ up with commits := [(0x220102, pend)] } : Dev).put Obj.devChangeRecordsLeft 32
      commitAt 0x2201 2 = some (.energyCeiling, 0) ∧ (e.commitOf 0x220102).status = 2 ∧ ((on e).devAt 0).boundaryDue .energyCeiling 0 pend = true
        ∧ 5 < e.val Obj.devChangeRecordsLeft ∧ ((on e).devAt 0).groupCheck [] .energyCeiling 0 none = ((on e).devAt 0, 0))
    ∧ (let load := { CommitSt.init with status := 2, boundary := 1, loading := true }
      let f := ({ up with commits := [(Obj.slotKernelCommit 0, load)] } : Dev)
      let loaded := ((on f).devAt 0).setCommit (Obj.slotKernelCommit 0) { load with loading := false }
      (f.commitOf (Obj.slotKernelCommit 0)).loading = true ∧ loaded.groupCheck [] .kernel 0 none = (loaded, 0)) := by decide +kernel

theorem test_NvValuesGoToFlash : (on { up with nv := { up.nv with pending := [Obj.canNodeId] } }).dev.nv.pending ≠ []
    ∧ (on { up with nv := { up.nv with pending := [Obj.canNodeId] } }).dev.live = true := by decide

/-! ### Witnesses: lanes and RF -/

/-- RF is on and lane 0 has a program. -/
def armed (r : Drill) : State := on (((linked.put Obj.devRfEnable 1).put (Obj.laneProgram 0) (9 * 2 ^ 32)).setDrill 0 r)

/-- The link is up and every bias output is at its target. -/
def settled : Dev := { linked with biases := [] }

theorem test_LanesAndRfStartAndStop :
    admits (armed Drill.init) .pf0 (Obj.laneRun 0) = true ∧ ((armed Drill.init).devAt 0).hasProgram 0 = true
    ∧ (armed Drill.init).dev.flag Obj.devRfEnable = true ∧ ((armed Drill.init).devAt 0).laneOwner 0 ≠ 15
    ∧ ((armed Drill.init).devAt 0).unitState 0 = 0 ∧ ((armed Drill.init).dev.drill 0).runs = false
    ∧ (on linked).dev.flag Obj.devRfEnable = false ∧ admits (armed (stand 0)) .pf0 (Obj.laneRun 0) = true
    ∧ admits (armed { stand 0 with run := .between }) .pf0 (Obj.laneRun 0) = true
    ∧ admits (on settled) .pf0 Obj.devRfEnable = true ∧ ((on settled).devAt 0).devState = 1
    ∧ (∀ l ∈ allLanes, ((on settled).devAt 0).biasState l ≠ 2 ∧ ((on settled).devAt 0).biasState l ≠ 4)
    ∧ admits (on (up.put Obj.canNmtState 5)) .can Obj.devRfEnable = true
    ∧ ((on ((linked.put Obj.pcieNumVfs 8).put Obj.devPartitionsEnabled 511)).devAt 0).pathThere (.vf 1) = true
    ∧ ((on ((linked.put Obj.pcieNumVfs 8).put Obj.devPartitionsEnabled 511)).devAt 0).pathOpen (.vf 1) = true
    ∧ Path.partition (.vf 1) ≠ 0 := by decide +kernel

/-! ### Witnesses: read-out, verdict frames, bias outputs, the monitor converter -/

/-- Slot 0 with this state; its windows are 16 intervals long. -/
def slot0 (x : SlotSt) : State := on ((up.put (Obj.slotWindowLength 0) 16).setSlot 0 x)
/-- A window asked for at tick 0. -/
def req0 : WinReq := { slot := 0, start := 0, stop := 512, lane := 0, shot := 0, late := false }
/-- An open window of 16 intervals. -/
def win0 : OpenWin :=
  { start := 0, length := 16, done := 0, accI := 0, accQ := 0, history := [], kernel := [], freq := 0, phase := 0, origin := 0, enable := 0
    normals := [], offsets := [], regionMap := 0, margins := [], zone := 0, provEnable := false, provisional := none, clipped := false, saturated := false
    shot := 0, group := 0 }

/-- The window that may issue a provisional verdict at its first checkpoint. -/
def winProv : OpenWin := { win0 with provEnable := true, margins := List.replicate 20 1 }

theorem test_WindowsOpenRunAndGiveTheirVerdict :
    (slot0 { SlotSt.init with asked := [req0] }).dev.live = true ∧ (slot0 SlotSt.init).dev.val (Obj.tileState (tileOfSlot 0)) = 0
    ∧ ((slot0 SlotSt.init).devAt 0).calInterrupts 1 0 = false ∧ (slot0 SlotSt.init).dev.val (Obj.slotWindowLength 0) ≠ 0
    ∧ (slot0 SlotSt.init).dev.val Obj.timeRefState = 0
    ∧ SlotSt.init.lastEnd ≤ req0.start ∧ req0.start < ({ SlotSt.init with lastEnd := 1 } : SlotSt).lastEnd
    ∧ ((({ SlotSt.init with win := some win0 } : SlotSt).windows.zip (List.range 8)).find? (fun p => p.1.nextCheck < p.1.length)) = some (win0, 0)
    ∧ ({ SlotSt.init with closing := [win0], win := some win0 } : SlotSt).windows = win0 :: [win0]
    ∧ ((slot0 SlotSt.init).devAt 0).now < win0.start + 32 * win0.nextCheck + 140 ∧ 0 + 32 * 5 + 140 ≤ ((slot0 SlotSt.init).devAt 300).now
    ∧ win0.stop + 140 ≤ ((slot0 SlotSt.init).devAt 652).now ∧ (slot0 SlotSt.init).dev.cellsInUse = []
    ∧ 0 + 140 ≤ ((slot0 { SlotSt.init with voids := [(0, 512, 0, 0)] }).devAt 140).now := by decide +kernel
theorem test_WindowsOpenRunAndGiveTheirVerdict_provisional : ∃ v, (OpenWin.feed (winProv.nextCheck - winProv.done) winProv []).provisionalAt = some v :=
  ⟨_, rfl⟩
theorem test_WindowsOpenRunAndGiveTheirVerdict_none : (OpenWin.feed (win0.nextCheck - win0.done) win0 []).provisionalAt = none := by decide

/-- Port 0 is active and remote register 0 takes fabric ID 5 of it at 0 ticks behind the origin of group 0's shot. -/
def remote0 : State :=
  let d := (up.put (Obj.ggPortState 0) 4).put (Obj.fbRemoteIn 0) (2 ^ 13 + 5)
  on { d with groups := [(0, { Group.init with inShot := true })] }

theorem test_VerdictFramesReachTheirRegisters :
    remote0.dev.live = true ∧ (remote0.devAt 0).portActive 0 = true
    ∧ (bit (remote0.dev.val (Obj.fbRemoteIn 0)) 13 = true ∧ bits (remote0.dev.val (Obj.fbRemoteIn 0)) 12 11 = 0
      ∧ bits (remote0.dev.val (Obj.fbRemoteIn 0)) 10 0 = 5)
    ∧ (remote0.dev.group (bits (remote0.dev.val (Obj.fbRemoteIn 0)) 25 20)).inShot = true
    ∧ (0 : Nat) = (remote0.dev.group 0).origin + bits (remote0.dev.val (Obj.fbRemoteIn 0)) 63 32
    ∧ (∀ r, r < 64 → bit (remote0.dev.val (Obj.fbRemoteIn r)) 13 = true → r = 0) ∧ remote0.dev.cellsInUse = []
    ∧ (∀ r, r < 64 → bits (remote0.dev.val (Obj.fbRemoteIn r)) 10 0 ≠ 6) := by decide +kernel

/-- Lane 0's bias output. -/
def bias0 (b : BiasOut) : State := on (up.setBias 0 b)
/-- At rest, with a target away. -/
def out0 : BiasOut := { code := 131072, target := 0, move := .normal, lastStep := none, effect := 5, byRequest := false, heldTill := 0, failed := false }

theorem test_BiasOutputsFollowTheirTargets :
    (bias0 out0).dev.live = true ∧ ((chain0 { Chain.init with biases := [(0, 7)] }).dev.chain 0).biases = [(0, 7)]
    ∧ ((chain0 { Chain.init with biases := [(0, 7)] }).devAt 0).faultHolds = false
    ∧ [(0, 7)].filter (fun p => p.1 ≤ ((bias0 out0).devAt 0).now) = [] ++ [(0, 7)] ∧ up.power.preparing = false
    ∧ ((chain0 { Chain.init with biases := [(0, 7)] }).dev.biasOut 0).effect ≤ 0 ∧ 0 < ((bias0 out0).dev.biasOut 0).effect
    ∧ ((on { (up.setChain 0 { Chain.init with biases := [(0, 7)] }) with faults := { up.faults with safe := 1 } }).devAt 0).faultHolds = true
    ∧ out0.move ≠ .held ∧ out0.code ≠ out0.target ∧ ((bias0 out0).devAt 5).nextStep 0 out0 ≤ ((bias0 out0).devAt 5).now
    ∧ ((bias0 out0).devAt 5).calInterrupts 3 0 = false ∧ ((bias0 out0).devAt 4).now < ((bias0 out0).devAt 4).nextStep 0 out0
    ∧ bit (bias0 out0).dev.faults.sticky 3 = false := by decide +kernel

/-- The monitor converter in a mode, with entry 0 of 2 results of one integration of 1 line period. -/
def mon (mode : Nat) (m : Monitor) : State :=
  on { (linked.put Obj.monRunMode mode).put (Obj.monEntry 0) (2 ^ 51 + 2 * 2 ^ 24 + 2 ^ 10) with monitor := m }

theorem test_TheMonitorConverterRunsItsSequence :
    let m := up.monitor
    (mon 3 m).dev.live = true ∧ m.asked = [] ∧ (mon 3 m).dev.val Obj.monRunMode = 3 ∧ ({ m with phase := 2 } : Monitor).runs = true ∧ m.runs = false
    ∧ ((mon 3 m).devAt 0).monFrom m.entry = some 0 ∧ (mon 1 m).dev.val Obj.monRunMode ≠ 3 ∧ admits (mon 3 m) .pf0 Obj.monRestart = true
    ∧ ((mon 3 { m with phase := 1 }).dev.monitor).startedAt + 500000 ≤ ((mon 3 { m with phase := 1 }).devAt 500000).now
    ∧ ((mon 3 { m with phase := 2 }).devAt 10000000).monNextEnd ≤ 10000000 ∧ 0 + 1 < ((mon 3 { m with phase := 2 }).devAt 0).monField 0 39 24
    ∧ ({ m with asked := [3] } : Monitor).asked = 3 :: [] ∧ m.held = false ∧ ((on linked).devAt 0).monFrom 0 = none
    ∧ m.lent = false ∧ m.spareBusy + 30 * (mon 3 m).dev.val Obj.monLinePeriod ≤ ((mon 3 m).devAt (10 ^ 9)).now ∧ m.diodeTurn = 0
    ∧ m.spareBusy + (mon 3 m).dev.val Obj.monLinePeriod ≤ ((mon 3 m).devAt (10 ^ 9)).now
    ∧ ({ m with spareFresh := true } : Monitor).spareFresh = true ∧ SMap.look m.calTime m.active0 0 ≤ SMap.look m.calTime m.active1 0
    ∧ ((mon 3 { m with phase := 2 }).devAt 0).windowStarts false = true
    ∧ ¬(SMap.look [(m.active0, 1)] m.active0 0 ≤ SMap.look [(m.active0, 1)] m.active1 0)
    ∧ 0 < (on (up.put Obj.monRotatePeriod 1)).dev.val Obj.monRotatePeriod
    ∧ (on (up.put Obj.monRotatePeriod 1)).dev.val Obj.monLastRotation + 1 * 10000000000 ≤ ((on up).devAt 10000000000).now := by decide +kernel

/-! ### Witnesses: time -/

/-- Port 0 is active with this protocol role. -/
def ptp0 (role : Nat) : Dev := (linked.put (Obj.ggPortState 0) 4).put (Obj.ptpPortRole 0) role
/-- A follower with its epoch port trained. -/
def follower : Dev := ((ptp0 0).put Obj.timeEpochRole 2).put Obj.timeEpochPort 0
/-- The follower with this alignment state. -/
def aligning (e : Epoch) : State := on { follower with clock := { follower.clock with epoch := e } }

theorem test_WallTimeAndTheReference :
    (on linked).dev.live = true ∧ admits (on linked) .pf0 Obj.timeWallSet = true ∧ admits (on linked) .pf0 Obj.timeSnapshot = true
    ∧ (rowAt (keyIndex Obj.timeWallSet) (keySub Obj.timeWallSet)).map (fun r => r.valueAbort (leBytes r.ty.size 0)) = some 0
    ∧ (rowAt (keyIndex Obj.timeWallSet) (keySub Obj.timeWallSet)).map (fun r => decide (r.ty ≠ .domain)) = some true
    ∧ (on up).dev.flag Obj.timeOnFallback = false ∧ (on (up.put Obj.timeRefState 3)).dev.val Obj.timeRefState = 3
    ∧ (on (up.put Obj.timeFallbackAuto 0)).dev.flag Obj.timeFallbackAuto = false ∧ (on (up.put Obj.timeFallbackAuto 1)).dev.flag Obj.timeFallbackAuto = true ∧ (on up).dev.val Obj.timeRefState = 0
    ∧ 0 + 400 ≤ ((on up).devAt 400).now ∧ 100000 < (100001 : Int).natAbs ∧ (on (up.put Obj.timeRefState 1)).dev.val Obj.timeRefState = 1 := by
  decide +kernel

theorem test_FollowersAlignTheirEpoch :
    let e := up.clock.epoch
    (aligning e).dev.live = true ∧ ((aligning e).devAt 0).toAlign = true ∧ ((aligning e).devAt 0).exchanging = false ∧ e.retryAt = none ∧ e.offset = none ∧ e.lineTarget = 0
    ∧ ((aligning { e with retryAt := some 0 }).dev.clock.epoch).retryAt = some 0
    ∧ ((on ((ptp0 0).put Obj.timeEpochRole 1)).devAt 0).portActive 0 = true ∧ (on ((ptp0 0).put Obj.timeEpochRole 1)).dev.val Obj.timeEpochRole = 1
    ∧ (((on ((ptp0 0).put Obj.timeEpochRole 1)).devAt 0).received 0 2).discards 0 { emptyBody with kind := 1 } = false
    ∧ ((aligning { e with running := true, port := 0 }).devAt 0).exchanging = true
    ∧ ((aligning { e with running := true, port := 0 }).devAt 0).discards 0 { emptyBody with kind := 2 } = false
    ∧ ((aligning { e with running := true, port := 0 }).devAt 0).toAlign = true ∧ ((aligning { e with offset := some 7 }).devAt 1).now % 100 ≠ 0
    ∧ e.samples.length < 15 ∧ 15 ≤ ({ e with samples := List.replicate 15 (0, 0) } : Epoch).samples.length
    ∧ ((aligning { e with offset := some 7 }).devAt 0).quiet = true ∧ ((on (follower.setDrill 0 (stand 0))).devAt 0).quiet = false
    ∧ ((aligning { e with running := true }).devAt 0).portActive 0 = true ∧ (0 : Nat) = (aligning e).dev.val Obj.timeEpochPort
    ∧ ((aligning { e with offset := some 7 }).devAt 100).quiet = true ∧ ((aligning e).devAt 100).now % 100 = 0 ∧ ((aligning e).devAt 0).now < e.lineAt + 10000
    ∧ ({ e with line := 3, lineTarget := 4 } : Epoch).line < ({ e with line := 3, lineTarget := 4 } : Epoch).lineTarget
    ∧ e.lineAt + 10000 ≤ ((aligning e).devAt 10000).now ∧ (aligning e).dev.val Obj.timeGridState = 0 := by decide +kernel

theorem test_TimeMessagesAreSentAndTaken :
    (on (ptp0 1)).dev.live = true ∧ ((on (ptp0 1)).devAt 0).portActive 0 = true ∧ ((on (ptp0 1)).devAt 0).role 0 = 1
    ∧ ((on (ptp0 2)).devAt 0).role 0 = 2 ∧ (on (ptp0 2)).dev.val Obj.ptpDelayMechanism = 0
    ∧ (on ((ptp0 2).put Obj.ptpDelayMechanism 1)).dev.val Obj.ptpDelayMechanism = 1 ∧ (on (ptp0 1)).dev.val Obj.timeRefState = 0
    ∧ (((on (ptp0 2)).devAt 0).received 0 2).discards 0 emptyBody = false
    ∧ (((on (ptp0 1)).devAt 0).received 0 2).discards 0 { emptyBody with msgType := 1 } = false
    ∧ (((on (ptp0 2)).devAt 0).received 0 2).discards 0 { emptyBody with msgType := 9, reqPortNumber := 1 } = false
    ∧ ({ (up.ptp 0) with syncDelta := some 5 } : PtpPort).syncDelta = some 5
    ∧ (((on ((ptp0 1).put Obj.ptpDelayMechanism 1)).devAt 0).received 0 2).discards 0 { emptyBody with msgType := 2 } = false
    ∧ (((on ((ptp0 1).put Obj.ptpDelayMechanism 1)).devAt 0).received 0 2).discards 0 { emptyBody with msgType := 3 } = false
    ∧ ((on (ptp0 0)).devAt 0).discards 0 emptyBody = true ∧ ((on (ptp0 2)).devAt 0).slavePort = some 0
    ∧ 0 < (on (ptp0 2)).dev.val Obj.ptpSyncTimeout
    ∧ (on (ptp0 2)).dev.val Obj.ptpSyncTimeout * 10000000000 ≤ ((on (ptp0 2)).devAt (10 ^ 15)).now := by decide +kernel

/-! ### Witnesses: strips and tiles -/

theorem test_UnitsGoVoidAndReturn :
    (on linked).dev.live = true ∧ admits (on linked) .pf0 (Obj.stripReset 0) = true ∧ admits (on linked) .pf0 (Obj.tileReset 0) = true
    ∧ admits (on linked) .pf0 (Obj.stripPower 0) = true ∧ admits (on linked) .pf0 (Obj.tilePower 0) = true
    ∧ ((on linked).devAt 0).unitState 0 ≠ 3 ∧ ((on linked).devAt 0).powered 0 = true ∧ ((on linked).devAt 0).powered 64 = true
    ∧ ((on (linked.put (Obj.stripState 0) 3)).devAt 0).unitState 0 = 3 ∧ ((on (linked.put (Obj.tileState 0) 3)).devAt 0).unitState 64 = 3
    ∧ admits (on (linked.put (Obj.stripState 0) 3)) .pf0 (Obj.stripReset 0) = true
    ∧ admits (on (linked.put (Obj.stripState 0) 3)) .pf0 (Obj.stripPower 0) = true ∧ admits (on (linked.put (Obj.tileState 0) 3)) .pf0 (Obj.tilePower 0) = true
    ∧ ((on (linked.setUnit 0 { UnitSt.init with entering := 1 })).dev.unit 0).entering ≠ 0
    ∧ ((on (linked.put (Obj.stripState 0) 1)).devAt 1000000).voidOver 0 = true
    ∧ ((on (linked.put (Obj.stripState 0) 4)).devAt 0).unitState 0 = 4 := by decide +kernel

/-! ### Witnesses: rings, digitisers, gleaners, captures, sheaves -/

/-- Region 0: 2 MiB from address 0, of partition 0, open to the host. -/
def region0 : Nat := 2 ^ 17 + 3 * 2 ^ 39
/-- A block of `n` bytes at the start of region 0. -/
def block (n : Nat) : Nat := n * 2 ^ 32
/-- The link is up, region 0 is there, and ring `k` is a block of 256 bytes in it. -/
def ring (k : Nat) : Dev := (linked.put (Obj.memRegion 0 0) region0).put (ringKeys k).1 (block 256)

theorem test_RingRecordsStayInsideTheirBlock :
    domLength ((ring 80).ringBlock 80) = 256 ∧ (ring 80).val (ringKeys 80).2.1 < 256 ∧ (ring 80).val (ringKeys 80).2.2 < 256
    ∧ ((ring 80).ringPut 80 [1, 2, 3]).isSome = true
    ∧ (((ring 80).put (Obj.tdcRingWrite 0) 250).put (Obj.tdcRingRead 0) 200 |>.ringPut 80 (zeros 64)).isSome = true := by decide +kernel

/-- A gleaner record. -/
def gln0 : GlnRec := { time := 0, value := 0, source := 0, flags := 0, kind := 0, made := 0, prior := none }
/-- A waiting time-stamp record. -/
def stamp0 : TdcRec := { time := 1, wordA := 0, low := 0, typ := 1 }

theorem test_EdgesAndRecordsReachTheirRings :
    (on (ring 80)).dev.live = true ∧ (((on (ring 80)).devAt 0).setReadOffset 80 0).2 = 0 ∧ ((on (ring 80)).devAt 0).pathOpen .pf0 = true
    ∧ (on (ring 80)).dev.val Obj.devState ≠ 0 ∧ ((on (ring 80)).devAt 0).ringOwner 80 = 0
    ∧ (on (ring 80)).dev.faults.safe ≠ 2 ∧ (on (ring 80)).dev.val Obj.pcieLinkState = 2 ∧ Path.function .pf0 = some 0
    ∧ ((on (ring 80)).devAt 0).ringOwner 80 = Path.partition .pf0 ∧ ((on ((ring 80).put Obj.devState 0)).devAt 0).val Obj.devState = 0
    ∧ (((on (ring 80)).devAt 0).setReadOffset 80 5).2 ≠ 0 ∧ ((on up).devAt 0).unitState 64 = 0 ∧ (up.trig 0).interrupted = false
    ∧ ((on (up.put (Obj.tileState 0) 3)).devAt 0).unitState 64 ≠ 0 ∧ ({ TrigIn.init with interrupted := true } : TrigIn).interrupted = true
    ∧ ({ TrigIn.init with lastAccepted := some { tick := 0, ps := 0 } } : TrigIn).lastAccepted = some { tick := 0, ps := 0 }
    ∧ (10 * 100 + 0) - (0 * 100 + 0) < 5000 ∧ TrigIn.init.queue.length < 512 ∧ 512 ≤ (List.replicate 512 stamp0).length
    ∧ (up.trig 0).lastAccepted = none ∧ (up.trig 0).lost = [] ∧ (on up).dev.val (Obj.trigEdge 0) = 0
    ∧ (on (up.put (Obj.tdcStreamEnable 0) 1)).dev.flag (Obj.tdcStreamEnable 0) = true ∧ (on up).dev.flag (Obj.tdcStreamEnable 0) = false
    ∧ domLength (((on (ring 80)).devAt 0).ringBlock 80) ≠ 0
    ∧ ((((on (ring 80)).devAt 0).setTrig 0 { TrigIn.init with queue := [] }).ringPut 80 (tdcBytes 0 stamp0)).isSome = true
    ∧ domLength (((on up).devAt 0).ringBlock 80) = 0
    ∧ ((((on ((ring 80).put (Obj.tdcRing 0) (block 8))).devAt 0).setTrig 0 TrigIn.init).ringPut 80 (tdcBytes 0 stamp0)).isNone = true
    ∧ ((((on (ring 64)).devAt 0).setGleaner 0 Gleaner.init).ringPut 64 (glnBytes gln0)).isSome = true
    ∧ ((((on up).devAt 0).setGleaner 0 Gleaner.init).ringPut 64 (glnBytes gln0)).isNone = true := by
  decide +kernel

/-- A capture of 4 samples of input 0 that runs. -/
def run0 : CapRun := { trigger := 0, start := 0, requested := 4, source := 0, moved := false, unqualified := false, shot := 0, cut := false, voided := none, tunings := [] }
/-- An ended shot of lane 0 in group 0, its sheaf scope with a ring or none. -/
def shot0 (scope : List Nat) : ShotRec :=
  { shot := 1, group := 0, origin := 0, stop := 0, spoil := none, members := [0], windows := [], scope := scope }

/-- Engine 0 runs a capture whose samples have been taken, into a ring or none. -/
def capturing (d : Dev) (x : Capture) : State := on (d.setCapture 0 { x with run := some run0 })

theorem test_CapturesAndSheavesAreWritten :
    (on linked).dev.live = true ∧ admits (on linked) .pf0 (Obj.capArm 0) = true ∧ (linked.capture 0).run = none
    ∧ ((capturing linked Capture.init).dev.capture 0).run ≠ none ∧ (linked.capture 0).armed = false
    ∧ ((on (linked.put (Obj.capSource 0) 0)).dev.val (Obj.capSource 0)) ≠ 0xFFF ∧ ((on linked).devAt 0).unitState (64 + captureInput 0 / 4) = 0
    ∧ ((on (linked.put (Obj.tileState 0) 3)).devAt 0).unitState (64 + captureInput 0 / 4) ≠ 0
    ∧ (∀ p, p < 3 → (on (linked.put (Obj.capPolicy 0) p)).dev.val (Obj.capPolicy 0) = p)
    ∧ 0 ∉ Capture.init.asked ∧ 0 ∈ ({ Capture.init with asked := [0] } : Capture).asked
    ∧ ((on (ring 96)).devAt 0).ringReach 96 = true ∧ ((on ((ring 96).put (Obj.memRegion 0 0) 0)).devAt 0).ringReach 96 = false
    ∧ ({ Capture.init with follow := [run0] } : Capture).follow = run0 :: [] ∧ Capture.init.waiting = []
    ∧ Capture.init.heldTrigger = none ∧ ({ Capture.init with heldTrigger := some 5 } : Capture).heldTrigger ≠ none
    ∧ domLength (((on up).devAt 0).ringBlock 96) = 0 ∧ domLength (((on (ring 96)).devAt 0).ringBlock 96) ≠ 0
    ∧ (let s := capturing (ring 96) Capture.init
      let d := s.devAt 100
      let n := d.captureStored 0 run0 none 0
      (s.devAt 0).now < run0.lastAt ((s.devAt 0).captureStored 0 run0 none 0) ∧ run0.lastAt n ≤ d.now
        ∧ (d.ringPut 96 (capRecord 0 run0 0 n false false (d.captureContent run0 n [] []))).isSome = true)
    ∧ (let s := capturing ((ring 96).put (ringKeys 96).2.1 200) Capture.init
      let d := s.devAt 100
      let n := d.captureStored 0 run0 none 0
      (d.ringPut 96 (capRecord 0 run0 0 n false false (d.captureContent run0 n [] []))).isNone = true) := by decide +kernel

/-- Channel 0 follows ring 0 for partition 0, with this queue. -/
def following (queue : List (List Byte)) : Dev :=
  ((((ring 0).put (Obj.pcieDmaMode 0) 1).put (Obj.pcieDmaFollow 0) 0).put (Obj.pcieDmaOwner 0) 0).setDma 0 { DmaCh.init with queue := queue }

/-- A sheaf of partition 0 of `n` bytes. -/
def sheaf0 (n : Nat) : List Byte := zeros n

theorem test_CapturesAndSheavesAreWritten_sheaves :
    ((on { up with shots := [shot0 []] }).dev.shots.find? (fun x => x.group = 0)) = some (shot0 [])
    ∧ ((on up).devAt 5).now < (shot0 []).stop + 10000 ∧ domLength ((on up).dev.val (Obj.sheafRing 0)) = 0
    ∧ domLength ((on (ring 0)).dev.val (Obj.sheafRing 0)) ≠ 0
    ∧ regionOwner (((on (ring 0)).devAt 0).region (domRegion ((on (ring 0)).dev.val (Obj.sheafRing 0)))) = ((on (ring 0)).devAt 0).laneOwner 0
    ∧ ((on (ring 0)).devAt 0).ringOwner 0 = field (sheaf0 128) 33 1 ∧ ((on (ring 0)).devAt 0).ringOwner 0 ≠ field (List.replicate 128 1) 33 1
    ∧ ((on (ring 0)).devAt 0).follower 0 = none
    ∧ ((((on (ring 0)).devAt 0)).ringPut 0 (sealSheaf (sheaf0 128) 0)).isSome = true ∧ (((on (ring 0)).devAt 0).ringPut 0 (sealSheaf (sheaf0 256) 0)).isNone = true
    ∧ ((on (following [sheaf0 128])).devAt 0).follower 0 = some 0 ∧ ([sheaf0 128].map List.length).sum + (sheaf0 128).length ≤ 65536
    ∧ ((following [sheaf0 128]).dmaCh 0).queue = sheaf0 128 :: [] ∧ ((on (following [sheaf0 128])).devAt 0).ringOwner 0 = field (sheaf0 128) 33 1
    ∧ ((((on (following [sheaf0 128])).devAt 0)).ringPut 0 (sealSheaf (sheaf0 128) 0)).isSome = true
    ∧ ((((on (following [sheaf0 256])).devAt 0)).ringPut 0 (sealSheaf (sheaf0 256) 0)).isNone = true
    ∧ ((following []).dmaCh 0).queue = [] ∧ ((on (following [])).devAt 0).follower 0 = some 0 := by decide +kernel

/-! ### Witnesses: DDR5 and bales -/

/-- A MemChanConfig word that R305 accepts. -/
def channel0 : Nat := 16 + 2 ^ 8 + 2 ^ 12
/-- A request of partition 0. -/
def ddr0 (cls : Nat) (lane line : Option Nat) : DdrReq :=
  { id := 0, cls := cls, partition := 0, address := 0, bytes := 1152, arrived := 0, deadline := 0, use := if cls = 1 then .fetch else .write
    demoted := false, lane := lane, line := line, place := 0, owner := 0 }
/-- All of a request, at one channel. -/
def part0 (r : DdrReq) : DdrPart := { req := r, bytes := 1152, late := false, bad := false }
/-- One request waits at channel 0. -/
def waiting (r : DdrReq) : State := on { up with memctl := { up.memctl with queues := [(0, [part0 r])] } }

/-- A request of the host that has waited longer than any bound. -/
def forced0 : DdrReq := { ddr0 4 none none with arrived := 0 }

theorem test_MemoryStartsAndServes_trained : ∃ c, channelsOk (List.replicate 8 c) = true := ⟨channel0, by decide +kernel⟩
theorem test_MemoryStartsAndServes :
    (on (up.put Obj.memState 1)).dev.live = true ∧ (on (up.put Obj.memState 1)).dev.val Obj.memState = 1 ∧ channelsOk [] = false
    ∧ (on (up.put Obj.memState 2)).dev.val Obj.memState = 2
    ∧ (∀ r ∈ [ddr0 4 none none, ddr0 1 (some 0) none, ddr0 1 (some 0) (some 3)], (((waiting r).devAt 0).serves 0).map Prod.snd = some (part0 r))
    ∧ ((waiting forced0).devAt (10 ^ 12)).serves 0 = some (1, part0 forced0)
    ∧ (let w := waiting (ddr0 4 none none)
      ((w.devAt 0).partServed 0 5 (part0 (ddr0 4 none none)) false false).partsLeft 0 = false)
    ∧ (let q := part0 (ddr0 4 none none)
      let two := on { up with memctl := { up.memctl with queues := [(0, [q]), (1, [q])] } }
      ((two.devAt 0).partServed 0 5 q false false).partsLeft 0 = true)
    ∧ (on { up with commits := [(Obj.laneProgCommit 0, { CommitSt.init with status := 2 })] }).dev.commitOf (Obj.laneProgCommit 0) ≠ CommitSt.init
    ∧ ((on up).devAt 0).bankWanted 0 0 = false ∧ SMap.look up.memctl.hot 0 false = false
    ∧ (ddr0 4 none none).use.meets .uncorrectable = .clean ∧ DdrUse.fetch.meets .uncorrectable = .uncorrectable := by decide +kernel
/-- Whatever bank address 0 lies in, a class 1 request there holds back that bank's refresh. -/
theorem test_MemoryStartsAndServes_wanted : ((waiting (ddr0 1 none none)).devAt 0).bankWanted 0 (Config.bankOf 0) = true := by
  have h : (part0 (ddr0 1 none none)).touches 0 (Config.bankOf 0) = true :=
    List.any_eq_true.2 ⟨0, by decide, by simp only [part0, ddr0, decide_true, Bool.and_true]; decide⟩
  exact List.any_eq_true.2 ⟨part0 (ddr0 1 none none), List.mem_singleton.2 rfl, by rw [h]; decide⟩

/-- A stored bale of three bytes fits in 64, whatever the device's encoder would choose. -/
theorem test_CompressedBalesDecodeToTheirInput :
    ∃ out, baleEncode false true 0 0 64 [1, 2, 3] = some (out, [1, 2, 3].length, 1) ∧ [1, 2, 3].length ≤ 65536 := ⟨_, rfl, by decide⟩

/-- Queue 0 has a ring of 256 bytes at address 0 and one job whose descriptor begins with these bytes. -/
def queued (bytes : List Byte) (j : BaleJob) : State :=
  { on { (linked.put (Obj.memRegion 0 0) region0).put (Obj.baleQueueRing 0) (block 256) with bale := [(0, [j])] } with
    mem := Mem.putBytes [] 0 bytes }

theorem test_BaleJobsAreTakenRunAndEnded :
    let q := fun op => queued [op] (BaleJob.submit 0)
    (q 1).dev.live = true ∧ (∀ op ∈ [1, 2, 3, 4], (((q op).devAt 0).descriptor (q op).mem 0 0).op = op.toNat)
    ∧ ((q 1).devAt 0).freeUnit true = some 4 ∧ ((q 2).devAt 0).freeUnit false = some 0
    ∧ ((q 1).devAt 0).mayStart (q 1).mem 0 0 (fun n => (n = 0 || 4 < n) || n = 1) = true
    ∧ (∀ op ∈ [2, 3, 4], ((q op).devAt 0).mayStart (q op).mem 0 0 (fun n => (n = 0 || 4 < n) || n != 1) = true)
    ∧ ((q 1).devAt 0).descriptorOk 0 (((q 1).devAt 0).descriptor (q 1).mem 0 0) = true ∧ ((q 1).devAt 0).blockOk 0 0 = true
    ∧ ((q 1).devAt 0).blockOk 0 (block (2 ^ 22)) = false := by decide +kernel

theorem test_BaleJobsAreTakenRunAndEnded_queues :
    (∀ op ∈ [1, 9], let bad := queued [op, 0x80] (BaleJob.submit 0); (bad.devAt 0).descriptorOk 0 ((bad.devAt 0).descriptor bad.mem 0 0) = false)
    ∧ admits (on ((linked.put (Obj.memRegion 0 0) region0).put (Obj.baleQueueRing 0) (block 256))) .pf0 (Obj.baleQueueTail 0) = true
    ∧ (rowAt (keyIndex (Obj.baleQueueTail 0)) (keySub (Obj.baleQueueTail 0))).map (fun r => r.valueAbort (leBytes r.ty.size 64)) = some 0
    ∧ (0 + 256 - 0) % 256 ≤ (64 + 256 - 0) % 256
    ∧ ((queued [1] { BaleJob.submit 0 with started := true, status := 1 }).dev.bale.map (fun p => p.2.map BaleJob.status)) = [[1]]
    ∧ baleDecode (baleOf 0 0 [7] [7]) = .content [7] ∧ ((on linked).devAt 0).freeUnit false ≠ none ∧ (on linked).dev.baleWaits = []
    ∧ (let w : BaleWait := { commit := Obj.laneProgCommit 0, region := 0, offset := 64 }
      let mine := fun (w : BaleWait) => (w.commit = Obj.laneProgCommit 0 || w.commit = Obj.laneWaveCommit 0) && w.region = 0 && w.offset = 64
      (on { linked with baleWaits := [w] }).dev.baleWaits.find? mine = some w) := by decide +kernel
theorem test_BaleJobsAreTakenRunAndEnded_bad : ∃ status, baleDecode [] = .bad status := ⟨_, rfl⟩

/-! ### Witnesses: PCI Express and CAN -/

theorem test_LinkEventsResetTheFunctions :
    (on linked).dev.live = true ∧ (on linked).dev.val Obj.pcieLinkState = 2 ∧ 1 ≤ (on (linked.put Obj.pcieNumVfs 1)).dev.val Obj.pcieNumVfs
    ∧ 0 ≤ (on linked).dev.val Obj.pcieNumVfs
    ∧ bit ((linked.setFn 0 { FnSt.init with pending := 1 }).fn 0).pending 0 = true ∧ bit (linked.fn 0).pending 0 = false := by decide

/-- DMA channel 0: 8 entries of partition 0, one submitted, in this mode, with region 0. -/
def channelUp (mode : Nat) : Dev :=
  ((((linked.put (Obj.memRegion 0 0) region0).put (Obj.pcieDmaMode 0) mode).put (Obj.pcieDmaRingBytes 0) 256).put (Obj.pcieDmaOwner 0) 0).setDma 0
    { DmaCh.init with tail := 1 }
/-- A copy descriptor: operation, no flags, host address 0, 16 bytes of region 0. -/
def copy (op : Byte) : List Byte := [op, 0, 0, 0] ++ zeros 12 ++ leBytes 16 (block 16)

theorem test_DmaAndTheApertureMoveData :
    (on (channelUp 0)).dev.live = true ∧ ((on (channelUp 0)).devAt 0).hostOpen 0 = true ∧ ((on (channelUp 0)).devAt 0).dmaOwner 0 = 0
    ∧ 1 < ((on (channelUp 0)).devAt 0).dmaEntries 0 ∧ ((on (channelUp 0)).devAt 0).dmaReady 0 = true
    ∧ ((on (channelUp 0)).devAt 0).copyStatus 0 (copy 1) = 0 ∧ ((on (channelUp 0)).devAt 0).copyStatus 0 (copy 2) = 0
    ∧ field (copy 1) 0 1 = 1 ∧ field (copy 2) 0 1 = 2 ∧ domLength (field (copy 2) 16 16) = 16
    ∧ (let f := ((((channelUp 1).put (Obj.pcieDmaFollow 0) 80).put (Obj.tdcRing 0) (block 256)).put (Obj.tdcRingWrite 0) 16)
      ((on f).devAt 0).hostReach 0 0 0 256 false = true ∧ (f.dmaCh 0).followed ≠ f.val (ringKeys 80).2.1 ∧ (f.dmaCh 0).halted = false)
    ∧ admits (on (channelUp 0)) .pf0 (Obj.pcieDmaOwner 0) = true ∧ ((on (channelUp 0)).devAt 0).dmaState 0 ≠ 0
    ∧ ((on linked).devAt 0).dmaState 0 = 0
    ∧ (rowAt (keyIndex (Obj.pcieDmaOwner 0)) (keySub (Obj.pcieDmaOwner 0))).map (fun r => r.valueAbort (leBytes r.ty.size 1)) = some 0
    ∧ ((on (channelUp 0)).devAt 0).hostReach 0 (((on (channelUp 0)).devAt 0).aperture 0 0).1 0 16 true = true
    ∧ ((on linked).devAt 0).hostReach 0 (((on linked).devAt 0).aperture 0 0).1 0 16 false = false := by decide +kernel

/-- The CAN port operational with a heartbeat of 1 ms. -/
def can0 : Dev := (up.put Obj.canNmtState 5).put Obj.heartbeatTime 1

theorem test_TheCanPortFollowsItsBus :
    (on can0).dev.live = true ∧ ((on can0).devAt 0).nmtMine 0 = true ∧ ((on can0).devAt 0).nmtMine 5 = false ∧ ((on can0).devAt 0).canOn = true
    ∧ (on can0).dev.val Obj.heartbeatTime * 10000000 ≠ 0 ∧ (on can0).dev.val Obj.canNmtState ≠ 4 ∧ (on can0).dev.can.lastBeat = none
    ∧ bit ((on (can0.put Obj.devCanWriteMask 2)).dev.val Obj.devCanWriteMask) 1 = true
    ∧ bit ((on (can0.put Obj.devCanWriteMask 1)).dev.val Obj.devCanWriteMask) 1 = false
    ∧ ((on up).devAt 0).canOn = false ∧ ((on { can0 with can := { can0.can with emcy := [(0, 0, 0, 0)] } }).dev.can.emcy) = (0, 0, 0, 0) :: []
    ∧ (on can0).dev.can.lastEmcy = none ∧ (on can0).dev.val Obj.canBusState ≠ 2 ∧ (on (can0.put Obj.canBusState 2)).dev.val Obj.canBusState = 2 := by
  decide +kernel

/-! ### Witnesses: Gargor ports and events -/

/-- Port 0 in a state, with this machinery. -/
def port0 (state : Nat) (x : PortSt) : State := on (((linked.put (Obj.ggPortState 0) state).put Obj.devGargorRemoteWrite 1).setPort 0 x)
/-- A capability block of another device. -/
def cap0 (rate : Nat) (ack : Bool) : CapabilityBlock := { version := 1, maxRate := rate, ack := ack, rest := false, serial := 0 }

theorem test_GargorBlocksSteerTheirPort :
    (port0 4 PortSt.init).dev.live = true ∧ (∀ n ∈ [1, 2, 3, 4, 5, 7], (port0 n PortSt.init).dev.val (Obj.ggPortState 0) = n)
    ∧ (let three := [(0, 2), (1, 3), (2, 3), (3, 3)]
      let seen' := SMap.set three 0 (SMap.look three 0 0 + 1)
      (List.range 4).all (fun l => 3 ≤ SMap.look seen' l 0) = true)
    ∧ (List.range 4).all (fun l => 3 ≤ SMap.look (SMap.set [] 0 1) l 0) = false
    ∧ min ((port0 2 PortSt.init).dev.val (Obj.ggMaxRate 0)) (cap0 1 true).maxRate = 1
    ∧ 1 < min ((port0 2 PortSt.init).dev.val (Obj.ggMaxRate 0)) (cap0 4 true).maxRate
    ∧ min ((port0 2 PortSt.init).dev.val (Obj.ggMaxRate 0)) (cap0 0 true).maxRate = 0
    ∧ ((port0 3 PortSt.init).devAt 0).fixedTaps 0 0 = 0 ∧ SMap.look ({ PortSt.init with tapReqs := [(0, 1)] } : PortSt).tapReqs 0 0 = 1 := by
  decide +kernel
theorem test_GargorBlocksSteerTheirPort_good : ∃ block : CapabilityBlock, block.version = 1 ∧ block.serial ≠ wrap 24 Config.serialNumber :=
  ⟨{ cap0 1 true with serial := wrap 24 Config.serialNumber + 1 }, rfl, Nat.succ_ne_self _⟩
theorem test_GargorBlocksSteerTheirPort_other : ∃ block : CapabilityBlock, ¬(block.version = 1 ∧ block.serial ≠ wrap 24 Config.serialNumber) :=
  ⟨{ cap0 1 true with version := 2 }, fun h => absurd h.1 (by decide)⟩

theorem test_GargorFramesAreTaken :
    lengthOk 3 (zeros 16).length = true ∧ (∀ n ∈ [16, 140], lengthOk 1 (zeros n).length = true) ∧ lengthOk 2 (zeros 56).length = true
    ∧ (frameBlocks 3 7 (zeros 16)).length = 4 ∧ (receive { frames := [], fill := false, bad := 0, header := 0 } 0 (frameBlocks 3 7 (zeros 16))).bad = 0
    ∧ (port0 4 PortSt.init).dev.val (Obj.ggPortState 0) = 4 ∧ preempts 1 3 = true ∧ preempts 3 1 = false
    ∧ 128 ≤ (((port0 4 PortSt.init).devAt 0).received 0 3).val (Obj.ggEventIn 0 0)
    ∧ ((((on ((linked.put (Obj.ggPortState 0) 4).put (Obj.ggEventIn 0 0) 5)).devAt 0).received 0 3).val (Obj.ggEventIn 0 0)) = 5
    ∧ (((on (linked.put Obj.timeGridState 2)).devAt 0).received 0 3).aligned = true ∧ (((on linked).devAt 0).received 0 3).aligned = false
    ∧ 16 ≤ (zeros 16).length ∧ SMap.find (port0 4 PortSt.init).dev.outstanding 10 = none
    ∧ SMap.find (on { linked with outstanding := [(10, [])] }).dev.outstanding 10 ≠ none
    ∧ ((((port0 4 PortSt.init).devAt 0).received 0 4).returnCredit 0).val (Obj.ggRemoteStatus 0) ≠ 1
    ∧ ((((on ((linked.put (Obj.ggPortState 0) 4).put (Obj.ggRemoteStatus 0) 1)).devAt 0).received 0 4).returnCredit 0).val (Obj.ggRemoteStatus 0) = 1
    ∧ admits (port0 4 PortSt.init) .pf0 (Obj.ggRemoteDoorbell 0) = true ∧ domLength ((port0 4 PortSt.init).dev.val (Obj.ggRemoteBuffer 0)) = 0
    ∧ domLength ((on (linked.put (Obj.ggRemoteBuffer 0) (block 8192))).dev.val (Obj.ggRemoteBuffer 0)) ≠ 0
    ∧ ((port0 4 { PortSt.init with remoteSince := some 0 }).dev.port 0).remoteSince = some 0
    ∧ 0 + 100000000 ≤ ((port0 4 PortSt.init).devAt 100000000).now := by decide +kernel

/-- Port 0 active with a bulk job that has sent its first 16 bytes. -/
def bulk (op : Nat) : State :=
  on ((((ring 80).put (Obj.ggPortState 0) 4).put Obj.devGargorRemoteWrite 1).put (Obj.ggBulkOp 0) op |>.put (Obj.ggBulkState 0) 1
    |>.setPort 0 { PortSt.init with bulkOut := some (0, 16) })

theorem test_BulkTransfersRunToTheirEnd :
    (bulk 1).dev.live = true ∧ (bulk 1).dev.val (Obj.ggPortState 0) = 4
    ∧ ((((bulk 1).devAt 0).received 0 5).returnCredit 0).servesBulk 0 0 16 = true
    ∧ ((((bulk 1).devAt 0).received 0 5).returnCredit 0).servesBulk 1 0 16 = false
    ∧ (∀ op ∈ [1, 2], ((((bulk op).devAt 0).received 0 5).returnCredit 0).bulkAnswer 0 0 = some (0, 16))
    ∧ ((((bulk 2).devAt 0).received 0 5).returnCredit 0).val (Obj.ggBulkOp 0) = 2
    ∧ admits (bulk 1) .pf0 (Obj.ggBulkStart 0) = true ∧ (bulk 1).dev.val (Obj.ggBulkState 0) = 1
    ∧ admits (on (linked.put (Obj.ggBulkOp 0) 1)) .pf0 (Obj.ggBulkStart 0) = true ∧ (on (linked.put (Obj.ggBulkOp 0) 1)).dev.val (Obj.ggBulkState 0) ≠ 1
    ∧ ((bulk 1).dev.port 0).bulkSent + 1000000 ≤ ((bulk 1).devAt 1000000).now ∧ 3 ≤ ({ PortSt.init with bulkResends := 3 } : PortSt).bulkResends := by
  decide +kernel

theorem test_PortsMoveBetweenTheirStates :
    (∀ n ∈ [1, 2, 3, 4, 5, 6, 7], (port0 n PortSt.init).dev.live = true ∧ (port0 n PortSt.init).dev.val (Obj.ggPortState 0) = n)
    ∧ PortSt.init.markerLock = false
    ∧ (∀ n ∈ [(64, true), (65, false)], ({ PortSt.init with
        arrivals := [(0, 0), (1, 0), (2, 0), (3, n.1)], laneNumbers := [(0, 0), (1, 1), (2, 2), (3, 3)] } : PortSt).markerLock = n.2)
    ∧ PortSt.init.stateSince + 100000000 ≤ ((port0 2 PortSt.init).devAt 100000000).now
    ∧ ((port0 3 { PortSt.init with partnerReady := true, training := 1, agreed := 2 }).dev.port 0).partnerReady = true
    ∧ ((port0 7 PortSt.init).devAt 0).now ≤ PortSt.init.stateSince + 20000000
    ∧ ((port0 3 PortSt.init).devAt 0).now ≤ PortSt.init.stateSince + 100000000
    ∧ (on (linked.put (Obj.ggRestEnable 0) 1)).dev.val (Obj.ggRestEnable 0) ≠ 0 ∧ ((port0 4 PortSt.init).devAt 0).portNamed 0 = false
    ∧ max PortSt.init.lastSent PortSt.init.lastHeard + (port0 4 PortSt.init).dev.val (Obj.ggRestDelay 0) * 10000 ≤ ((port0 4 PortSt.init).devAt (10 ^ 12)).now
    ∧ 10 * (PortSt.init.stateSince + 10000) + 128 * stripeTime 1 ≤ 10 * ((port0 6 PortSt.init).devAt 100000).now
    ∧ PortSt.init.lastSent + (PortSt.init.refreshes + 1) * 10000000 ≤ ((port0 4 PortSt.init).devAt 10000000).now := by decide +kernel

/-- A wave of channel 3 waits at the router. -/
def wave3 : Wave := { channel := 3, time := { tick := 0, ps := 0 }, fromLink := false }

theorem test_EventsFireAndWavesAreDelivered :
    admits (on linked) .pf0 Obj.evtFire = true
    ∧ (rowAt (keyIndex Obj.evtFire) (keySub Obj.evtFire)).map (fun r => (decide (r.ty ≠ .domain), r.valueAbort (leBytes r.ty.size 3))) = some (true, 0)
    ∧ admits (on ((linked.put Obj.pcieNumVfs 8).put Obj.devPartitionsEnabled 511)) (.vf 1) Obj.evtFire = true
    ∧ ((on linked).devAt 0).chanOwner 3 ≠ 1 ∧ (on linked).dev.router.waves.length < 64
    ∧ 64 ≤ (on { linked with router := { linked.router with waves := List.replicate 64 wave3 } }).dev.router.waves.length
    ∧ (on { linked with router := { linked.router with waves := [wave3] } }).dev.router.waves = wave3 :: []
    ∧ (on linked).dev.drills = [] ∧ (∀ k, k < 8 → bit ((on linked).dev.val (Obj.evtChannelCfg 3)) k = false)
    ∧ (∀ k, k < 8 → (on linked).dev.val (Obj.capArmChannel k) ≠ 3) ∧ (on linked).dev.val Obj.monTriggerChannel ≠ 3
    ∧ (∀ p, p < 4 → ∀ j, j < 32 → (on linked).dev.val (Obj.ggEventOut p j) ≠ 3)
    ∧ (∀ j, j < 32 → (on linked).dev.val (Obj.pcieVectorEvent 0 j) ≠ 3)
    ∧ ((on (linked.setTimer 0 (some 0))).devAt 0).timerDue 0 = some 0 ∧ ((on linked).devAt 0).timerDue 0 = none
    ∧ admits (on linked) .pf0 (Obj.evtFlags 3) = true
    ∧ (rowAt (keyIndex (Obj.evtFlags 3)) (keySub (Obj.evtFlags 3))).map (fun r => (decide (r.ty ≠ .domain), r.valueAbort (leBytes r.ty.size 1))) = some (true, 0) := by
  decide +kernel

/-! ### Witnesses: calibration, ageing, heat, faults -/

/-- A run at a phase with these units left. -/
def run1 (phase : Nat) (left : List (Nat × Nat)) : CalRun :=
  { left := left, phase := phase, lid := 2500, waitSince := 0, accepted := [], full := false, moved := false, idleWait := 10, setSlot := 255 }
/-- The block in a calibration run. -/
def calibrating (r : Option CalRun) : State := on { linked with calib := { linked.calib with run := r } }

theorem test_CalibrationGoesUnitByUnit :
    admits (calibrating none) .pf0 Obj.calStart = true ∧ admits (calibrating (some (run1 1 []))) .pf0 Obj.calStart = true
    ∧ [4, 1, 0, 2, 3].filter (fun i => bit ((on (linked.put Obj.calItems 1)).dev.val Obj.calItems) i) = [0]
    ∧ (∀ i, i < 5 → bit ((on (linked.put Obj.calItems 0)).dev.val Obj.calItems) i = false)
    ∧ (on linked).dev.val Obj.timeGridState ≠ 3 ∧ (on linked).dev.val Obj.timeRefState = 0 ∧ admits (calibrating none) .pf0 Obj.calAbort = true
    ∧ (∀ q ∈ (on linked).dev.calib.sets, 1 ≤ q.1 ∧ q.1 ≤ 6) ∧ ((run1 1 []).setSlot ≤ 6 ∨ (run1 1 []).setSlot = 255)
    ∧ (on (linked.put Obj.calVcalValue 20000000)).dev.ival 32 Obj.calVcalValue = 20000000
    ∧ ((calibrating (some (run1 1 [(0, 0)]))).devAt 0).unitIdle 0 0 = true ∧ ((calibrating (some (run1 1 [(2, 0)]))).devAt 0).unitIdle 2 0 = true
    ∧ (let busy := on { linked.setBias 3 { out0 with move := .held } with calib := { linked.calib with run := some (run1 1 [(3, 3)]) } }
      (busy.devAt 0).unitIdle 3 3 = false
        ∧ 0 + (run1 1 [(3, 3)]).idleWait * 10000000000 ≤ (busy.devAt (10 ^ 18)).now)
    ∧ [0, 0].length = (unitTaps 3 0).length
    ∧ ((unitTaps 3 0).zip (([0, 0] : List Int).zip ([] ++ ([0, 0] : List Int).drop 0))).all (fun p => (twice p.1).all (fun lim => (p.2.1 - p.2.2).natAbs ≤ lim)) = true
    ∧ ((unitTaps 3 0).zip ([(0, 0), (0, 0)] : List (Int × Int))).all
        (fun p => plausible p.1 (settledValue p.1 p.2.1 p.2.2) 0 ((((calibrating (some (run1 2 [(3, 0)]))).devAt 0).releaseUnit (3, 0)).previous 2500 p.1)) = true
    ∧ ((unitTaps 4 0).zip ((List.replicate 16 (0 : Int)).zip (List.replicate 16 (100 : Int)))).all
        (fun p => (twice p.1).all (fun lim => (p.2.1 - p.2.2).natAbs ≤ lim)) = false
    ∧ plausible (tapKey 3 0 0) 1001 1001 none = false ∧ (on (linked.put Obj.calInterp 1)).dev.val Obj.calInterp ≠ 0
    ∧ (on (linked.put Obj.calInterp 1)).dev.calib.lastAim = none
    ∧ ({ linked with calib := { linked.calib with lastAim := some 0 } }.tick 5).now < 0 + 10000000000
    ∧ (on (linked.put Obj.calInterp 0)).dev.val Obj.calInterp = 0
    ∧ (let far := on { linked with calib := { linked.calib with taps := [(tapKey 0 0 0, 100)], targets := [(tapKey 0 0 0, 110)] } }
      far.dev.tap (tapKey 0 0 0) ≠ far.dev.tapTarget (tapKey 0 0 0) ∧ (far.devAt 0).tapFree (tapKey 0 0 0) = true
        ∧ SMap.find far.dev.calib.lastTap (tapKey 0 0 0) = none) := by decide +kernel

theorem test_AgeingFollowsTheCanaries :
    (on linked).dev.live = true ∧ admits (on linked) .pf0 Obj.ageRecompute = true
    ∧ (on linked).dev.ageing.lastRecompute + (on linked).dev.val Obj.ageInterval * 10000000000 ≤ ((on linked).devAt (10 ^ 18)).now
    ∧ ((on (linked.put Obj.ageInterval 1)).devAt 0).now < (on linked).dev.ageing.lastRecompute + (on (linked.put Obj.ageInterval 1)).dev.val Obj.ageInterval * 10000000000
    ∧ SMap.find (on { linked with ageing := { linked.ageing with watchSince := [(0, 0)] } }).dev.ageing.watchSince 0 = some 0
    ∧ 0 + 10000000000 ≤ ((on linked).devAt 10000000000).now := by decide +kernel

theorem test_HeatAndFaultsActOnTheBlock :
    (on linked).dev.live = true ∧ (on linked).dev.thermal.stepped + 100 ≤ ((on linked).devAt 100).now
    ∧ (on linked).dev.thermal.corrected + 10000000000 ≤ ((on linked).devAt (10 ^ 10)).now
    ∧ (on linked).dev.thermal.judged + 10000000 ≤ ((on linked).devAt (10 ^ 7)).now ∧ (on { linked with thermal := { linked.thermal with residuals := [(0, 2 ^ 32)] } }).dev.thermal.residuals ≠ []
    ∧ (∀ i, i < 17 → max (callsFor false (centi (((on up).devAt 0).predicted i)) (SMap.look up.thermal.wanted (2 * i) 0))
        (callsFor true (((on up).devAt 0).nodeRate i) (SMap.look up.thermal.wanted (2 * i + 1) 0)) = SMap.look up.thermal.states i 0)
    ∧ (∀ j, j < 34 → SMap.look up.thermal.wanted j 0 ≤ 3) ∧ (on linked).dev.faults.safe = 0
    ∧ max (SMap.look [(0, 3)] 0 0) (SMap.look [(0, 3)] 1 0) = 3 ∧ SMap.look up.thermal.states 0 0 = 0 ∧ SMap.find up.thermal.changed 0 = none
    ∧ (on ((linked.put Obj.thermThrottle 1))).dev.val Obj.thermThrottle = 1
    ∧ admits (on linked) .pf0 (Obj.faultSticky 0) = true ∧ admits (on linked) .pf0 Obj.faultEnterSafe = true
    ∧ admits (on { linked with faults := { linked.faults with safe := 1 } }) .pf0 Obj.faultLeaveSafe = true
    ∧ (on { linked with faults := { linked.faults with safe := 1 } }).dev.severeSet = false
    ∧ (on { linked with faults := { linked.faults with safe := 1 } }).dev.graveSet = false
    ∧ (on { linked with faults := { linked.faults with sticky := 2 ^ 8, handler := some 0 } }).dev.severeSet = true := by decide +kernel

/-! ### Witnesses: the control store, power, the whole block -/

/-- Strip 0 has this user routine and a run of it. -/
def routine (words : List Nat) (u : SMap UserRun) : State := on { linked with store := { linked.store with userWords := [(0, words)], user := u } }
/-- A run started by a write. -/
def user0 : UserRun := { shot := 0, reason := 0 }

theorem test_TheControlStoreChangesAndRuns :
    (on linked).dev.store.writing = none ∧ (on { linked with store := { linked.store with writing := some [] } }).dev.store.writing = some []
    ∧ admits (on linked) .pf0 Obj.csStripUpdate = true
    ∧ (rowAt (keyIndex Obj.csStripUpdate) (keySub Obj.csStripUpdate)).map (fun r => (decide (r.ty ≠ .domain), r.valueAbort (leBytes r.ty.size 0))) = some (true, 0)
    ∧ (let two := { linked with store := { linked.store with slotB := { linked.store.slotA with live := true } } }.put Obj.csNextSlot 1
      two.val Obj.csNextSlot ≠ two.val Obj.csActiveSlot ∧ (two.store.slot 1).live = true ∧ ((on two).devAt 0).slotOk 1 = true)
    ∧ ((on linked).devAt 0).unitState 0 = 0 ∧ ((on (linked.put (Obj.stripState 0) 3)).devAt 0).unitState 0 = 3
    ∧ SMap.find (on { linked with store := { linked.store with checkedAt := [(0, 0)] } }).dev.store.checkedAt 0 = some 0
    ∧ ((on (linked.setUnit 0 { UnitSt.init with reloading := true })).dev.unit 0).reloading = true
    ∧ ((on linked).devAt 0).slotOk (((on linked).devAt 0).loadSlot 0) = true ∧ (linked.unit 0).reloading = false
    ∧ ((on linked).devAt 0).engineFails 0 (.fetch 0 (2 ^ 16) 0) = true ∧ ((on linked).devAt 0).engineFails 0 .user = false
    ∧ (1 : Nat) < 1024 ∧ bits 1 15 0 = 1 + 1024 * 0
    ∧ SMap.find ({ (routine [7] []).dev.store with userDue := [(0, 5, 1)] } : ControlStore).userDue 0 = some (5, 1)
    ∧ admits (routine [7] []) .pf0 (Obj.csUserStart 0) = true ∧ SMap.look (routine [7] []).dev.store.userWords 0 [] ≠ []
    ∧ SMap.find (routine [7] []).dev.store.user 0 = none ∧ SMap.find (routine [7] [(0, user0)]).dev.store.user 0 = some user0
    ∧ SMap.find (routine [7] [(0, user0)]).dev.store.userHeld 0 = none
    ∧ (match ((routine [7] [(0, user0)]).devAt 0).userResult 0 user0 with | .ended _ => true | _ => false) = true
    ∧ (match ((routine [0] [(0, user0)]).devAt 0).userResult 0 user0 with | .overran _ => true | _ => false) = true := by decide +kernel

theorem test_ResetsRailsAndPowerDown :
    (on up).dev.power.vauxUp = true ∧ (on up).dev.power.pinLow = false ∧ (10000 : Nat) ≤ 10000 ∧ State.reset.dev.power.pinLow = true
    ∧ State.reset.dev.power.internal = false ∧ (on { up with power := { up.power with pinLow := true, internal := true } }).dev.power.internal = true
    ∧ ((699 : Int) < (railRange 0).1) ∧ ¬((750 : Int) < (railRange 0).1 ∨ (railRange 0).2 < 750) ∧ resetLevel 0 = some 640 ∧ resetLevel 7 = none
    ∧ (on { up with power := { up.power with vauxUp := false } }).dev.power.vauxUp = false
    ∧ (on (up.put Obj.pwrStartStop 4)).dev.val Obj.pwrStartStop = 4 ∧ ((on (up.put Obj.pwrStartStop 5)).devAt 0).startStop ≠ 5
    ∧ (on ((up.put Obj.pwrStartStep 4).put Obj.memState 3)).dev.val Obj.pwrStartStep = 4 ∧ admits (on linked) .pf0 Obj.pwrPrepareOff = true := by decide +kernel

/-- The heartbeat waits at the front; a step from here answers a next state, so that the invariants say something. -/
def beating : State := { on { can0 with faults := { can0.faults with safe := 2 } } with mem := [(5, 1)], pending := [.heartbeat 0] }

theorem test_EveryStepKeepsMemoryCanonical : beating.mem.wf = true ∧ ∃ s', step beating = .next s' := ⟨by decide, _, rfl⟩

theorem test_OnlyVauxClearsTheGraveLatch :
    beating.dev.faults.safe = 2 ∧ (∀ c, beating.pending.head? = some c → losesVaux c = false) ∧ (∃ s', step beating = .next s') ∧ bit graveMask 0 = true :=
  ⟨by decide, fun c h => by cases h; rfl, ⟨_, rfl⟩, by decide⟩

theorem test_EveryCommandCompletesInItsFrame :
    State.reset.dev.live = false ∧ actsInReset (.heartbeat 0) = false ∧ writesDdr5 (.heartbeat 0) = false := by decide

/-! ### Effects the spec works out -/

/-- The `play` grain of the Rabi sweep's point 10 (chapter 5). -/
theorem test_rabi_play : decodeGrain 0x80002007FFD0000000 = .play false false false 0x100 65530 0 0 := by decide +kernel
/-- Its bytes in DDR5, at the lowest address first. -/
theorem test_rabi_bytes : grainsOf [0, 0, 0, 0xD0, 0xFF, 0x07, 0x20, 0, 0x80] 1 = [0x80002007FFD0000000] := by decide +kernel

/-- The body of the ramp bale (chapter 14). -/
def rampBody : List Byte :=
  [0x8A, 0x03, 0x00, 0, 0, 0, 0, 0xD0, 0x07, 0, 0xF4, 0x01, 0, 0x7D, 0, 0x40, 0x1F, 0, 0xD0, 0x07, 0, 0xF4, 0x01, 0, 0x7D]
/-- Its content: eight samples with Q = 0 and I from 0 to 7,000. -/
theorem test_ramp_bale :
    (runTokens 36 36 25 [] rampBody).map (fun p => (granuleSamples p.1 0 ++ granuleSamples p.1 1, p.2))
      = some ([(0, 0), (1000, 0), (2000, 0), (3000, 0), (4000, 0), (5000, 0), (6000, 0), (7000, 0)], []) := by decide +kernel
/-- The bale is 48 bytes long, its stored form 56. -/
theorem test_ramp_size : baleSize 25 = 48 ∧ baleSize 36 = 56 := by decide

/-- Word 1 of the counting routine (chapter 20). -/
theorem test_user_word :
    (userWords [0x0A, 0x06, 0x02, 0x00, 0x08, 0x00, 0x20, 0x00, 0x80, 0x00, 0x00, 0x02, 0x00, 0x08, 0x00, 0x20, 0x80, 0x90]).map
      (fun w => (decodeUser w, parityOk w)) = [({ next := 2, cond := 1, target := 3, poll := false, op := 2, reg := 1 }, true)] := by decide +kernel

/-- The lead plan of strip 0 of the test chip (chapter 4): a canary of 160.0 ps, k_vt 1.45 over 2^16. -/
theorem test_lead_plan : plannedLead (1600 * 95027) 0 = 2 ∧ plannedLead (1600 * 95027) 2 = 49 := by decide

/-! ### Balls (the example of chapter 22) -/

theorem test_balls_of_lane_300_and_input_37 :
    (tileBalls 9).filter (fun b => b.1 = .aout 300 false || b.1 = .aout 300 true) = [(.aout 300 false, 91, 65), (.aout 300 true, 91, 64)]
    ∧ (tileBalls 9).filter (fun b => b.1 = .ain 37 false || b.1 = .ain 37 true) = [(.ain 37 false, 85, 68), (.ain 37 true, 85, 67)] := by
  decide +kernel
theorem test_balls_of_a_field : (tileBalls 3).length = 240 ∧ ((tileBalls 3).filter (fun b => b.1 = .vss)).length = 132 := by decide +kernel

end Sys2Proof.Tests
end

section
namespace Sys2Proof.Machine

/-! ### What an answer leaves alone (R49, R51, R378–R381) -/

/-- The counters that an answer may move: DevMailboxAborts, and the objects of the Gargor ports among which GgFramesSent lies. -/
def answerCounts (k : Nat) : Prop := k = Obj.devMailboxAborts ∨ (0x2d1000 ≤ k ∧ k < 0x2e0000)

/-- `e` is `d` after it has answered: it differs in counters of answers, ports, functions, what waits on the paths and what it has sent. -/
def Dev.Answered (d e : Dev) : Prop :=
  ∃ objs ports fns more waits last,
    e = { d with objs := objs, ports := ports, fns := fns, out := d.out ++ more, outstanding := waits, servedPath := last }
    ∧ ∀ k, ¬ answerCounts k → SMap.find objs k = SMap.find d.objs k

/-- An answer's changes that send nothing. -/
theorem Dev.Answered.silent (d : Dev) (objs : SMap Nat) (ports : SMap PortSt) (fns : SMap FnSt) (waits : SMap (List Byte)) (last : Nat)
    (h : ∀ k, ¬ answerCounts k → SMap.find objs k = SMap.find d.objs k) :
    d.Answered { d with objs := objs, ports := ports, fns := fns, outstanding := waits, servedPath := last } :=
  ⟨objs, ports, fns, [], waits, last, by rw [List.append_nil], h⟩

theorem Dev.Answered.refl (d : Dev) : d.Answered d := .silent d d.objs d.ports d.fns d.outstanding d.servedPath fun _ _ => rfl

theorem Dev.Answered.trans {d e f : Dev} (h : d.Answered e) (g : e.Answered f) : d.Answered f := by
  obtain ⟨_, _, _, more, _, _, rfl, hk⟩ := h
  obtain ⟨objs, ports, fns, more', waits, last, rfl, hk'⟩ := g
  exact ⟨objs, ports, fns, more ++ more', waits, last, by simp, fun k hn => (hk' k hn).trans (hk k hn)⟩

theorem Dev.answered_put (d : Dev) (k v : Nat) (h : answerCounts k) : d.Answered (d.put k v) :=
  .silent d _ d.ports d.fns d.outstanding d.servedPath fun _ hj => SMap.find_set_other _ _ _ _ fun hkj => hj (hkj ▸ h)

theorem Dev.answered_emit (d : Dev) (o : Output) : d.Answered (d.emit o) :=
  ⟨d.objs, d.ports, d.fns, [o], d.outstanding, d.servedPath, rfl, fun _ _ => rfl⟩

theorem Dev.answered_setPort (d : Dev) (p : Nat) (x : PortSt) : d.Answered (d.setPort p x) :=
  .silent d d.objs _ d.fns d.outstanding d.servedPath fun _ _ => rfl

theorem Dev.answered_setFn (d : Dev) (f : Nat) (x : FnSt) : d.Answered (d.setFn f x) :=
  .silent d d.objs d.ports _ d.outstanding d.servedPath fun _ _ => rfl

theorem Dev.answered_msix (d : Dev) (f v : Nat) : d.Answered (d.msix f v) := by
  unfold Dev.msix
  simp only
  split
  · exact d.answered_setFn _ _
  · exact d.answered_emit _

/-- A frame of class 1 to 5 sent on a port. -/
theorem Dev.answered_sendNow (d : Dev) (p cls : Nat) (payload : List Byte) (hp : p < 4) (hc : cls ≤ 5) : d.Answered (d.sendNow p cls payload) := by
  have hk : answerCounts (Obj.ggFramesSent p (cls - 1)) := by
    right; simp only [Obj.ggFramesSent]; omega
  exact ((d.answered_setPort p _).trans (Dev.answered_put _ _ _ hk)).trans (Dev.answered_emit _ _)

/-- The frame that is sent next is of a class of Table 16-4. -/
theorem PortSt.nextFrame_class {x : PortSt} {time i cls : Nat} {payload : List Byte} (h : x.nextFrame time = some i)
    (hw : x.waiting[i]? = some (cls, payload)) : cls ≤ 5 := by
  unfold PortSt.nextFrame at h
  split at h
  · next c hc =>
    have hmem := List.mem_of_find?_eq_some hc
    obtain ⟨hi, hcls, -⟩ := List.findIdx?_eq_some_iff_getElem.mp h
    obtain ⟨hi', hx⟩ := List.getElem?_eq_some_iff.mp hw
    have : cls = c := by simpa [hx] using hcls
    subst this
    simp at hmem
    omega
  · cases h

theorem Dev.answered_beginFrames (n : Nat) (d : Dev) (p : Nat) (hp : p < 4) : d.Answered (Dev.beginFrames n d p) := by
  induction n generalizing d with
  | zero => exact .refl d
  | succ n ih =>
    simp only [Dev.beginFrames]
    split
    · exact .refl d
    · next i hi =>
      split
      · exact .refl d
      · next cls payload hw =>
        exact ((d.answered_setPort p _).trans (Dev.answered_sendNow _ p cls payload hp (PortSt.nextFrame_class hi hw))).trans (ih _)

theorem Dev.answered_drainPort (d : Dev) (p : Nat) (hp : p < 4) : d.Answered (d.drainPort p) := by
  unfold Dev.drainPort
  split
  · exact d.answered_beginFrames _ p hp
  · exact .refl d

theorem Dev.answered_sendFrame (d : Dev) (p cls : Nat) (payload : List Byte) (hp : p < 4) : d.Answered (d.sendFrame p cls payload) := by
  unfold Dev.sendFrame
  simp only
  split
  · exact (d.answered_setPort p _).trans (Dev.answered_drainPort _ p hp)
  · split
    · exact d.answered_setPort p _
    · exact .refl d

theorem Dev.answered_mailboxAnswer (d : Dev) (path : Path) (f op tag idx sub ty : Nat) (data : List Byte) (abort : Nat) :
    d.Answered (d.mailboxAnswer path f op tag idx sub ty data abort) :=
  ((d.answered_setFn f _).trans (Dev.answered_msix _ f 0)).trans (Dev.answered_emit _ _)

/-- The counting of an abort and the taking of the path's turn, with which every response begins (R51). -/
def Dev.turnTaken (d : Dev) (path : Path) (abort : Nat) : Dev :=
  { (if abort = 0 then d else d.bump Obj.devMailboxAborts) with
    outstanding := SMap.del d.outstanding (Path.number path), servedPath := Path.number path }

theorem Dev.answered_turnTaken (d : Dev) (path : Path) (abort : Nat) : d.Answered (d.turnTaken path abort) := by
  unfold Dev.turnTaken
  split
  · exact .silent d d.objs d.ports d.fns _ _ fun _ _ => rfl
  · exact (d.answered_put Obj.devMailboxAborts _ (.inl rfl)).trans (.silent _ _ d.ports d.fns _ _ fun _ _ => rfl)

/-- A response on CAN (R369). -/
theorem Dev.respond_can (d : Dev) (op tag idx sub ty : Nat) (data : List Byte) (abort : Nat) :
    d.respond .can op tag idx sub ty data abort =
      (d.turnTaken .can abort).emit (.usdo (0x580 + d.can.nodeId) idx sub ty (if abort = 0 then data else []) abort) := by
  unfold Dev.respond Dev.turnTaken
  split <;> rfl

/-- A response on a Gargor port (R388). -/
theorem Dev.respond_gargor (d : Dev) (p : Fin 4) (op tag idx sub ty : Nat) (data : List Byte) (abort : Nat) :
    d.respond (.gargor p) op tag idx sub ty data abort =
      ((d.turnTaken (.gargor p) abort).sendFrame p.val 4 (responseBytes op tag idx sub ty (if abort = 0 then data else []) abort)).emit
        (.response (.gargor p) tag idx sub ty (if abort = 0 then data else []) abort) := by
  unfold Dev.respond Dev.turnTaken
  split <;> rfl

/-- A response in a function's mailbox (R356, R357). -/
theorem Dev.respond_mailbox {path : Path} {f : Nat} (d : Dev) (op tag idx sub ty : Nat) (data : List Byte) (abort : Nat)
    (hf : Path.function path = some f) (h : (d.fn f).stale = []) :
    d.respond path op tag idx sub ty data abort =
      (d.turnTaken path abort).mailboxAnswer path f op tag idx sub ty (if abort = 0 then data else []) abort := by
  have hs : ((d.turnTaken path abort).fn f).stale = [] := by
    unfold Dev.turnTaken; split <;> exact h
  cases path <;> cases hf <;> (unfold Dev.respond; split <;> simp_all [Dev.turnTaken, Path.function])

/-- A response that a reset discarded (R352). -/
theorem Dev.respond_stale {path : Path} {f : Nat} {r : List Byte} {rest : List (List Byte)} (d : Dev) (op tag idx sub ty : Nat)
    (data : List Byte) (abort : Nat) (hf : Path.function path = some f) (h : (d.fn f).stale = r :: rest) :
    d.respond path op tag idx sub ty data abort = (d.turnTaken path abort).setFn f { d.fn f with stale := rest } := by
  have hs : ((d.turnTaken path abort).fn f) = d.fn f := by
    unfold Dev.turnTaken; split <;> rfl
  cases path <;> cases hf <;> (unfold Dev.respond; split <;> simp_all [Dev.turnTaken, Path.function])

/-- A response changes nothing but what an answer may. -/
theorem Dev.answered_respond (d : Dev) (path : Path) (op tag idx sub ty : Nat) (data : List Byte) (abort : Nat) :
    d.Answered (d.respond path op tag idx sub ty data abort) := by
  have hmail : ∀ f, Path.function path = some f → d.Answered (d.respond path op tag idx sub ty data abort) := by
    intro f hf
    cases hs : (d.fn f).stale with
    | nil =>
      rw [Dev.respond_mailbox d op tag idx sub ty data abort hf hs]
      exact (d.answered_turnTaken path abort).trans (Dev.answered_mailboxAnswer _ _ _ _ _ _ _ _ _ _)
    | cons r rest =>
      rw [Dev.respond_stale d op tag idx sub ty data abort hf hs]
      exact (d.answered_turnTaken path abort).trans (Dev.answered_setFn _ _ _)
  cases path with
  | pf0 => exact hmail _ rfl
  | vf n => exact hmail _ rfl
  | can => rw [Dev.respond_can]; exact (d.answered_turnTaken _ abort).trans (Dev.answered_emit _ _)
  | gargor p =>
    rw [Dev.respond_gargor]
    exact ((d.answered_turnTaken _ abort).trans (Dev.answered_sendFrame _ _ _ _ p.isLt)).trans (Dev.answered_emit _ _)

theorem Dev.answered_deliver (d : Dev) (path : Path) (op : Nat) (req : Request) (a : Answer) : d.Answered (d.deliver path op req a) :=
  d.answered_respond ..

theorem Dev.answered_answerWrite (d : Dev) (path : Path) (key abort : Nat) : d.Answered (d.answerWrite path key abort) :=
  d.answered_respond ..

/-- An answer leaves every object that counts no answers at its value. -/
theorem Dev.Answered.val {d e : Dev} (h : d.Answered e) (k : Nat) (hk : ¬ answerCounts k) (hb : isBiasKey k = false) : e.val k = d.val k := by
  obtain ⟨_, _, _, _, _, _, rfl, hf⟩ := h
  simp [Dev.val, Dev.dflt, hb, hf k hk]

theorem Dev.Answered.faults {d e : Dev} (h : d.Answered e) : e.faults = d.faults := by
  obtain ⟨_, _, _, _, _, _, rfl, -⟩ := h; rfl
theorem Dev.Answered.drills {d e : Dev} (h : d.Answered e) : e.drills = d.drills := by
  obtain ⟨_, _, _, _, _, _, rfl, -⟩ := h; rfl
theorem Dev.Answered.drill {d e : Dev} (h : d.Answered e) (l : Nat) : e.drill l = d.drill l := by
  unfold Dev.drill; rw [h.drills]

@[simp] theorem Dev.msix_objs (d : Dev) (f v : Nat) : (d.msix f v).objs = d.objs := by
  simp only [Dev.msix]; split <;> rfl
theorem Dev.mailboxAnswer_objs (d : Dev) (path : Path) (f op tag idx sub ty : Nat) (data : List Byte) (abort : Nat) :
    (d.mailboxAnswer path f op tag idx sub ty data abort).objs = d.objs := by simp [Dev.mailboxAnswer]

/-- A response over another path than a Gargor port moves no object but DevMailboxAborts. -/
theorem Dev.respond_objs (d : Dev) (path : Path) (op tag idx sub ty : Nat) (data : List Byte) (abort : Nat) (hp : ∀ p, path ≠ .gargor p) :
    (d.respond path op tag idx sub ty data abort).objs = if abort = 0 then d.objs else (d.bump Obj.devMailboxAborts).objs := by
  have hturn : (d.turnTaken path abort).objs = if abort = 0 then d.objs else (d.bump Obj.devMailboxAborts).objs := by
    unfold Dev.turnTaken; split <;> rfl
  have hmail : ∀ f, Path.function path = some f →
      (d.respond path op tag idx sub ty data abort).objs = if abort = 0 then d.objs else (d.bump Obj.devMailboxAborts).objs := by
    intro f hf
    cases hs : (d.fn f).stale with
    | nil =>
      rw [Dev.respond_mailbox d op tag idx sub ty data abort hf hs, ← hturn]
      exact Dev.mailboxAnswer_objs _ _ _ _ _ _ _ _ _ _
    | cons r rest => rw [Dev.respond_stale d op tag idx sub ty data abort hf hs, ← hturn]; rfl
  cases path with
  | pf0 => exact hmail _ rfl
  | vf n => exact hmail _ rfl
  | can => rw [Dev.respond_can, ← hturn]; rfl
  | gargor p => exact absurd rfl (hp p)

/-- A response put into a function's mailbox makes its status 2. -/
theorem Dev.mailboxAnswer_fn (d : Dev) (path : Path) (f op tag idx sub ty : Nat) (data : List Byte) (abort : Nat) :
    ((d.mailboxAnswer path f op tag idx sub ty data abort).fn f).mailbox = 2
    ∧ ((d.mailboxAnswer path f op tag idx sub ty data abort).fn f).response = responseBytes op tag idx sub ty data abort := by
  simp only [Dev.mailboxAnswer, Dev.msix, Dev.emit_fn', Dev.fn_setFn_same]
  split <;> simp

/-- It is the last thing sent. -/
theorem Dev.mailboxAnswer_out (d : Dev) (path : Path) (f op tag idx sub ty : Nat) (data : List Byte) (abort : Nat) :
    ∃ before, (d.mailboxAnswer path f op tag idx sub ty data abort).out = d.out ++ before ++ [.response path tag idx sub ty data abort] := by
  simp only [Dev.mailboxAnswer, Dev.msix, Dev.emit_out]
  split
  · exact ⟨[], by simp⟩
  · exact ⟨[.msix f 0], by simp⟩

/-- Settles O20: each path's form of the response, and `Dev.Answered` for all that stays. -/
theorem responsesLeaveOnTheirPath : Obligations.ResponsesLeaveOnTheirPath := by
  unfold Obligations.ResponsesLeaveOnTheirPath
  intro d path op tag idx sub ty data abort d' sent
  have hout : (d.turnTaken path abort).out = d.out := by unfold Dev.turnTaken; split <;> rfl
  have hobjs := d.respond_objs path op tag idx sub ty data abort
  refine ⟨?can, ?gargor, ?mailbox, ?stale, ?_⟩
  case can =>
    rintro rfl
    simp only [d', Dev.respond_can, Dev.emit_out, hout, sent]
  case gargor =>
    rintro ⟨p, rfl⟩
    obtain ⟨_, _, _, before, _, _, hs, -⟩ := (d.turnTaken (.gargor p) abort).answered_sendFrame p.val 4 (responseBytes op tag idx sub ty sent abort) p.isLt
    refine ⟨before, ?_⟩
    simp only [d', Dev.respond_gargor, Dev.emit_out]
    rw [hs]
    simp only [hout, sent]
  case mailbox =>
    intro f hf hs
    simp only [d', Dev.respond_mailbox d op tag idx sub ty data abort hf hs]
    obtain ⟨before, hb⟩ := (d.turnTaken path abort).mailboxAnswer_out path f op tag idx sub ty sent abort
    obtain ⟨hm, hr⟩ := (d.turnTaken path abort).mailboxAnswer_fn path f op tag idx sub ty sent abort
    exact ⟨hm, hr, before, by rw [hb, hout]⟩
  case stale =>
    intro f r rest hf hs
    simp only [d', Dev.respond_stale d op tag idx sub ty data abort hf hs, Dev.fn_setFn_same, Dev.setFn_out, hout, and_self]
  obtain ⟨_, _, _, _, _, _, hd, -⟩ := d.answered_respond path op tag idx sub ty data abort
  have hsame : d'.drills = d.drills ∧ d'.chains = d.chains ∧ d'.groups = d.groups ∧ d'.slots = d.slots ∧ d'.energy = d.energy
      ∧ d'.staged = d.staged ∧ d'.commits = d.commits ∧ d'.faults = d.faults ∧ d'.power = d.power ∧ d'.nv = d.nv ∧ d'.clock = d.clock
      ∧ d'.biases = d.biases ∧ d'.now = d.now := by
    simp only [d', hd, and_self]
  simp only [hsame, true_and]
  exact ⟨fun ha hp => by simp only [d', hobjs hp, if_pos ha], fun ha hp => by simp only [d', hobjs hp, if_neg ha]; rfl⟩

end Sys2Proof.Machine
end

section
namespace Sys2Proof.Machine

/-! ### Commands whose effect is known -/

/-- A command that makes the block `e` without touching the faults leaves the state with `e`. -/
theorem devStep_eq {t : Nat} {f : Mem → Dev → Dev} {s : State} {e : Dev} (h : s.Runs) (hf : f s.mem (s.devAt t) = e)
    (he : e.faults = s.dev.faults := by rfl) : devStep t f s = .next (s.withDev e) := by
  have hf' : f s.mem (s.dev.tick t) = e := hf
  rw [devStep_keeps t f s h (by rw [hf', he]), hf']
  rfl

/-- A command whose effect is an answer leaves the state with the answered block. -/
theorem devStep_deliver {t : Nat} {f : Mem → Dev → Dev} {s : State} {e : Dev} {path : Path} {op : Nat} {req : Request} {a : Answer} (h : s.Runs)
    (hf : f s.mem (s.devAt t) = e.deliver path op req a) (he : e.faults = s.dev.faults := by rfl) :
    devStep t f s = .next (s.withDev (e.deliver path op req a)) :=
  devStep_eq h hf ((e.answered_deliver path op req a).faults.trans he)

theorem State.devAt_val (s : State) (t k : Nat) : (s.devAt t).val k = s.dev.val k := rfl
theorem State.devAt_flag (s : State) (t k : Nat) : (s.devAt t).flag k = s.dev.flag k := rfl
theorem State.devAt_can (s : State) (t : Nat) : (s.devAt t).can = s.dev.can := rfl
theorem State.devAt_fn (s : State) (t f : Nat) : (s.devAt t).fn f = s.dev.fn f := rfl
theorem State.devAt_drill (s : State) (t l : Nat) : (s.devAt t).drill l = s.dev.drill l := rfl

/-! ### The CAN port (R366–R371) -/

theorem Dev.nmtGo_allowed {d : Dev} {node : Nat} (state : Nat) (hm : d.nmtMine node = true) (hw : bit (d.val Obj.devCanWriteMask) 1 = true) :
    d.nmtGo node state = d.put Obj.canNmtState state := by simp [Dev.nmtGo, hm, hw]
theorem Dev.nmtGo_masked {d : Dev} (node state : Nat) (hw : bit (d.val Obj.devCanWriteMask) 1 = false) : d.nmtGo node state = d := by
  simp [Dev.nmtGo, hw]
theorem Dev.nmtGo_other {d : Dev} {node : Nat} (state : Nat) (hm : d.nmtMine node = false) : d.nmtGo node state = d := by
  simp [Dev.nmtGo, hm]

/-- What an NMT state command to this node does (R55, R368), for each of the three. -/
theorem nmt_command {t node state : Nat} {s : State} (h : s.Runs) (hm : (s.devAt t).nmtMine node = true) :
    (bit (s.dev.val Obj.devCanWriteMask) 1 = true →
      devStep t (fun _ d => d.nmtGo node state) s = .next (s.withDev ((s.devAt t).put Obj.canNmtState state)))
    ∧ (bit (s.dev.val Obj.devCanWriteMask) 1 = false → devStep t (fun _ d => d.nmtGo node state) s = .next (s.withDev (s.devAt t))) :=
  ⟨fun hw => devStep_eq h (Dev.nmtGo_allowed state hm hw), fun hw => devStep_eq h (Dev.nmtGo_masked node state hw)⟩

/-- An NMT state command for another node does nothing (R368). -/
theorem nmt_command_other {t node state : Nat} {s : State} (h : s.Runs) (hm : (s.devAt t).nmtMine node = false) :
    devStep t (fun _ d => d.nmtGo node state) s = .next (s.withDev (s.devAt t)) := devStep_eq h (Dev.nmtGo_other state hm)

/-- A reset command to this node starts the port anew and nothing else (R367, R368). -/
theorem nmt_reset {t node : Nat} {s : State} (h : s.Runs) (hm : (s.devAt t).nmtMine node = true) :
    devStep t (fun _ d => if d.nmtMine node then d.canReset else d) s = .next (s.withDev (s.devAt t).canReset) := devStep_eq h (if_pos hm)

/-- A reset command for another node does nothing (R368). -/
theorem nmt_reset_other {t node : Nat} {s : State} (h : s.Runs) (hm : (s.devAt t).nmtMine node = false) :
    devStep t (fun _ d => if d.nmtMine node then d.canReset else d) s = .next (s.withDev (s.devAt t)) :=
  devStep_eq h (if_neg (by simp [hm]))

/-- A heartbeat goes out when it is due, in every state but stopped (R368, R369). -/
theorem heartbeat_due {t : Nat} {s : State} (h : s.Runs) (hon : (s.devAt t).canOn = true) (hp : s.dev.val Obj.heartbeatTime * 10000000 ≠ 0)
    (hst : s.dev.val Obj.canNmtState ≠ 4) (hb : ∀ b, s.dev.can.lastBeat = some b → b + s.dev.val Obj.heartbeatTime * 10000000 ≤ (s.devAt t).now) :
    exec (.heartbeat t) s = .next (s.withDev
      (({ s.devAt t with can := { (s.devAt t).can with lastBeat := some (s.devAt t).now } } : Dev).emit
        (.can (0x700 + (s.devAt t).can.nodeId) (leBytes 1 (s.dev.val Obj.canNmtState))))) := by
  show execHeartbeat t s = _
  refine devStep_eq h (if_neg ?_)
  simp only [Bool.or_eq_true, Option.any_eq_true, decide_eq_true_eq, not_or]
  exact ⟨⟨⟨by simp [hon], hp⟩, hst⟩, fun ⟨b, hlast, hlt⟩ => absurd (hb b hlast) (Nat.not_le.mpr hlt)⟩

/-- No heartbeat goes out on a port that is off, without a period, in the stopped state or before its time. -/
theorem heartbeat_withheld {t : Nat} {s : State} (h : s.Runs)
    (hno : (s.devAt t).canOn = false ∨ s.dev.val Obj.heartbeatTime * 10000000 = 0 ∨ s.dev.val Obj.canNmtState = 4
      ∨ ∃ b, s.dev.can.lastBeat = some b ∧ (s.devAt t).now < b + s.dev.val Obj.heartbeatTime * 10000000) :
    exec (.heartbeat t) s = .next (s.withDev (s.devAt t)) := by
  show execHeartbeat t s = _
  refine devStep_eq h (if_pos ?_)
  simp only [Bool.or_eq_true, Option.any_eq_true, decide_eq_true_eq, Bool.not_eq_true', or_assoc]
  exact hno

/-- The oldest emergency message goes out, at most one per 10 ms (R369, R370). -/
theorem emcySend_due {t code register source time : Nat} {rest : List (Nat × Nat × Nat × Nat)} {s : State} (h : s.Runs)
    (he : s.dev.can.emcy = (code, register, source, time) :: rest) (hon : (s.devAt t).canOn = true) (hst : s.dev.val Obj.canNmtState ≠ 4)
    (hb : ∀ b, s.dev.can.lastEmcy = some b → b + 100000000 ≤ (s.devAt t).now) :
    exec (.emcySend t) s = .next (s.withDev
      (({ s.devAt t with can := { (s.devAt t).can with emcy := rest, lastEmcy := some (s.devAt t).now } } : Dev).emit
        (.emcy (0x80 + (s.devAt t).can.nodeId) code register source time))) := by
  show execEmcySend t s = _
  refine devStep_eq h ?_
  simp only [State.devAt_can, he]
  refine if_neg ?_
  simp only [Bool.or_eq_true, Option.any_eq_true, decide_eq_true_eq, not_or]
  exact ⟨⟨by simp [hon], hst⟩, fun ⟨b, hlast, hlt⟩ => absurd (hb b hlast) (Nat.not_le.mpr hlt)⟩

/-- None goes out on a port that is off, in the stopped state or before its time. -/
theorem emcySend_withheld {t code register source time : Nat} {rest : List (Nat × Nat × Nat × Nat)} {s : State} (h : s.Runs)
    (he : s.dev.can.emcy = (code, register, source, time) :: rest)
    (hno : (s.devAt t).canOn = false ∨ s.dev.val Obj.canNmtState = 4 ∨ ∃ b, s.dev.can.lastEmcy = some b ∧ (s.devAt t).now < b + 100000000) :
    exec (.emcySend t) s = .next (s.withDev (s.devAt t)) := by
  show execEmcySend t s = _
  refine devStep_eq h ?_
  simp only [State.devAt_can, he]
  refine if_pos ?_
  simp only [Bool.or_eq_true, Option.any_eq_true, decide_eq_true_eq, Bool.not_eq_true', or_assoc]
  exact hno

/-- Settles O46: each command's condition is tested once, on the state before it. -/
theorem theCanPortFollowsItsBus : Obligations.TheCanPortFollowsItsBus := by
  unfold Obligations.TheCanPortFollowsItsBus
  intro t s hs d
  refine ⟨fun node hm => ⟨fun hw => ?allowed, fun hw => ?masked, _, nmt_reset hs hm, nmt_reset hs hm, ?reset⟩,
    fun node hm => ?other, fun id data => ?classical, ?periodic, fun hb => ?busOff, fun hb => ?recovery⟩
  case allowed => exact ⟨(nmt_command hs hm).1 hw, (nmt_command hs hm).1 hw, (nmt_command hs hm).1 hw⟩
  case masked => exact ⟨(nmt_command hs hm).2 hw, (nmt_command hs hm).2 hw, (nmt_command hs hm).2 hw⟩
  case reset => exact ⟨Dev.val_put_same _ _ _, rfl, rfl, rfl, rfl, rfl, rfl⟩
  case other =>
    exact ⟨nmt_command_other hs hm, nmt_command_other hs hm, nmt_command_other hs hm, nmt_reset_other hs hm, nmt_reset_other hs hm⟩
  case classical => exact (devStep_eq hs rfl : execClassicalCanFrame t id data s = _)
  case periodic =>
    exact ⟨heartbeat_due hs, heartbeat_withheld hs, fun code register source time rest he => ⟨emcySend_due hs he, emcySend_withheld hs he⟩⟩
  case busOff => exact (devStep_eq hs (if_neg hb) : execCanBusOff t s = _)
  case recovery => exact (devStep_eq hs (if_pos hb) : execCanBusOffRecovery t s = _)

end Sys2Proof.Machine
end

section
namespace Sys2Proof.Machine

/-! ### The BAR0 mailbox (R48, R52, R58, R356, R357) -/

/-- A function whose link is up and which SR-IOV has enabled is reached. -/
theorem Dev.function_reached {d : Dev} {f : Nat} (hlink : d.val Obj.pcieLinkState = 2) (hvf : f ≤ d.val Obj.pcieNumVfs) :
    ¬ (d.val Obj.pcieLinkState != 2 || decide (d.val Obj.pcieNumVfs < f)) = true := by
  simp [hlink, hvf]

/-- A doorbell on an idle mailbox with a record that asks for one of the five operations submits it. -/
theorem doorbell_submits {t : Nat} {fn : Fn} {s : State} {record : List Byte} (h : s.Runs) (hlink : s.dev.val Obj.pcieLinkState = 2)
    (hvf : fn.val ≤ s.dev.val Obj.pcieNumVfs) (hm : (s.dev.fn fn.val).mailbox ≠ 1) (hop : 1 ≤ field record 0 1 ∧ field record 0 1 ≤ 5) :
    exec (.mailboxDoorbell t fn record) s =
      .next (s.withDev ((s.devAt t).setFn fn.val { s.dev.fn fn.val with mailbox := 1, request := record })) := by
  show execMailboxDoorbell t fn record s = _
  exact devStep_eq h ((if_neg (Dev.function_reached hlink hvf)).trans ((if_neg hm).trans (if_pos (by simpa using hop))))

/-- A doorbell on a busy mailbox is discarded and counted (R52). -/
theorem doorbell_discarded {t : Nat} {fn : Fn} {s : State} {record : List Byte} (h : s.Runs) (hlink : s.dev.val Obj.pcieLinkState = 2)
    (hvf : fn.val ≤ s.dev.val Obj.pcieNumVfs) (hm : (s.dev.fn fn.val).mailbox = 1) :
    exec (.mailboxDoorbell t fn record) s = .next (s.withDev ((s.devAt t).bump Obj.devMailboxDiscards)) := by
  show execMailboxDoorbell t fn record s = _
  exact devStep_eq h ((if_neg (Dev.function_reached hlink hvf)).trans (if_pos hm))

/-- The path of a function. -/
def functionPath (f : Nat) : Path := if h : 0 < f ∧ f - 1 < 8 then .vf ⟨f - 1, h.2⟩ else .pf0

/-- The physical function's path is always open, a virtual function's while its partition is enabled (R58). -/
theorem Dev.pathOpen_functionPath (d : Dev) (fn : Fn) :
    d.pathOpen (functionPath fn.val) = true ↔ fn.val = 0 ∨ bit (d.val Obj.devPartitionsEnabled) fn.val = true := by
  have hlt := fn.isLt
  by_cases h0 : fn.val = 0
  · simp [functionPath, h0, Dev.pathOpen, Path.partition]
  · have hf : 0 < fn.val ∧ fn.val - 1 < 8 := by omega
    have hsucc : fn.val - 1 + 1 = fn.val := by omega
    simp [functionPath, hf, Dev.pathOpen, Path.partition, hsucc, h0]

/-- A doorbell with a record that asks for no operation is answered with an abort: 0x05040001, or 0x08000022 on a disabled partition's function
(log entry 38). -/
theorem doorbell_refuses {t : Nat} {fn : Fn} {s : State} {record : List Byte} (h : s.Runs) (hlink : s.dev.val Obj.pcieLinkState = 2)
    (hvf : fn.val ≤ s.dev.val Obj.pcieNumVfs) (hm : (s.dev.fn fn.val).mailbox ≠ 1) (hop : field record 0 1 = 0 ∨ 5 < field record 0 1) :
    exec (.mailboxDoorbell t fn record) s =
      let d := (s.devAt t).setFn fn.val { s.dev.fn fn.val with mailbox := 1, request := record }
      .next (s.withDev (({ d.bump Obj.devMailboxAborts with servedPath := Path.number (functionPath fn.val) } : Dev).mailboxAnswer
        (functionPath fn.val) fn.val (field record 0 1) (field record 1 1) (field record 2 2) (field record 4 1) 0 []
        (if d.pathOpen (functionPath fn.val) then abortOperation else abortState))) := by
  show execMailboxDoorbell t fn record s = _
  refine devStep_eq h ((if_neg (Dev.function_reached hlink hvf)).trans ((if_neg hm).trans (if_neg ?_)))
    (Dev.answered_mailboxAnswer _ _ _ _ _ _ _ _ _ _).faults
  simp only [Bool.and_eq_true, decide_eq_true_eq]
  omega

/-- What a dword read of BAR0 finds (R356). -/
theorem statusRead_reached {t o n : Nat} {fn : Fn} {s : State} (h : s.Runs) (hlink : s.dev.val Obj.pcieLinkState = 2)
    (hvf : fn.val ≤ s.dev.val Obj.pcieNumVfs) (ho : o < 0x10000) :
    exec (.mailboxStatusRead t ⟨fn, o, n⟩) s =
      let d := s.devAt t
      let x := s.dev.fn fn.val
      .next (s.withDev (if n ≠ 4 ∨ o % 4 ≠ 0 then d.emit (.bar fn.val 0 0xFFFFFFFF)
        else if o ≠ 0x2004 then d.emit (.bar fn.val 0 (d.bar0 fn.val o))
        else if x.mailbox = 2 then (d.emit (.mailboxStatus fn.val x.mailbox)).setFn fn.val { x with mailbox := 0 }
        else d.emit (.mailboxStatus fn.val x.mailbox))) := by
  show execMailboxStatusRead t ⟨fn, o, n⟩ s = _
  refine devStep_eq h ((if_neg ?_).trans ?_) ?faults
  case faults =>
    split
    · rfl
    · split
      · rfl
      · split <;> rfl
  · have := Dev.function_reached hlink hvf
    simp only [Bool.or_eq_true, decide_eq_true_eq] at this ⊢
    exact not_or.mpr ⟨this, Nat.not_le.mpr ho⟩
  · simp only [Bool.or_eq_true, bne_iff_ne]
    rfl

/-- Settles O23: the doorbell and the read of BAR0, each by the branches of its rule. -/
theorem mailboxesTakeOneRequestAtATime : Obligations.MailboxesTakeOneRequestAtATime := by
  unfold Obligations.MailboxesTakeOneRequestAtATime
  intro t fn s hs d x hlink hvf
  have hread := fun o n => statusRead_reached (t := t) (n := n) hs hlink hvf (o := o)
  refine ⟨fun record hm h1 h5 => doorbell_submits hs hlink hvf hm ⟨h1, h5⟩, fun record hm => doorbell_discarded hs hlink hvf hm,
    fun record hm hop => ?unknown, fun hm => ?frees, fun hm => ?keeps, fun o ho hne hal => ?register, fun o n ho hal => ?misaligned⟩
  case unknown =>
    refine ⟨_, doorbell_refuses hs hlink hvf hm hop, (Dev.mailboxAnswer_fn _ _ _ _ _ _ _ _ _ _).1, ?_, rfl⟩
    refine (Dev.mailboxAnswer_fn _ _ _ _ _ _ _ _ _ _).2.trans ?_
    congr 1
    exact ite_congr (propext (Dev.pathOpen_functionPath _ fn)) (fun _ => rfl) (fun _ => rfl)
  case frees =>
    have hready : (s.dev.fn fn.val).mailbox = 2 := hm
    simp [hread 0x2004 4, hready, d, x]
  case keeps =>
    have hother : (s.dev.fn fn.val).mailbox ≠ 2 := hm
    simp [hread 0x2004 4, hother, d, x]
  case register => simp [hread o 4 ho, hne, hal, d]
  case misaligned => simp only [hread o n ho, if_pos hal, d]

end Sys2Proof.Machine
end

section
namespace Sys2Proof.Machine

/-! ### Writes of a row's object (R20, R22, R26) -/

/-- A write that passes its gate comes over an open path. -/
theorem Dev.pathOpen_of_writeGate {d : Dev} {path : Path} {key : Nat} (h : d.writeGate path key = 0) : d.pathOpen path = true := by
  cases hc : d.pathOpen path with
  | true => rfl
  | false => simp [Dev.writeGate, hc, abortState] at h

theorem lookupRow_of_rowAt {idx sub : Nat} {r : Row} (h : rowAt idx sub = some r) : lookupRow idx sub = .inl r := by
  simp [lookupRow, h]

/-- A write of a read-only object is refused (R22). -/
theorem Dev.serveWrite_readOnly {d : Dev} {path : Path} {req : Request} {r : Row} (m : Mem) (hr : rowAt req.index req.sub = some r)
    (hg : d.writeGate path (req.index * 256 + req.sub) = 0) (hacc : r.acc = .ro ∨ r.acc = .konst) :
    d.serveWrite m path req = (d, .refuse r.ty.code 0x06010002) := by
  simp [Dev.serveWrite, Dev.pathOpen_of_writeGate hg, lookupRow_of_rowAt hr, hg, hacc]

/-- A write of a value that passes R20 is what the value's own rule makes of it. -/
theorem Dev.serveWrite_value {d : Dev} {path : Path} {req : Request} {r : Row} (m : Mem) (hr : rowAt req.index req.sub = some r)
    (hg : d.writeGate path (req.index * 256 + req.sub) = 0) (hro : r.acc ≠ .ro) (hk : r.acc ≠ .konst) (hty : req.typ = 0 ∨ req.typ = r.ty.code)
    (hv : r.valueAbort req.data = 0) :
    d.serveWrite m path req = ((d.writeValue m path r req.index req.sub (ofLe req.data)).1,
      .refuse r.ty.code (d.writeValue m path r req.index req.sub (ofLe req.data)).2) := by
  have htyp : ¬ (req.typ ≠ 0 ∧ req.typ ≠ r.ty.code) := by omega
  simp [Dev.serveWrite, Dev.pathOpen_of_writeGate hg, lookupRow_of_rowAt hr, hg, hro, hk, htyp, hv]

/-- Partition 0's write of a group's field, whose value passes its rules, is staged while no commit of the group is pending (R26, R33). -/
theorem Dev.writeValue_staged {d : Dev} {path : Path} {r : Row} {k : GKind} {n idx sub v : Nat} (m : Mem) (hp : Path.partition path = 0)
    (hdom : r.ty ≠ .domain) (hf : d.foreignChannel idx sub v = false) (hm : memberOf idx sub = some (k, n))
    (hc : (d.commitOf (commitKey k n)).status ≠ 2) :
    d.writeValue m path r idx sub v =
      (({ d with staged := SMap.set d.staged (idx * 256 + sub) (stagedForm (idx * 256 + sub) v, Path.number path) } : Dev).setCommit (commitKey k n)
        { d.commitOf (commitKey k n) with status := 1 }, 0) := by
  simp [Dev.writeValue, hdom, hf, hm, hp, Dev.stage, hc]

/-- A write served on its path answers what the write has come to (R48, R51). -/
theorem write_answers {t : Nat} {path : Path} {rung req : Request} {s : State} {e : Dev} {a : Answer} (h : s.Runs)
    (hthere : (s.devAt t).pathThere path = true) (hon : (s.devAt t).onPath path 2 rung = some req)
    (hw : (s.devAt t).serveWrite s.mem path req = (e, a)) (he : e.faults = s.dev.faults) :
    exec (.write t path rung) s = .next (s.withDev (e.deliver path 2 req a)) := by
  show execWrite t path rung s = _
  refine devStep_deliver h ?_ he
  have hserved : (s.devAt t).served path 2 rung = some req := by simp [Dev.served, hthere, hon]
  simp only [hserved, hw]

/-! ### CAN transfers (R52, R54, R368, R369) -/

theorem Dev.canBusy_idle {d : Dev} (index sub : Nat) (h : d.can.transfer = none) : d.canBusy index sub = false := by simp [Dev.canBusy, h]
theorem Dev.canBusy_other {d : Dev} {index sub i u since : Nat} (h : d.can.transfer = some (i, u, since)) (hne : i ≠ index ∨ u ≠ sub) :
    d.canBusy index sub = true := by simpa [Dev.canBusy, h] using hne

/-- Only a read of GgMarginMin measures (R396). -/
theorem Dev.measure_other {d : Dev} {req : Request} (h : req.index < 0x2D10 ∨ 0x2D13 < req.index ∨ req.sub ≠ 0x14) : d.measure req = d := by
  refine if_neg ?_
  simp only [Bool.and_eq_true, decide_eq_true_eq]
  omega

/-- A frame with this node's COB-ID reaches a path that takes requests. -/
theorem Dev.usdo_reached {d : Dev} (index : Nat) (hthere : d.pathThere .can = true) :
    ¬ (!(d.pathThere .can) || !(d.usdoMine ⟨0x600 + d.can.nodeId, index⟩)) = true := by simp [hthere, Dev.usdoMine]

section
variable {t index sub : Nat} {s : State}

/-- A frame with another node's COB-ID asks nothing (R368). -/
theorem usdoUpload_other_node {c : Nat} {complete : Bool} (h : s.Runs) (hc : c ≠ 0x600 + s.dev.can.nodeId) :
    exec (.usdoUpload t ⟨c, index⟩ sub complete) s = .next (s.withDev (s.devAt t)) := by
  show execUsdoUpload _ _ _ _ _ = _
  exact devStep_eq h (if_pos (by simp [Dev.usdoMine, State.devAt_can, hc]))

variable (h : s.Runs) (hthere : (s.devAt t).pathThere .can = true)
include h hthere

/-- What an upload does on a free path, by the length of the value (R369). -/
theorem usdoUpload_free {complete : Bool} (hidle : s.dev.can.transfer = none) (hidx : index < 0x2D10 ∨ 0x2D13 < index ∨ sub ≠ 0x14) :
    let d := s.devAt t
    let req := usdoRequest index sub []
    exec (.usdoUpload t ⟨0x600 + s.dev.can.nodeId, index⟩ sub complete) s = .next (s.withDev
      (if complete = false ∧ 4 < (d.answerRead .can req).data.length then d.setTransfer (some (index, sub, d.now))
        else (d.setTransfer none).deliver .can 1 req (d.answerRead .can req))) := by
  intro d req
  show execUsdoUpload _ _ _ _ _ = _
  have hfaults : ∀ a, ((d.setTransfer none).deliver .can 1 req a).faults = s.dev.faults := fun a => (Dev.answered_deliver ..).faults
  refine devStep_eq h ((if_neg (Dev.usdo_reached index hthere)).trans ((if_neg ?_).trans ?_)) ?faults
  case faults =>
    split
    · rfl
    · exact hfaults _
  · simp [Dev.canBusy_idle (d := s.devAt t) index sub hidle]
  · simp only [Dev.measure_other (d := s.devAt t) (req := usdoRequest index sub []) hidx, Bool.and_eq_true, Bool.not_eq_true', decide_eq_true_eq]
    rfl

/-- While another object's transfer occupies the path, an upload is discarded and counted (R52). -/
theorem usdoUpload_busy {i u since : Nat} {complete : Bool} (htr : s.dev.can.transfer = some (i, u, since)) (hne : i ≠ index ∨ u ≠ sub) :
    exec (.usdoUpload t ⟨0x600 + s.dev.can.nodeId, index⟩ sub complete) s = .next (s.withDev ((s.devAt t).bump Obj.devMailboxDiscards)) := by
  show execUsdoUpload _ _ _ _ _ = _
  exact devStep_eq h ((if_neg (Dev.usdo_reached index hthere)).trans (if_pos (Dev.canBusy_other (d := s.devAt t) htr hne)))

/-- The first segment of a download to a long object occupies a free path (R369). -/
theorem usdoDownload_occupies {data : List Byte} {r : Row} (hidle : s.dev.can.transfer = none) (hr : rowAt index sub = some r) (hlen : 4 < r.ty.size) :
    exec (.usdoDownload t ⟨0x600 + s.dev.can.nodeId, index⟩ sub data false) s =
      .next (s.withDev ((s.devAt t).setTransfer (some (index, sub, (s.devAt t).now)))) := by
  show execUsdoDownload _ _ _ _ _ _ = _
  refine devStep_eq h ((if_neg (Dev.usdo_reached index hthere)).trans ((if_neg ?_).trans (if_pos ?_)))
  · simp [Dev.canBusy_idle (d := s.devAt t) index sub hidle]
  · simp [hr, hlen]

/-- A download whose last segment has come over a free path is a write (R54, R369). -/
theorem usdoDownload_writes {data : List Byte} {e : Dev} {a : Answer} (hidle : s.dev.can.transfer = none)
    (hw : ((s.devAt t).setTransfer none).serveWrite s.mem .can (usdoRequest index sub data) = (e, a)) (he : e.faults = s.dev.faults) :
    exec (.usdoDownload t ⟨0x600 + s.dev.can.nodeId, index⟩ sub data true) s =
      .next (s.withDev (e.deliver .can 2 (usdoRequest index sub data) a)) := by
  show execUsdoDownload _ _ _ _ _ _ = _
  refine devStep_deliver h ((if_neg (Dev.usdo_reached index hthere)).trans ((if_neg ?_).trans ((if_neg (by simp)).trans ?_))) he
  · simp [Dev.canBusy_idle (d := s.devAt t) index sub hidle]
  · simp only [hw]

/-- A block transfer is refused on a free path (R368). -/
theorem usdoBlockTransfer_refused (hidle : s.dev.can.transfer = none) :
    exec (.usdoBlockTransfer t ⟨0x600 + s.dev.can.nodeId, index⟩ sub) s =
      .next (s.withDev ((s.devAt t).deliver .can 0 (usdoRequest index sub []) (.refuse 0 abortOperation))) := by
  show execUsdoBlockTransfer _ _ _ _ = _
  exact devStep_deliver h ((if_neg (Dev.usdo_reached index hthere)).trans (if_neg (by simp [State.devAt_can, hidle]))) rfl

omit hthere in
/-- A transfer without a segment for 1 s ends with an abort (R369). -/
theorem usdoSegmentTimeout_aborts {i u since : Nat} (htr : s.dev.can.transfer = some (i, u, since)) (hlate : since + ticksS ≤ (s.devAt t).now) :
    exec (.usdoSegmentTimeout t) s =
      .next (s.withDev (((s.devAt t).setTransfer none).deliver .can 0 (usdoRequest i u []) (.refuse 0 abortOperation))) := by
  show execUsdoSegmentTimeout _ _ = _
  refine devStep_deliver h ?_ rfl
  simp only [State.devAt_can, htr]
  exact if_pos hlate

end

/-- Settles O24: uploads and downloads by what occupies the path, and the write of a download by the rules of R22 and R26. -/
theorem canTransfersAreAnswered : Obligations.CanTransfersAreAnswered := by
  unfold Obligations.CanTransfersAreAnswered
  intro t index sub s hs d req object
  refine ⟨fun c complete hc => usdoUpload_other_node hs hc, fun hthere => ⟨fun hidle hidx => ⟨fun complete hc => ?short, fun hlen => ?long,
    fun data r hr hlen => usdoDownload_occupies hs hthere hidle hr hlen, fun data r hr hg hacc => ?readOnly,
    fun data r k n hr hg hacc hdom hv hf hm hc => ?staged, usdoBlockTransfer_refused hs hthere hidle⟩,
    fun i u since htr => ⟨fun hne => usdoUpload_busy hs hthere htr hne, fun hlate => usdoSegmentTimeout_aborts hs htr hlate⟩⟩⟩
  case short =>
    rw [usdoUpload_free hs hthere hidle hidx, if_neg]
    rcases hc with rfl | hlen
    · simp
    · exact fun hlong => absurd hlong.2 (Nat.not_lt.mpr hlen)
  case long => rw [usdoUpload_free hs hthere hidle hidx, if_pos ⟨rfl, hlen⟩]
  case readOnly =>
    exact usdoDownload_writes hs hthere hidle (Dev.serveWrite_readOnly (d := d.setTransfer none) (req := usdoRequest index sub data) s.mem hr hg (.inl hacc)) rfl
  case staged =>
    have hwrite := Dev.serveWrite_value (d := d.setTransfer none) (path := .can) (req := usdoRequest index sub data) s.mem hr hg (by simp [hacc]) (by simp [hacc])
      (.inl rfl) hv
    rw [show (d.setTransfer none).writeValue s.mem .can r (usdoRequest index sub data).index (usdoRequest index sub data).sub
      (ofLe (usdoRequest index sub data).data) = _ from Dev.writeValue_staged (d := d.setTransfer none) s.mem rfl hdom hf hm hc] at hwrite
    refine ⟨_, usdoDownload_writes hs hthere hidle hwrite rfl, ?_, ?_, ?_, rfl⟩
    all_goals simp only [State.withDev, Dev.deliver, Dev.respond_can]
    · exact SMap.find_set_same _ _ _
    · exact congrArg CommitSt.status (Dev.commitOf_setCommit_same _ _ _)
    · rfl

end Sys2Proof.Machine
end

section
namespace Sys2Proof.Machine

/-! ### What a Notice leaves alone (R399–R401, R441) -/

/-- `e` has the drills and the flash area of `d`, and its objects below index 0x2400. -/
structure Dev.KeepsLow (d e : Dev) : Prop where
  nv : e.nv = d.nv
  drills : e.drills = d.drills
  objs : ∀ k, k < 0x240000 → SMap.find e.objs k = SMap.find d.objs k

theorem Dev.KeepsLow.refl (d : Dev) : d.KeepsLow d := ⟨rfl, rfl, fun _ _ => rfl⟩
theorem Dev.KeepsLow.trans {d e f : Dev} (h : d.KeepsLow e) (g : e.KeepsLow f) : d.KeepsLow f :=
  ⟨g.nv.trans h.nv, g.drills.trans h.drills, fun k hk => (g.objs k hk).trans (h.objs k hk)⟩
theorem Dev.keepsLow_put (d : Dev) (k v : Nat) (h : 0x240000 ≤ k) : d.KeepsLow (d.put k v) :=
  ⟨rfl, rfl, fun _ hj => SMap.find_set_other _ _ _ _ (by omega)⟩
theorem Dev.keepsLow_foldl {α : Type} (f : Dev → α → Dev) (h : ∀ d a, Dev.KeepsLow d (f d a)) (l : List α) (d : Dev) : d.KeepsLow (l.foldl f d) := by
  induction l generalizing d with
  | nil => exact .refl d
  | cons a l ih => exact (h d a).trans (ih _)

theorem Dev.keepsLow_setGleaner (d : Dev) (n : Nat) (x : Gleaner) : d.KeepsLow (d.setGleaner n x) := ⟨rfl, rfl, fun _ _ => rfl⟩

theorem Dev.keepsLow_msix (d : Dev) (f v : Nat) : d.KeepsLow (d.msix f v) := by
  simp only [Dev.msix]; split <;> exact ⟨rfl, rfl, fun _ _ => rfl⟩

theorem Dev.keepsLow_fireAt (d : Dev) (ch : Nat) (time : EvTime) (fromLink : Bool) : d.KeepsLow (d.fireAt ch time fromLink) := by
  have hflags : 0x240000 ≤ Obj.evtFlags ch := by simp only [Obj.evtFlags]; omega
  have hdropped : 0x240000 ≤ Obj.evtDropped ch := by simp only [Obj.evtDropped]; omega
  unfold Dev.fireAt
  split
  · exact .refl d
  · split
    · exact (d.keepsLow_put _ _ hdropped).trans (Dev.keepsLow_put _ _ _ hflags)
    · extract_lets w r e
      have he : d.KeepsLow e := ⟨rfl, rfl, fun _ _ => rfl⟩
      split
      · exact he.trans (e.keepsLow_put Obj.evtQueuePeak _ (by decide))
      · exact he

theorem Dev.keepsLow_gleanPeak (d : Dev) (tile : Nat) : d.KeepsLow (d.gleanPeak tile) := by
  simp only [Dev.gleanPeak]
  split
  · exact d.keepsLow_put _ _ (by simp only [Obj.glnBufferPeak]; omega)
  · exact .refl d

theorem Dev.keepsLow_reportGaps (d : Dev) (tile : Nat) : d.KeepsLow (d.reportGaps tile) := by
  have hgaps : 0x240000 ≤ Obj.glnGaps tile := by simp only [Obj.glnGaps]; omega
  unfold Dev.reportGaps
  extract_lets g n gaps
  split
  · exact .refl d
  · refine ((d.keepsLow_setGleaner tile _).trans (Dev.keepsLow_gleanPeak _ tile)).trans (Dev.keepsLow_foldl _ (fun e _ => ?_) _ _)
    exact (e.keepsLow_put _ _ hgaps).trans (Dev.keepsLow_fireAt _ _ _ _)

theorem Dev.keepsLow_gleanLoss (d : Dev) (tile : Nat) (r : GlnRec) : d.KeepsLow (d.gleanLoss tile r) :=
  (d.keepsLow_setGleaner tile _).trans (Dev.keepsLow_put _ _ _ (by simp only [Obj.glnLost]; omega))

theorem Dev.keepsLow_gleanInto (d : Dev) (tile : Nat) (r : GlnRec) : d.KeepsLow (d.gleanInto tile r) := by
  unfold Dev.gleanInto
  extract_lets e g
  refine (d.keepsLow_reportGaps tile).trans ?_
  split
  · exact (e.keepsLow_setGleaner tile _).trans (Dev.keepsLow_gleanPeak _ tile)
  · split
    · split
      · exact (e.keepsLow_setGleaner tile _).trans (Dev.keepsLow_gleanLoss _ tile _)
      · exact Dev.keepsLow_gleanLoss _ tile _
    · exact Dev.keepsLow_gleanLoss _ tile _

theorem Dev.keepsLow_glean (d : Dev) (tile kind source time value : Nat) : d.KeepsLow (d.glean tile kind source time value) := by
  simp only [Dev.glean]
  split
  · exact d.keepsLow_gleanInto tile _
  · exact .refl d

/-- A Notice bit raised makes records and signals, and touches neither drills, flash area nor the objects below index 0x2400. -/
theorem Dev.keepsLow_raise_notice (d : Dev) (b : Nat) (present : Bool) (hb : faultClass b = some 0) : d.KeepsLow (d.raise b present) := by
  have hcount : d.KeepsLow (d.bump (Obj.faultClassCount 0)) := d.keepsLow_put _ _ (by decide)
  simp only [Dev.raise, Dev.raiseIn, hb]
  split
  · exact hcount.trans ⟨rfl, rfl, fun _ _ => rfl⟩
  · simp only [Nat.reduceEqDiff, if_false, if_true, Bool.false_and, decide_false]
    refine (hcount.trans ?_).trans (((Dev.keepsLow_glean _ 0 6 b _ _).trans (Dev.keepsLow_msix _ 0 18)).trans (Dev.keepsLow_fireAt _ _ _ _))
    exact ⟨rfl, rfl, fun _ _ => rfl⟩

/-! ### The flash write (R41–R43) -/

/-- The values written to flash, object after object. -/
def Dev.flashed (d : Dev) (ks : List Nat) (m : SMap Nat) : SMap Nat := ks.foldl (fun m k => SMap.set m k (d.val k)) m

/-- Each object written is held in flash with its value. -/
theorem Dev.find_flashed (d : Dev) (ks : List Nat) (m : SMap Nat) (k : Nat) (h : k ∈ ks ∨ SMap.find m k = some (d.val k)) :
    SMap.find (d.flashed ks m) k = some (d.val k) := by
  induction ks generalizing m with
  | nil => exact h.resolve_left (by simp)
  | cons a ks ih =>
    refine ih _ ?_
    by_cases ha : a = k
    · exact .inr (ha ▸ SMap.find_set_same _ _ _)
    · rw [SMap.find_set_other _ _ _ _ ha]
      exact h.imp_left fun hm => (List.mem_cons.mp hm).resolve_left (Ne.symm ha)

/-- The block once its written values have gone to flash, before the wear is judged. -/
def Dev.flashWritten (d : Dev) : Dev :=
  ({ d.used with nv := { d.nv with pending := [], stored := d.flashed d.nv.pending d.nv.stored, writes := d.nv.writes + 1 } } : Dev).put
    Obj.devNvWear (d.val Obj.devNvWear + d.freeNow % 2)

/-- A flash write is that, with a Notice when the wear nears its limit (R43). -/
theorem nvFlashWrite_eq {t : Nat} {s : State} (h : s.Runs) (hp : s.dev.nv.pending ≠ []) :
    ∃ e noticed, exec (.nvFlashWrite t) s = .next (s.withDev (s.dev.seal e))
      ∧ ({ (s.devAt t).flashWritten with nv := { (s.devAt t).flashWritten.nv with noticed := noticed } } : Dev).KeepsLow e := by
  have hpend : ¬ (s.devAt t).nv.pending.isEmpty = true := by simpa [State.devAt] using hp
  let e := (s.devAt t).flashWritten
  have hexec : exec (.nvFlashWrite t) s = .next (s.withDev (s.dev.seal
      (if 90000 ≤ (s.devAt t).val Obj.devNvWear + (s.devAt t).freeNow % 2 && !(s.devAt t).nv.noticed then
        ({ e with nv := { e.nv with noticed := true } } : Dev).raise 115 true else e))) := by
    show execNvFlashWrite t s = _
    unfold execNvFlashWrite
    rw [devStep_live t _ s h]
    exact congrArg (fun x => Host.Outcome.next (s.withDev (s.dev.seal x))) (if_neg hpend)
  rw [hexec]
  split
  · exact ⟨_, true, rfl, Dev.keepsLow_raise_notice _ 115 true rfl⟩
  · exact ⟨_, e.nv.noticed, rfl, .refl e⟩

/-- Settles O28: the written values stand in flash, and the Notice that the wear may raise after them touches none of what the statement names. -/
theorem nvValuesGoToFlash : Obligations.NvValuesGoToFlash := by
  unfold Obligations.NvValuesGoToFlash
  intro t s hs hp
  obtain ⟨e, noticed, hexec, hkeep⟩ := nvFlashWrite_eq (t := t) hs hp
  have hnv : (s.dev.seal e).nv = _ := hkeep.nv
  refine ⟨_, hexec, congrArg NvArea.pending hnv, congrArg NvArea.writes hnv, fun k hk => ?stored, ?wear, hkeep.drills, rfl⟩
  case stored =>
    rw [show (s.withDev (s.dev.seal e)).dev.nv.stored = _ from congrArg NvArea.stored hnv]
    exact (s.devAt t).find_flashed _ _ k (.inl hk)
  case wear =>
    have hwear : SMap.find e.objs Obj.devNvWear = some (s.dev.val Obj.devNvWear + (s.devAt t).freeNow % 2) :=
      (hkeep.objs _ (by decide)).trans (SMap.find_set_same _ _ _)
    have hval : (s.withDev (s.dev.seal e)).dev.val Obj.devNvWear = s.dev.val Obj.devNvWear + (s.devAt t).freeNow % 2 := by
      show (SMap.find e.objs Obj.devNvWear).getD _ = _
      rw [hwear]; rfl
    rw [hval]
    omega

/-! ### Reset (R24) -/

/-- Settles O58: after reset no object is stored, so that each reads its default. -/
theorem resetHoldsEveryDefault : Obligations.ResetHoldsEveryDefault := by
  unfold Obligations.ResetHoldsEveryDefault
  have hval : ∀ k, isBiasKey k = false → State.reset.dev.val k = tableDefault k := by
    intro k hk
    have hnone : SMap.find State.reset.dev.objs k = none := rfl
    simp [Dev.val, Dev.dflt, hnone, hk]
  exact ⟨rfl, rfl, fun _ => rfl, rfl, rfl, rfl, rfl, hval, rfl, fun _ => rfl⟩

end Sys2Proof.Machine
end

section
namespace Sys2Proof.Machine

/-! ### States in which a statement of this family fails -/

/-- The block after start-up: out of reset, its mailboxes open, DevState 1. -/
def startedBlock : Dev :=
  ({ Dev.reset with power := { Dev.reset.power with inReset := false, pinLow := false, readsOpen := true } } : Dev).put Obj.devState 1
/-- A state with this block, DDR5 zero and no command waiting. -/
def stateOf (d : Dev) : State := { State.reset with dev := d }

/-! #### A read rung before a reset -/

/-- A READ of DeviceType (R48). -/
def deviceTypeRead : Request := { tag := 0, index := 0x1000, sub := 0, typ := 0, data := [] }
/-- Its record. -/
def deviceTypeRecord : List Byte := byteList [1, 0, 0x00, 0x10, 0, 0, 0, 0, 0, 0, 0, 0, 0, 0, 0, 0]
/-- The row of DeviceType. -/
def deviceTypeRow : Row := ⟨0x1000, 1, 0x0, 0x0, .u32, .konst, 0, 0, .any, .any, none⟩
/-- The physical function's mailbox is busy with a record of no operation, and behind it waits a READ rung before a reset of the function (R352). -/
def staleReadBlock : Dev := { startedBlock with fns := [(0, { FnSt.init with mailbox := 1, stale := [deviceTypeRecord] })] }

/-- READ serves the older record: that record is completed and no longer waits. -/
theorem staleRead_served :
    exec (.read 0 .pf0 deviceTypeRead) (stateOf staleReadBlock) ≠ .next ((stateOf staleReadBlock).withDev ((stateOf staleReadBlock).devAt 0)) := by
  intro h
  have hstale := congrArg (fun s : State => (s.dev.fn 0).stale.length) (Host.Outcome.next.inj h)
  revert hstale
  decide +kernel

/-- Refutes O21, in its last clause: a READ does something while the mailbox of the physical function is busy with another operation, where a READ
rung before a reset still waits ahead of it (R352), as in `staleReadBlock`. -/
theorem not_readsAnswerAndChangeNothing : ¬ Obligations.ReadsAnswerAndChangeNothing := by
  unfold Obligations.ReadsAnswerAndChangeNothing
  intro h
  obtain ⟨-, -, hbusy⟩ := h 0 .pf0 deviceTypeRead deviceTypeRead deviceTypeRow (stateOf staleReadBlock) (by unfold State.Runs; decide) (by decide)
    (by decide) (by decide) (.inl rfl)
  exact staleRead_served (hbusy (by decide) rfl (by decide))

/-! #### A slot that another partition owns -/

/-- The block with one virtual function, whose partition 1 is enabled and owns nothing. -/
def guestBlock : Dev := ((startedBlock.put Obj.pcieLinkState 2).put Obj.pcieNumVfs 1).put Obj.devPartitionsEnabled 3
/-- The same with a pending commit of sheaf group 0. -/
def guestCommitBlock : Dev := guestBlock.setCommit (Obj.sheafCommit 0) { CommitSt.init with status := 2 }
/-- Partition 1 writes SheafSlotCount of group 0 as 1: the scope then takes in slot 0, of an input that partition 0 owns. -/
def foreignSlotWrite : Request := { tag := 0, index := 0x2A80, sub := 4, typ := 0, data := [1, 0] }
/-- The row of SheafSlotCount. -/
def sheafSlotCountRow : Row := ⟨0x2a80, 64, 0x4, 0x4, .u16, .rwc, 0, 0, .any, .upTo 1024, some .sheaf⟩

/-- A guest's write of a sheaf field that would take in what it does not own is refused with 0xA0000001 before anything else of its group is looked
at. -/
theorem Dev.writeValue_foreignSheaf {d : Dev} {path : Path} {r : Row} {n idx sub v : Nat} (m : Mem) (hp : Path.partition path ≠ 0)
    (hdom : r.ty ≠ .domain) (hf : d.foreignChannel idx sub v = false) (hm : memberOf idx sub = some (.sheaf, n))
    (hown : ({ d with staged := SMap.set d.staged (idx * 256 + sub) (v, Path.number path) } : Dev).ownsSheaf (Path.partition path) n = false) :
    d.writeValue m path r idx sub v = (d, abortAccess) := by
  simp [Dev.writeValue, hdom, hf, hm, hp, hown]

/-- So it is here, without and with a pending commit. -/
theorem foreignSlotWrite_refused {s : State} (h : s = stateOf guestBlock ∨ s = stateOf guestCommitBlock) :
    exec (.write 0 (.vf 0) foreignSlotWrite) s =
      .next (s.withDev ((s.devAt 0).deliver (.vf 0) 2 foreignSlotWrite (.refuse sheafSlotCountRow.ty.code abortAccess))) := by
  have hvalue : (s.devAt 0).writeValue s.mem (.vf 0) sheafSlotCountRow 0x2A80 4 1 = (s.devAt 0, abortAccess) := by
    rcases h with rfl | rfl <;>
      exact Dev.writeValue_foreignSheaf (n := 0) _ (by decide) (by decide) (by decide) (by decide) (by decide)
  have hserve : (s.devAt 0).serveWrite s.mem (.vf 0) foreignSlotWrite = (s.devAt 0, .refuse sheafSlotCountRow.ty.code abortAccess) := by
    have hgate : (s.devAt 0).writeGate (.vf 0) (0x2A80 * 256 + 4) = 0 := by rcases h with rfl | rfl <;> decide +kernel
    rw [Dev.serveWrite_value (req := foreignSlotWrite) (r := sheafSlotCountRow) s.mem (by decide) hgate (by decide) (by decide) (.inl rfl) (by decide)]
    exact congrArg (fun w : Dev × Nat => (w.1, Answer.refuse sheafSlotCountRow.ty.code w.2)) hvalue
  rcases h with rfl | rfl <;> exact write_answers (by unfold State.Runs; decide) (by decide +kernel) (by decide +kernel) hserve rfl

/-- Refutes O22: a write of a group's field is checked once more than the statement says. A guest's write of a sheaf field passes every check it names,
and is refused for the ownership of the scope it would stage (chapter 12), as in `guestBlock`. -/
theorem not_writesStageOrAreRefused : ¬ Obligations.WritesStageOrAreRefused := by
  unfold Obligations.WritesStageOrAreRefused
  intro h
  obtain ⟨-, -, hpass⟩ := h 0 (.vf 0) foreignSlotWrite foreignSlotWrite sheafSlotCountRow (stateOf guestBlock) (by unfold State.Runs; decide)
    (by decide +kernel) (by decide +kernel) (by decide +kernel) (by decide) (by decide +kernel)
  obtain ⟨hstage, -⟩ := (hpass (by decide) (by decide) (.inl rfl)).2 (by decide) (by decide) (by decide)
  have hboth := (foreignSlotWrite_refused (.inl rfl)).symm.trans (hstage .sheaf 0 (by decide) (by decide))
  have hstaged := congrArg (fun s : State => s.dev.staged.length) (Host.Outcome.next.inj hboth)
  revert hstaged
  decide +kernel

/-- Refutes O25, in its first clause: while a commit of a sheaf group is pending, a guest's write of a field of the group that would take in what it
does not own is refused with 0xA0000001 and not with 0xA0000002, as in `guestCommitBlock`. -/
theorem not_commitWritesAreAcceptedRefusedOrCancelled : ¬ Obligations.CommitWritesAreAcceptedRefusedOrCancelled := by
  unfold Obligations.CommitWritesAreAcceptedRefusedOrCancelled
  intro h
  obtain ⟨hpending, -⟩ := h 0 (.vf 0) 0x2A80 1 false .sheaf 0 (stateOf guestCommitBlock) (by unfold State.Runs; decide) (by decide)
    ⟨by decide +kernel, by decide +kernel⟩ (by decide)
  obtain ⟨-, -, -, -, hfields⟩ := hpending (by decide)
  have hfield := hfields foreignSlotWrite sheafSlotCountRow (by decide) (by decide) (by decide +kernel) (by decide) (by decide) (.inl rfl) (by decide)
    (by decide) (by decide) foreignSlotWrite (by decide +kernel)
  have hboth := (foreignSlotWrite_refused (.inr rfl)).symm.trans hfield
  have hresponse := congrArg (fun s : State => (s.dev.fn 1).response) (Host.Outcome.next.inj hboth)
  revert hresponse
  decide +kernel

/-! #### A load whose data could not be read -/

/-- The kernel commit of slot 0 is pending and waits for its load. -/
def loadingBlock : Dev := startedBlock.setCommit (Obj.slotKernelCommit 0) { CommitSt.init with status := 2, boundary := 1, loading := true }

/-- The load's end with an uncorrectable error raises the memory fault 117 (R323). -/
theorem failedLoad_raises :
    exec (.commitLoadComplete 0 0x3440 2 false) (stateOf loadingBlock) ≠
      .next ((stateOf loadingBlock).withDev (((stateOf loadingBlock).devAt 0).refuseCommit (Obj.slotKernelCommit 0) 0xA0000009)) := by
  intro h
  have hsticky := congrArg (fun s : State => s.dev.faults.sticky) (Host.Outcome.next.inj h)
  revert hsticky
  decide +kernel

/-- Refutes O27, in its third clause: a commit whose data could not be read is refused, but the refusal is not all that the command does: the error is
counted on its channel and raises fault 117 (R323), as in `loadingBlock`. -/
theorem not_pendingCommitsTakeEffectAtTheirBoundary : ¬ Obligations.PendingCommitsTakeEffectAtTheirBoundary := by
  unfold Obligations.PendingCommitsTakeEffectAtTheirBoundary
  intro h
  obtain ⟨-, -, hfailed, -⟩ := h 0 0x3440 2 .kernel 0 (stateOf loadingBlock) (by unfold State.Runs; decide) (by decide) (by decide)
  exact failedLoad_raises (hfailed (by decide) (by decide) (by decide))

end Sys2Proof.Machine
end

section
namespace Sys2Proof.Machine

/-! ### A commit that takes effect (R27) -/

/-- The staged fields of a group are staged, and belong to it. -/
theorem Dev.mem_stagedKeys {d : Dev} {k : GKind} {n x : Nat} :
    x ∈ d.stagedKeys k n ↔ x ∈ d.staged.map Prod.fst ∧ memberOf (keyIndex x) (keySub x) = some (k, n) := by
  simp [Dev.stagedKeys, List.mem_filter]

/-- The objects after values have been put, key after key. -/
theorem Dev.find_foldl_put (f : Nat → Nat) (ks : List Nat) (d : Dev) (x : Nat) :
    SMap.find (ks.foldl (fun e k => e.put k (f k)) d).objs x = if x ∈ ks then some (f x) else SMap.find d.objs x := by
  induction ks generalizing d with
  | nil => simp
  | cons k ks ih =>
    rw [List.foldl_cons, ih]
    by_cases hk : x = k
    · subst hk; simp
    · simp [hk, SMap.find_set_other _ _ _ _ (Ne.symm hk)]

/-- Staged values put in force, taken from what is staged and their commit's state noted: what that makes of a block. -/
theorem Dev.foldl_put_setCommit (f : Nat → Nat) (keep : Nat × Nat × Nat → Bool) (key : Nat) (c : CommitSt) (ks : List Nat) (d : Dev) :
    ({ ks.foldl (fun e k => e.put k (f k)) d with staged := (ks.foldl (fun e k => e.put k (f k)) d).staged.filter keep } : Dev).setCommit key c =
      { d with objs := (ks.foldl (fun e k => e.put k (f k)) d).objs, staged := d.staged.filter keep, commits := SMap.set d.commits key c } := by
  induction ks generalizing d with
  | nil => rfl
  | cons k ks ih => exact ih (d.put k (f k))

/-- A map without the keys of a list lists none of them. -/
theorem SMap.find_filter_not_mem {α : Type} (m : SMap α) (ks : List Nat) (x : Nat) (h : x ∈ ks) :
    SMap.find (List.filter (fun p => !(ks.contains p.1)) m) x = none := by
  induction m with
  | nil => rfl
  | cons p r ih =>
    obtain ⟨k, v⟩ := p
    cases hk : ks.contains k with
    | true => rwa [List.filter_cons_of_neg (by simpa using hk)]
    | false =>
      have hne : k ≠ x := fun he => by simp [he, h] at hk
      rw [List.filter_cons_of_pos (by simpa using hk), SMap.find, if_neg hne]
      exact ih

/-- Wall time counts on, or the meters run up, before a plain group's values change (R75, R319). -/
theorem Dev.beforeValues_plain {k : GKind} (hk : k.plain = true) (d : Dev) (n : Nat) :
    ∃ b, (if k = .time then d.rebase else if k = .dac then d.flushTail n else if k = .wave || k = .fetch then d.settleMeters n else d) = b
      ∧ ∃ clock memctl, b = { d with clock := clock, memctl := memctl } := by
  cases k with
  | time => exact ⟨_, rfl, d.rebase.clock, d.memctl, rfl⟩
  | fetch => exact ⟨_, rfl, d.clock, (d.settleMeters n).memctl, rfl⟩
  | lane | input | disc | feedback | ggDevice | ggBulk | evtChannel | calScope => exact ⟨_, rfl, d.clock, d.memctl, rfl⟩
  | _ => cases hk

/-- A plain group's values only wait to be read, but that captures note how a slot is tuned (R179). -/
theorem Dev.inForce_plain {k : GKind} (hk : k.plain = true) (d old : Dev) (m : Mem) (n tick : Nat) :
    ∃ captures, d.inForce old m k n tick = { d with captures := captures } := by
  cases k with
  | disc => exact ⟨(d.retune n tick).captures, rfl⟩
  | time | fetch | lane | input | feedback | ggDevice | ggBulk | evtChannel | calScope => exact ⟨d.captures, rfl⟩
  | _ => cases hk

/-- What a plain group's commit makes of the block. -/
theorem Dev.applyCommit_plain {d : Dev} {k : GKind} (m : Mem) (key n tick : Nat) (hk : k.plain = true) (hc : (d.commitOf key).carried = none) :
    ∃ b captures, (∃ clock memctl, b = { d with clock := clock, memctl := memctl }) ∧ d.applyCommit m key k n tick =
      { b with
        objs := ((d.stagedKeys k n).foldl (fun e x => e.put x (b.stagedVal x)) b).objs
        staged := b.staged.filter (fun p => !((d.stagedKeys k n).contains p.1))
        commits := SMap.set b.commits key { d.commitOf key with status := 3, boundary := 0, loading := false, carried := none }
        captures := captures } := by
  obtain ⟨b, hb, hold⟩ := d.beforeValues_plain hk n
  have hprogram : k ≠ .program := by rintro rfl; cases hk
  unfold Dev.applyCommit
  simp only [hc, Option.isSome_none, Bool.and_false, Bool.false_eq_true, if_false, hb, hprogram, decide_false, Bool.false_and]
  obtain ⟨captures, hforce⟩ := Dev.inForce_plain hk _ b m n tick
  refine ⟨b, captures, hold, hforce.trans ?_⟩
  rw [Dev.foldl_put_setCommit]

/-- Settles O26: a plain group puts its values and no more, so each field is found as the fold over the staged keys leaves it. -/
theorem appliedCommitsBringTheStagedValues : Obligations.AppliedCommitsBringTheStagedValues := by
  unfold Obligations.AppliedCommitsBringTheStagedValues
  intro d m key k n tick hk hc
  obtain ⟨b, captures, ⟨clock, memctl, rfl⟩, h⟩ := Dev.applyCommit_plain m key n tick hk hc
  have hobjs : ∀ x, SMap.find (d.applyCommit m key k n tick).objs x =
      if x ∈ d.stagedKeys k n then some (d.stagedVal x) else SMap.find d.objs x := by
    intro x
    rw [h]
    exact Dev.find_foldl_put _ _ _ x
  refine ⟨fun x hx => ?_, fun x hx => ?_, fun x hx => ?_, ?_, ?_⟩
  · simp [Dev.val, hobjs, hx]
  · rw [h]
    exact SMap.find_filter_not_mem _ _ x hx
  · rw [hobjs, if_neg hx]
  · rw [h]
    exact congrArg CommitSt.status (Dev.commitOf_setCommit_same d key _)
  · rw [h]
    exact ⟨rfl, rfl, rfl⟩

end Sys2Proof.Machine
end

section
namespace Sys2Proof.Machine

/-! ### What ends shots and stops lanes leaves alone (R60, R115, R229) -/

/-- A drill that is stopped, follows no prediction and has nothing at the issue port. -/
def Drill.AtRest (r : Drill) : Prop := r.run = .stopped ∧ r.shadow = none ∧ r.ready = []

/-- DevRfEnable, and the objects that hold a lane's shot group or LaneRun: those a lane's stop turns on. -/
def steersLanes (k : Nat) : Prop := k = Obj.devRfEnable ∨ (0x300000 ≤ k ∧ (k % 256 = 4 ∨ k % 256 = 7))

/-- `e` is `d` after shots have ended or lanes have stopped: no fault bit has moved, no lane at rest has started, and of the objects that steer
lanes only LaneRun has moved, to 0. -/
structure Dev.Calms (d e : Dev) : Prop where
  faults : e.faults = d.faults
  objs : ∀ k, steersLanes k → SMap.find e.objs k = SMap.find d.objs k ∨ (k % 256 = 7 ∧ SMap.find e.objs k = some 0)
  rest : ∀ l, (d.drill l).AtRest → (e.drill l).AtRest

theorem Dev.Calms.trans {d e f : Dev} (h : d.Calms e) (g : e.Calms f) : d.Calms f where
  faults := g.faults.trans h.faults
  objs k hk := by
    rcases g.objs k hk with he | hzero
    · rw [he]; exact h.objs k hk
    · exact .inr hzero
  rest l hl := g.rest l (h.rest l hl)

/-- What moves neither faults, objects nor drills. -/
theorem Dev.Calms.of_same {d e : Dev} (hf : e.faults = d.faults) (ho : e.objs = d.objs) (hd : e.drills = d.drills) : d.Calms e where
  faults := hf
  objs k _ := .inl (by rw [ho])
  rest l hl := by unfold Dev.drill; rw [hd]; exact hl

theorem Dev.Calms.refl (d : Dev) : d.Calms d := .of_same rfl rfl rfl

theorem Dev.Calms.when {d e : Dev} (c : Prop) [Decidable c] (h : d.Calms e) : d.Calms (if c then e else d) := by
  split
  · exact h
  · exact .refl d

theorem Dev.Calms.foldl {α : Type} {f : Dev → α → Dev} (h : ∀ (e : Dev) x, e.Calms (f e x)) (xs : List α) (d : Dev) : d.Calms (xs.foldl f d) := by
  induction xs generalizing d with
  | nil => exact .refl d
  | cons x xs ih => exact (h d x).trans (ih _)

theorem Dev.calms_put (d : Dev) (k v : Nat) (h : ¬ steersLanes k) : d.Calms (d.put k v) where
  faults := rfl
  objs _ hj := .inl (SMap.find_set_other _ _ _ _ fun hkj => h (hkj ▸ hj))
  rest _ hl := hl
theorem Dev.calms_bump (d : Dev) (k : Nat) (h : ¬ steersLanes k) : d.Calms (d.bump k) := d.calms_put k _ h
theorem Dev.calms_bump64 (d : Dev) (k : Nat) (h : ¬ steersLanes k) : d.Calms (d.bump64 k) := d.calms_put k _ h

/-- LaneRun at 0. -/
theorem Dev.calms_laneRun (d : Dev) (l : Nat) : d.Calms (d.put (Obj.laneRun l) 0) where
  faults := rfl
  objs k _ := by
    by_cases hk : Obj.laneRun l = k
    · subst hk
      exact .inr ⟨by simp only [Obj.laneRun]; omega, SMap.find_set_same _ _ _⟩
    · exact .inl (SMap.find_set_other _ _ _ _ hk)
  rest _ hl := hl

theorem Dev.calms_setDrill {d : Dev} {l : Nat} {r : Drill} (h : (d.drill l).AtRest → r.AtRest) : d.Calms (d.setDrill l r) where
  faults := rfl
  objs _ _ := .inl rfl
  rest m hm := by
    by_cases hlm : l = m
    · subst hlm; rw [Dev.drill_setDrill_same]; exact h hm
    · rwa [Dev.drill_setDrill_other _ _ _ _ hlm]

/-- A lane's counters and reports steer no lane. -/
theorem lane_counters_steer_none (l : Nat) :
    ¬ steersLanes (Obj.laneShots l) ∧ ¬ steersLanes (Obj.laneSpoiled l) ∧ ¬ steersLanes (Obj.laneLastSpoil l)
    ∧ ¬ steersLanes (Obj.laneSpecSquashed l) ∧ ¬ steersLanes (Obj.laneMispredictSpoils l) ∧ ¬ steersLanes (Obj.stripLeadMin (l / 8) (l % 8)) := by
  simp only [steersLanes, Obj.devRfEnable, Obj.laneShots, Obj.laneSpoiled, Obj.laneLastSpoil, Obj.laneSpecSquashed, Obj.laneMispredictSpoils,
    Obj.stripLeadMin]
  omega

/-- The counters of the whole unit steer none. -/
theorem unit_counters_steer_none :
    ¬ steersLanes Obj.fbSpecConfirmed ∧ ¬ steersLanes Obj.fbSpecSquashed ∧ ¬ steersLanes Obj.fbSpecUnconfirmable ∧ ¬ steersLanes Obj.devCommitsDeferred := by
  simp only [steersLanes, Obj.devRfEnable, Obj.fbSpecConfirmed, Obj.fbSpecSquashed, Obj.fbSpecUnconfirmable, Obj.devCommitsDeferred]
  omega

/-! #### Spoiled shots -/

theorem Dev.calms_countSpoil (d : Dev) (lanes : List Nat) (shot : Nat) (old : Option Spoil) (new : Spoil) : d.Calms (d.countSpoil lanes shot old new) := by
  refine .foldl (fun e l => ?_) lanes d
  obtain ⟨-, hspoiled, hlast, -, hmiss, -⟩ := lane_counters_steer_none l
  refine Dev.Calms.trans (Dev.Calms.trans ?_ (Dev.Calms.when _ (Dev.calms_put _ _ _ hlast))) (Dev.Calms.when _ (Dev.calms_bump _ _ hmiss))
  exact Dev.Calms.when _ (Dev.calms_bump64 _ _ hspoiled)

theorem Dev.calms_spoilShot (d : Dev) (g shot : Nat) (r : Reason) (time cause : Nat) : d.Calms (d.spoilShot g shot r time cause) := by
  unfold Dev.spoilShot
  simp only
  split
  · refine Dev.Calms.trans ?_ (Dev.calms_countSpoil ..)
    exact .of_same rfl rfl rfl
  · split
    · refine Dev.Calms.trans ?_ (Dev.calms_countSpoil ..)
      exact .of_same rfl rfl rfl
    · exact .refl d

theorem Dev.calms_spoilAll (d : Dev) (r : Reason) : d.Calms (d.spoilAll r) := .foldl (fun _ _ => Dev.calms_spoilShot ..) _ d

/-! #### Entries that end, and mutes -/

theorem Drill.AtRest.settled {r : Drill} (h : r.AtRest) : r.settled.AtRest := by
  unfold Drill.settled
  split <;> exact h

theorem Drill.AtRest.mute {r : Drill} (h : r.AtRest) (shot from_ : Nat) (here : Bool) : (r.mute shot from_ here).AtRest := by
  obtain ⟨hrun, hshadow, hready⟩ := h
  exact Drill.AtRest.settled ⟨hrun, by simp [hshadow], by simp [hready, cutJobs]⟩

theorem Dev.calms_unpair (d : Dev) (v : VptEntry) : d.Calms (d.unpair v) := by
  unfold Dev.unpair
  split <;> exact .of_same rfl rfl rfl

theorem Dev.calms_freeSpan (d : Dev) (l start : Nat) : d.Calms (d.freeSpan l start) := .of_same rfl rfl rfl

theorem Dev.calms_mute (d : Dev) (l shot from_ : Nat) : d.Calms (d.mute l shot from_) :=
  ((Dev.Calms.of_same rfl rfl rfl : d.Calms (d.setChain l _)).trans (Dev.calms_setDrill fun h => Drill.AtRest.mute h shot from_ _)).trans
    (.of_same rfl rfl rfl)

/-- An entry taken out of the table. -/
theorem Dev.calms_unlist (d : Dev) (i : Nat) (v : VptEntry) : d.Calms (({ d with vpt := SMap.del d.vpt i } : Dev).unpair v) := by
  refine Dev.Calms.trans ?_ (Dev.calms_unpair _ v)
  exact .of_same rfl rfl rfl

theorem Dev.calms_endEntry (d : Dev) (i : Nat) (how : EntryEnd) : d.Calms (d.endEntry i how) := by
  unfold Dev.endEntry
  split
  · exact .refl d
  next v _ =>
    extract_lets d1 d2 c d3 r d4 stamp d5 d6 r'
    obtain ⟨hconfirmed, hsquashed, hunconfirmable, -⟩ := unit_counters_steer_none
    obtain ⟨-, -, -, hlane, -, -⟩ := lane_counters_steer_none v.lane
    have h1 : d.Calms d1 := Dev.calms_unlist d i v
    have h3 : d1.Calms d3 := .of_same rfl rfl rfl
    have h4 : d3.Calms d4 := Dev.calms_setDrill fun ⟨hrun, hshadow, hready⟩ => Drill.AtRest.settled ⟨hrun, hshadow, by simp [r, hready]⟩
    have h5 : d4.Calms d5 := by
      unfold d5
      split
      · exact .refl d4
      · exact Dev.calms_freeSpan _ _ _
    have h6 : d5.Calms d6 := by
      cases how with
      | confirmed => exact Dev.calms_bump64 _ _ hconfirmed
      | squashed => exact (Dev.calms_bump64 _ _ hsquashed).trans (Dev.calms_bump _ _ hlane)
      | unconfirmable => exact Dev.calms_bump _ _ hunconfirmable
    refine ((((h1.trans h3).trans h4).trans h5).trans h6).trans (.when _ ?_)
    split
    next s hs =>
      refine Dev.calms_setDrill fun ⟨_, hshadow, _⟩ => ?_
      exact absurd (hs.symm.trans hshadow) nofun
    · exact .refl d6

theorem Dev.calms_strikeEntry (d : Dev) (i : Nat) : d.Calms (d.strikeEntry i) := by
  unfold Dev.strikeEntry
  split
  next v _ =>
    split
    · extract_lets d1 d2
      have h1 : d.Calms d1 := Dev.calms_unlist d i v
      have h2 : d1.Calms d2 := .of_same rfl rfl rfl
      refine (h1.trans h2).trans ?_
      split
      · exact .refl d2
      · exact Dev.calms_freeSpan _ _ _
    · exact Dev.calms_endEntry d i .squashed
  · exact .refl d

theorem Dev.calms_squashLane (d : Dev) (l : Nat) : d.Calms (d.squashLane l) := .foldl Dev.calms_strikeEntry _ d

theorem Dev.calms_strikeOpenEntries (d : Dev) (shot stop : Nat) : d.Calms (d.strikeOpenEntries shot stop) :=
  .foldl (fun _ _ => ((Dev.calms_endEntry ..).trans (Dev.calms_mute ..)).trans (Dev.calms_spoilShot ..)) _ d

/-! #### The end of a shot -/

theorem Dev.calms_noteLeads (d : Dev) (l shot stop : Nat) : d.Calms (d.noteLeads l shot stop) := by
  obtain ⟨-, -, -, -, -, hlead⟩ := lane_counters_steer_none l
  exact (Dev.calms_put d _ (d.leadMinOf l) hlead).trans (.of_same rfl rfl rfl)

theorem Dev.calms_closeShot (d : Dev) (g : Nat) : d.Calms (d.closeShot g) := by
  unfold Dev.closeShot
  extract_lets x stop shotRec kept d1 d2 d3 d4
  have h2 : d.Calms d2 := .of_same rfl rfl rfl
  have h3 : d2.Calms d3 := .foldl (fun e l => e.calms_bump64 _ (lane_counters_steer_none l).1) _ _
  have h4 : d3.Calms d4 := .foldl (fun e l => e.calms_noteLeads l _ _) _ _
  refine ((h2.trans h3).trans h4).trans (.foldl (fun e l => ?_) _ _)
  exact .when _ (.of_same rfl rfl rfl)

theorem Dev.calms_outOfGroup (d : Dev) (l : Nat) : d.Calms (d.outOfGroup l) := .of_same rfl rfl rfl

theorem Dev.calms_boundaryStops (d : Dev) (lanes : List Nat) : d.Calms (d.boundaryStops lanes) := by
  refine .foldl (fun e l => ?_) lanes d
  simp only
  split
  next h =>
    have hrun : (e.drill l).run = .between := by simp only [Bool.and_eq_true, decide_eq_true_eq] at h; exact h.2
    refine Dev.Calms.trans (Dev.Calms.trans (Dev.calms_setDrill fun hr => ?_) (Dev.calms_laneRun _ l)) (Dev.calms_outOfGroup _ l)
    exact absurd (hrun.symm.trans hr.1) nofun
  · exact .refl e

theorem Dev.calms_carry (d : Dev) (key e : Nat) : d.Calms (d.carry key e) := .of_same rfl rfl rfl

theorem Dev.calms_request (d : Dev) (l : Nat) (x : Timed) : d.Calms (d.request l x) := by
  cases hs : (d.drill l).shadow with
  | some s =>
    rw [Dev.request_predicted d l x s hs]
    exact Dev.calms_setDrill fun ⟨_, hshadow, _⟩ => absurd (hs.symm.trans hshadow) nofun
  | none =>
    rw [Dev.request_confirmed d l x hs]
    exact .of_same rfl rfl rfl

theorem Dev.calms_carryLane (d : Dev) (l e : Nat) : d.Calms (d.carryLane l e) := by
  obtain ⟨-, -, -, hdeferred⟩ := unit_counters_steer_none
  unfold Dev.carryLane
  split
  · exact Dev.calms_bump _ _ hdeferred
  · exact (Dev.calms_carry d _ e).trans (.foldl (fun _ _ => Dev.calms_request ..) _ _)

theorem Dev.calms_shotCommits (d : Dev) (l e : Nat) : d.Calms (d.shotCommits l e) := by
  obtain ⟨-, -, -, hdeferred⟩ := unit_counters_steer_none
  unfold Dev.shotCommits
  extract_lets d1 d2 d3 c r
  have h1 : d.Calms d1 := .when _ (Dev.calms_carryLane ..)
  have h2 : d1.Calms d2 := .when _ (Dev.calms_carry ..)
  have h3 : d2.Calms d3 := .when _ (Dev.calms_carry ..)
  refine ((h1.trans h2).trans h3).trans ?_
  split
  · exact .refl d3
  · split
    · exact Dev.calms_bump _ _ hdeferred
    · refine (Dev.calms_carry d3 _ e).trans (Dev.calms_setDrill fun hr => ?_)
      rw [if_pos (by simp [show r.run = .stopped from hr.1])]
      exact hr

theorem Dev.calms_afterShot (d : Dev) (shot stop : Nat) (lanes : List Nat) : d.Calms (d.afterShot shot stop lanes) :=
  ((Dev.calms_strikeOpenEntries d shot stop).trans (Dev.calms_boundaryStops _ lanes)).trans (.foldl (fun e m => e.calms_shotCommits m stop) _ _)

theorem Dev.calms_endShotIfDone (d : Dev) (g : Nat) : d.Calms (d.endShotIfDone g) :=
  .when _ ((Dev.calms_closeShot d g).trans (Dev.calms_afterShot ..))

theorem Dev.calms_leaveGroup (d : Dev) (l : Nat) : d.Calms (d.leaveGroup l) := (Dev.calms_outOfGroup d l).trans (Dev.calms_endShotIfDone ..)

/-! #### Lanes that stop -/

/-- What stops a drill now, before its lane leaves its group: its entries squashed, its shots spoiled and muted, and the drill at rest. -/
def Dev.haltLane (d : Dev) (l : Nat) (r : Reason) : Dev :=
  let e := (d.shotsOfLane l).foldl (fun e p => (e.spoilShot p.1 p.2 r e.now l).mute l p.2 e.now) (d.squashLane l)
  (e.setDrill l { (e.drill l).rest .stopped with ready := [], tail := none, passed := 0 }).put (Obj.laneRun l) 0

theorem Dev.stopLane_eq (d : Dev) (l : Nat) (r : Reason) : d.stopLane l r = (d.haltLane l r).leaveGroup l := rfl

theorem Dev.haltLane_atRest (d : Dev) (l : Nat) (r : Reason) : ((d.haltLane l r).drill l).AtRest := by
  unfold Dev.haltLane
  simp only [Dev.put_drill', Dev.drill_setDrill_same]
  exact ⟨rfl, rfl, rfl⟩

theorem Dev.calms_haltLane (d : Dev) (l : Nat) (r : Reason) : d.Calms (d.haltLane l r) := by
  unfold Dev.haltLane
  extract_lets e
  have h : d.Calms e := (Dev.calms_squashLane d l).trans (.foldl (fun _ _ => (Dev.calms_spoilShot ..).trans (Dev.calms_mute ..)) _ _)
  exact (h.trans (Dev.calms_setDrill fun _ => ⟨rfl, rfl, rfl⟩)).trans (Dev.calms_laneRun _ l)

theorem Dev.calms_stopLane (d : Dev) (l : Nat) (r : Reason) : d.Calms (d.stopLane l r) := (Dev.calms_haltLane d l r).trans (Dev.calms_leaveGroup _ l)

/-- A lane stopped is at rest, whatever its group's shot does then. -/
theorem Dev.stopLane_atRest (d : Dev) (l : Nat) (r : Reason) : ((d.stopLane l r).drill l).AtRest :=
  (Dev.calms_leaveGroup _ l).rest l (d.haltLane_atRest l r)

/-- Its LaneRun is 0. -/
theorem Dev.stopLane_laneRun (d : Dev) (l : Nat) (r : Reason) : (d.stopLane l r).val (Obj.laneRun l) = 0 := by
  have hput : SMap.find (d.haltLane l r).objs (Obj.laneRun l) = some 0 := SMap.find_set_same _ _ _
  have hkey : steersLanes (Obj.laneRun l) := by
    simp only [steersLanes, Obj.laneRun]; omega
  have hfind : SMap.find (d.stopLane l r).objs (Obj.laneRun l) = some 0 := by
    rcases (Dev.calms_leaveGroup (d.haltLane l r) l).objs _ hkey with h | ⟨_, h⟩
    · exact h.trans hput
    · exact h
  simp [Dev.val, hfind]

/-- Every lane of a list is at rest once each has been stopped. -/
theorem Dev.foldl_stopLane_atRest (r : Reason) (lanes : List Nat) (d : Dev) (l : Nat) (h : l ∈ lanes ∨ (d.drill l).AtRest) :
    ((lanes.foldl (fun e m => e.stopLane m r) d).drill l).AtRest := by
  induction lanes generalizing d with
  | nil => simpa using h
  | cons m ms ih =>
    refine ih _ ?_
    rcases h with h | h
    · rcases List.mem_cons.mp h with rfl | hms
      · exact .inr (d.stopLane_atRest l r)
      · exact .inl hms
    · exact .inr ((Dev.calms_stopLane d m r).rest l h)

theorem Dev.calms_stopAll (d : Dev) (r : Reason) : d.Calms (d.stopAll r) := (Dev.calms_spoilAll d r).trans (.foldl (fun e m => e.calms_stopLane m r) _ _)

end Sys2Proof.Machine
end

section
namespace Sys2Proof.Machine

/-! ### What a lane that stops leaves to the others (R116, R229) -/

/-- `e` is `d` but for what is lane `l`'s own: the other drills and what tells whether a group's shot is over stand, and no other lane's entry has
become this one's. -/
structure Dev.Spares (l : Nat) (d e : Dev) : Prop where
  drill : ∀ k, k ≠ l → e.drill k = d.drill k
  group : ∀ g, (e.group g).members = (d.group g).members ∧ (e.group g).inShot = (d.group g).inShot ∧ (e.group g).ended = (d.group g).ended
  vpt : ∀ i v, SMap.find e.vpt i = some v → ∃ w, SMap.find d.vpt i = some w ∧ v.lane = w.lane

theorem Dev.Spares.trans {l : Nat} {d e f : Dev} (h : d.Spares l e) (g : e.Spares l f) : d.Spares l f where
  drill k hk := (g.drill k hk).trans (h.drill k hk)
  group n := by
    obtain ⟨hm, hs, he⟩ := g.group n
    rw [hm, hs, he]
    exact h.group n
  vpt i v hv := by
    obtain ⟨w, hw, hvw⟩ := g.vpt i v hv
    obtain ⟨u, hu, hwu⟩ := h.vpt i w hw
    exact ⟨u, hu, hvw.trans hwu⟩

/-- What moves neither drills, groups nor the table. -/
theorem Dev.Spares.of_same {l : Nat} {d e : Dev} (hd : e.drills = d.drills) (hg : e.groups = d.groups) (hv : e.vpt = d.vpt) : d.Spares l e where
  drill k _ := by unfold Dev.drill; rw [hd]
  group n := by unfold Dev.group; rw [hg]; exact ⟨rfl, rfl, rfl⟩
  vpt i v h := ⟨v, by rwa [← hv], rfl⟩

theorem Dev.Spares.refl (l : Nat) (d : Dev) : d.Spares l d := .of_same rfl rfl rfl

theorem Dev.Spares.foldl {α : Type} {l : Nat} {f : Dev → α → Dev} (h : ∀ (e : Dev) x, e.Spares l (f e x)) (xs : List α) (d : Dev) :
    d.Spares l (xs.foldl f d) := by
  induction xs generalizing d with
  | nil => exact .refl l d
  | cons x xs ih => exact (h d x).trans (ih _)

theorem Dev.spares_put (l : Nat) (d : Dev) (k v : Nat) : d.Spares l (d.put k v) := .of_same rfl rfl rfl

theorem Dev.spares_setDrill (d : Dev) (l : Nat) (r : Drill) : d.Spares l (d.setDrill l r) where
  drill k hk := d.drill_setDrill_other l k r (Ne.symm hk)
  group _ := ⟨rfl, rfl, rfl⟩
  vpt _ v h := ⟨v, h, rfl⟩

theorem Dev.spares_setGroup {d : Dev} {g : Nat} {x : Group} (l : Nat) (hm : x.members = (d.group g).members) (hs : x.inShot = (d.group g).inShot)
    (he : x.ended = (d.group g).ended) : d.Spares l (d.setGroup g x) where
  drill _ _ := rfl
  group n := by
    by_cases hn : g = n
    · subst hn; rw [Dev.group_setGroup_same]; exact ⟨hm, hs, he⟩
    · rw [Dev.group_setGroup_other _ _ _ _ hn]; exact ⟨rfl, rfl, rfl⟩
  vpt _ v h := ⟨v, h, rfl⟩

theorem Dev.spares_countSpoil (l : Nat) (d : Dev) (lanes : List Nat) (shot : Nat) (old : Option Spoil) (new : Spoil) :
    d.Spares l (d.countSpoil lanes shot old new) := by
  refine .foldl (fun e m => ?_) lanes d
  extract_lets e1 e2
  have h1 : e.Spares l e1 := by unfold e1; split <;> exact .of_same rfl rfl rfl
  have h2 : e1.Spares l e2 := by unfold e2; split <;> exact .of_same rfl rfl rfl
  refine (h1.trans h2).trans ?_
  split <;> exact .of_same rfl rfl rfl

theorem Dev.spares_spoilShot (l : Nat) (d : Dev) (g shot : Nat) (r : Reason) (time cause : Nat) : d.Spares l (d.spoilShot g shot r time cause) := by
  unfold Dev.spoilShot
  simp only
  split
  · refine Dev.Spares.trans ?_ (Dev.spares_countSpoil ..)
    exact Dev.spares_setGroup l rfl rfl rfl
  · split
    · refine Dev.Spares.trans ?_ (Dev.spares_countSpoil ..)
      exact .of_same rfl rfl rfl
    · exact .refl l d

theorem Dev.spares_mute (d : Dev) (l shot from_ : Nat) : d.Spares l (d.mute l shot from_) := by
  unfold Dev.mute
  extract_lets hi here sums d1
  have h1 : d.Spares l d1 := by
    refine Dev.Spares.trans ?_ (Dev.spares_setDrill _ l _)
    exact .of_same rfl rfl rfl
  refine h1.trans ?_
  exact .of_same rfl rfl rfl

/-- The other entry of a group that no longer names this one keeps its lane. -/
theorem Dev.spares_unpair (l : Nat) (d : Dev) (v : VptEntry) : d.Spares l (d.unpair v) := by
  unfold Dev.unpair
  split
  next j m hj =>
    obtain ⟨j', -, hm⟩ := Option.bind_eq_some_iff.mp hj
    obtain ⟨m', hm', heq⟩ := Option.map_eq_some_iff.mp hm
    cases heq
    refine ⟨fun _ _ => rfl, fun _ => ⟨rfl, rfl, rfl⟩, fun i w hw => ?_⟩
    by_cases hi : j = i
    · subst hi
      rw [SMap.find_set_same] at hw
      cases hw
      exact ⟨m, hm', rfl⟩
    · rw [SMap.find_set_other _ _ _ _ hi] at hw
      exact ⟨w, hw, rfl⟩
  · exact .refl l d

/-- An entry taken out of the table. -/
theorem Dev.spares_unlist (l : Nat) (d : Dev) (i : Nat) (v : VptEntry) : d.Spares l (({ d with vpt := SMap.del d.vpt i } : Dev).unpair v) := by
  refine Dev.Spares.trans ?_ (Dev.spares_unpair l _ v)
  refine ⟨fun _ _ => rfl, fun _ => ⟨rfl, rfl, rfl⟩, fun j w hw => ?_⟩
  by_cases hj : i = j
  · subst hj; rw [SMap.find_del_same] at hw; cases hw
  · exact ⟨w, (SMap.find_del_other _ _ _ hj).symm.trans hw, rfl⟩

/-- A lane's entry that ends touches no other lane's drill. -/
theorem Dev.spares_endEntry {d : Dev} {l i : Nat} (how : EntryEnd) (hl : ∀ v, SMap.find d.vpt i = some v → v.lane = l) :
    d.Spares l (d.endEntry i how) := by
  unfold Dev.endEntry
  split
  · exact .refl l d
  next v hv =>
    obtain rfl := hl v hv
    extract_lets d1 d2 c d3 r d4 stamp d5 d6 r'
    have h1 : d.Spares v.lane d1 := Dev.spares_unlist _ d i v
    have h3 : d1.Spares v.lane d3 := .of_same rfl rfl rfl
    have h4 : d3.Spares v.lane d4 := Dev.spares_setDrill d3 _ _
    have h5 : d4.Spares v.lane d5 := by unfold d5; split <;> exact .of_same rfl rfl rfl
    have h6 : d5.Spares v.lane d6 := by cases how <;> exact .of_same rfl rfl rfl
    refine ((((h1.trans h3).trans h4).trans h5).trans h6).trans ?_
    split
    · split
      · exact Dev.spares_setDrill d6 _ _
      · exact .refl _ d6
    · exact .refl _ d6

theorem Dev.spares_strikeEntry {d : Dev} {l i : Nat} (hl : ∀ v, SMap.find d.vpt i = some v → v.lane = l) : d.Spares l (d.strikeEntry i) := by
  unfold Dev.strikeEntry
  split
  next v hv =>
    split
    · extract_lets d1 d2
      have h1 : d.Spares l d1 := Dev.spares_unlist l d i v
      have h2 : d1.Spares l d2 := .of_same rfl rfl rfl
      refine (h1.trans h2).trans ?_
      split <;> exact .of_same rfl rfl rfl
    · exact Dev.spares_endEntry .squashed hl
  · exact .refl l d

/-- The entries of a list struck, all of them a lane's. -/
theorem Dev.spares_foldl_strikeEntry {l : Nat} {is : List Nat} {d : Dev} (hl : ∀ i ∈ is, ∀ v, SMap.find d.vpt i = some v → v.lane = l) :
    d.Spares l (is.foldl Dev.strikeEntry d) := by
  induction is generalizing d with
  | nil => exact .refl l d
  | cons i is ih =>
    have hi : d.Spares l (d.strikeEntry i) := Dev.spares_strikeEntry (hl i (by simp))
    refine hi.trans (ih fun j hj v hv => ?_)
    obtain ⟨w, hw, hvw⟩ := hi.vpt j v hv
    exact hvw.trans (hl j (List.mem_cons_of_mem _ hj) w hw)

/-- In a map that lists each key once, what is listed is found. -/
theorem SMap.find_of_mem {α : Type} {m : SMap α} (hn : (m.map Prod.fst).Nodup) {i : Nat} {v : α} (h : (i, v) ∈ m) : SMap.find m i = some v := by
  induction m with
  | nil => cases h
  | cons p m ih =>
    obtain ⟨j, w⟩ := p
    rw [List.map_cons, List.nodup_cons] at hn
    rcases List.mem_cons.mp h with heq | hm
    · cases heq; exact if_pos rfl
    · have hne : j ≠ i := fun hji => hn.1 (List.mem_map.mpr ⟨(i, v), hm, hji.symm⟩)
      exact (if_neg hne).trans (ih hn.2 hm)

theorem Dev.spares_squashLane {d : Dev} (l : Nat) (hn : (d.vpt.map Prod.fst).Nodup) : d.Spares l (d.squashLane l) := by
  refine Dev.spares_foldl_strikeEntry fun i hi v hv => ?_
  obtain ⟨⟨j, w⟩, hw, rfl⟩ := List.mem_map.mp hi
  obtain ⟨hmem, hlane⟩ := List.mem_filter.mp hw
  rw [SMap.find_of_mem hn hmem] at hv
  cases hv
  simpa using hlane

theorem Dev.spares_haltLane {d : Dev} (l : Nat) (r : Reason) (hn : (d.vpt.map Prod.fst).Nodup) : d.Spares l (d.haltLane l r) := by
  unfold Dev.haltLane
  extract_lets e
  have he : d.Spares l e := (Dev.spares_squashLane l hn).trans (.foldl (fun _ _ => (Dev.spares_spoilShot ..).trans (Dev.spares_mute ..)) _ _)
  exact (he.trans (Dev.spares_setDrill e l _)).trans (Dev.spares_put l _ _ _)

/-- The objects below those of the bias outputs are none of them. -/
theorem isBiasKey_below {k : Nat} (h : k < 0x320000) : isBiasKey k = false := by
  have hle : ¬ 0x320000 ≤ k := by omega
  simp only [isBiasKey, decide_eq_false hle, Bool.false_and]

/-- A lane keeps its group while lanes stop (R115). -/
theorem Dev.Calms.groupOf {d e : Dev} (h : d.Calms e) {l : Nat} (hl : l < 512) : e.groupOf l = d.groupOf l := by
  have hkey : steersLanes (Obj.laneShotGroup l) ∧ ¬ Obj.laneShotGroup l % 256 = 7 := by
    simp only [steersLanes, Obj.laneShotGroup, Obj.devRfEnable]; omega
  have hbias : isBiasKey (Obj.laneShotGroup l) = false := isBiasKey_below (by simp only [Obj.laneShotGroup]; omega)
  have hval : e.val (Obj.laneShotGroup l) = d.val (Obj.laneShotGroup l) := by
    rcases h.objs _ hkey.1 with hf | ⟨h7, -⟩
    · simp [Dev.val, Dev.dflt, hf, hbias]
    · exact absurd h7 hkey.2
  simp [Dev.groupOf, hval]

/-- A lane stopped while its group's shot goes on without it changes no other drill. -/
theorem Dev.stopLane_open {d : Dev} {l : Nat} (r : Reason) (hl : l < 512) (hn : (d.vpt.map Prod.fst).Nodup)
    (hopen : ({ d.group (d.groupOf l) with members := (d.group (d.groupOf l)).members.filter (fun m => m != l) } : Group).allEnded = false)
    (k : Nat) (hk : k ≠ l) : (d.stopLane l r).drill k = d.drill k := by
  have hs := d.spares_haltLane l r hn
  have hg : (d.haltLane l r).groupOf l = d.groupOf l := (d.calms_haltLane l r).groupOf hl
  obtain ⟨hmembers, hinShot, hended⟩ := hs.group (d.groupOf l)
  have hgoes : (((d.haltLane l r).outOfGroup l).group ((d.haltLane l r).groupOf l)).allEnded = false := by
    rw [hg, ← hopen]
    simp [Dev.outOfGroup, hg, Group.allEnded, hmembers, hinShot, hended]
  rw [Dev.stopLane_eq, Dev.leaveGroup_open _ _ hgoes]
  exact hs.drill k hk

end Sys2Proof.Machine
end

section
namespace Sys2Proof.Machine

/-! ### LaneRun and DevRfEnable (R60, R116, R135, R139, R476) -/

/-- An admitted write of a named object whose rule leaves the faults alone: the rule's effect, and its answer. -/
theorem gated_steps {t : Nat} {path : Path} {key v : Nat} {f : Dev → Dev × Nat} {s : State} {e : Dev} {a : Nat} (h : s.Runs)
    (hadm : s.Admits t path key v) (hf : f (s.devAt t) = (e, a)) (he : e.faults = s.dev.faults := by rfl) :
    devStep t (fun _ d => d.gated path key v f) s = .next (s.withDev (e.answerWrite path key a)) := by
  refine devStep_eq h ?_ ((e.answered_answerWrite path key a).faults.trans he)
  rw [gated_admits f hadm, hf]

/-- LaneRun and DevRfEnable count no answers. -/
theorem not_answerCounts_laneRun (l : Nat) : ¬ answerCounts (Obj.laneRun l) := by
  simp only [answerCounts, Obj.laneRun, Obj.devMailboxAborts]; omega
theorem not_answerCounts_devRfEnable : ¬ answerCounts Obj.devRfEnable := by
  simp only [answerCounts, Obj.devRfEnable, Obj.devMailboxAborts]; omega

theorem isBiasKey_laneRun {l : Nat} (hl : l < 512) : isBiasKey (Obj.laneRun l) = false := isBiasKey_below (by simp only [Obj.laneRun]; omega)

/-! #### A lane started -/

/-- The drill of a lane that starts (R135). -/
def Drill.started (r : Drill) : Drill :=
  { r.emptyStream.rest .between with pc := r.entry, cursor := 0, busy := 0, muteFrom := none, shotEnd := 0, tail := none, passed := 0 }

theorem Dev.startLane_drill (d : Dev) (l : Nat) : (d.startLane l).drill l = (d.drill l).started := d.drill_setDrill_same l _
theorem Dev.startLane_drill_other (d : Dev) {l k : Nat} (hk : k ≠ l) : (d.startLane l).drill k = d.drill k := d.drill_setDrill_other l k _ (Ne.symm hk)
theorem Dev.startLane_laneRun (d : Dev) (l : Nat) : (d.startLane l).val (Obj.laneRun l) = 1 := Dev.val_put_same _ _ _

/-- A stopped lane with a program starts while RF is on (R60, R139). -/
theorem Dev.writeLaneRun_starts {d : Dev} {l : Nat} (hp : d.hasProgram l = true) (hrf : d.flag Obj.devRfEnable = true) (ho : d.laneOwner l ≠ 15)
    (hu : d.unitState (stripOf l) = 0) (hr : (d.drill l).runs = false) : d.writeLaneRun l = (d.startLane l, 0) := by
  simp [Dev.writeLaneRun, hp, hrf, ho, hu, hr]

/-- Without RF it does not (R60). -/
theorem Dev.writeLaneRun_rfOff {d : Dev} (l : Nat) (hrf : d.flag Obj.devRfEnable = false) : d.writeLaneRun l = (d, abortState) := by
  simp [Dev.writeLaneRun, hrf]

/-- A lane inside a shot stops at its end (R139). -/
theorem Dev.writeLaneBoundary_inShot {d : Dev} {l : Nat} (hr : (d.drill l).run = .inShot) :
    d.writeLaneBoundary l = ((d.setDrill l { d.drill l with stopAtBoundary := true }).put (Obj.laneRun l) 2, 0) := by
  simp [Dev.writeLaneBoundary, Drill.runs, hr]

/-- A lane between shots stops at once. -/
theorem Dev.writeLaneBoundary_between {d : Dev} {l : Nat} (hr : (d.drill l).run = .between) :
    d.writeLaneBoundary l = (((d.setDrill l ((d.drill l).rest .stopped)).put (Obj.laneRun l) 0).leaveGroup l, 0) := by
  simp [Dev.writeLaneBoundary, hr]

/-! #### RF -/

/-- Only partition 0 may write DevRfEnable (R44). -/
theorem Dev.mayWrite_devRfEnable (d : Dev) {p : Nat} (hp : p ≠ 0) : d.mayWrite p (keyIndex Obj.devRfEnable) (keySub Obj.devRfEnable) = false := by
  simp [Dev.mayWrite, hp, keyIndex, keySub, Obj.devRfEnable, Obj.timeSnapshot]

theorem Dev.writeGate_devRfEnable {d : Dev} {path : Path} (ho : d.pathOpen path = true) (hp : Path.partition path ≠ 0) :
    d.writeGate path Obj.devRfEnable = 0xA0000001 := by
  simp [Dev.writeGate, ho, d.mayWrite_devRfEnable hp, abortAccess]

/-- A write that fails its gate answers why. -/
theorem Dev.gated_refused {d : Dev} {path : Path} {key v a : Nat} (f : Dev → Dev × Nat) (ht : d.pathThere path = true)
    (ha : d.asksFor path key v = true) (hg : d.writeGate path key = a) (hne : a ≠ 0) : d.gated path key v f = d.answerWrite path key a := by
  unfold Dev.gated
  rw [ht, ha, hg]
  cases a with
  | zero => exact absurd rfl hne
  | succ n => rfl

theorem Dev.writeRfOn_sets {d : Dev} {path : Path} (hp : Path.partition path = 0) (hc : path ≠ .can) (h0 : d.devState ≠ 0) (h4 : d.devState ≠ 4)
    (h5 : d.devState ≠ 5) (hs : d.faults.safe = 0) (hprep : d.power.preparing = false)
    (hb : ∀ l ∈ allLanes, d.biasState l ≠ 2 ∧ d.biasState l ≠ 4) : d.writeRfOn path = (d.put Obj.devRfEnable 1, 0) := by
  have hbias : allLanes.any (fun l => d.biasState l = 2 || d.biasState l = 4) = false := by
    rw [List.any_eq_false]
    intro l hl
    obtain ⟨h2, h4⟩ := hb l hl
    simp [h2, h4]
  simp [Dev.writeRfOn, hp, hc, h0, h4, h5, hs, hprep, hbias]

/-- Never over CAN (R55). -/
theorem Dev.writeRfOn_can (d : Dev) : d.writeRfOn .can = (d, 0x08000021) := by simp [Dev.writeRfOn, Path.partition, abortLocal]

/-- A shot spoiled moves no drill. -/
theorem Dev.spoilShot_drills (d : Dev) (g shot : Nat) (r : Reason) (time cause : Nat) : (d.spoilShot g shot r time cause).drills = d.drills := by
  have hcount : ∀ (e : Dev) lanes old new, (e.countSpoil lanes shot old new).drills = e.drills := fun e lanes old new =>
    foldl_keeps _ Dev.drills (fun a b => by simp only; split <;> split <;> split <;> rfl) lanes e
  unfold Dev.spoilShot
  simp only
  split
  · exact hcount ..
  · split
    · exact hcount ..
    · rfl

theorem Dev.spoilAll_drills (d : Dev) (r : Reason) : (d.spoilAll r).drills = d.drills := foldl_keeps _ Dev.drills (fun _ _ => Dev.spoilShot_drills ..) _ d

/-- Every drill of the block is at rest once all have been stopped (R60). -/
theorem Dev.stopAll_atRest (d : Dev) (r : Reason) {l : Nat} (h : l ∈ d.drills.map Prod.fst) : ((d.stopAll r).drill l).AtRest := by
  refine Dev.foldl_stopLane_atRest r _ _ l (.inl ?_)
  rwa [Dev.spoilAll_drills]

theorem Dev.rfOff_on {d : Dev} (r : Reason) (h : d.flag Obj.devRfEnable = true) : d.rfOff r = (d.put Obj.devRfEnable 0).stopAll r := if_pos h
theorem Dev.rfOff_off {d : Dev} (r : Reason) (h : d.flag Obj.devRfEnable = false) : d.rfOff r = d := if_neg (by simp [h])

theorem Dev.rfOff_faults (d : Dev) (r : Reason) : (d.rfOff r).faults = d.faults := by
  cases h : d.flag Obj.devRfEnable with
  | true => rw [Dev.rfOff_on r h]; exact (Dev.calms_stopAll _ r).faults
  | false => rw [Dev.rfOff_off r h]

/-- RF is off then. -/
theorem Dev.rfOff_flag (d : Dev) (r : Reason) : (d.rfOff r).flag Obj.devRfEnable = false := by
  cases h : d.flag Obj.devRfEnable with
  | false => rwa [Dev.rfOff_off r h]
  | true =>
    have hput : SMap.find (d.put Obj.devRfEnable 0).objs Obj.devRfEnable = some 0 := SMap.find_set_same _ _ _
    have hfind : SMap.find ((d.put Obj.devRfEnable 0).stopAll r).objs Obj.devRfEnable = some 0 := by
      rcases (Dev.calms_stopAll (d.put Obj.devRfEnable 0) r).objs _ (.inl rfl) with hf | ⟨_, hf⟩
      · exact hf.trans hput
      · exact hf
    rw [Dev.rfOff_on r h]
    simp [Dev.flag, Dev.val, hfind]

/-! #### The obligation -/

section
variable {t : Nat} {path : Path} {s : State}

theorem laneRun_starts {lane : Lane} (hs : s.Runs) (hreach : s.Reaches t path (Obj.laneRun lane.val)) (hask : s.Asked t path (Obj.laneRun lane.val) 1)
    (hp : (s.devAt t).hasProgram lane.val = true) (hrf : s.dev.flag Obj.devRfEnable = true) (ho : (s.devAt t).laneOwner lane.val ≠ 15)
    (hu : (s.devAt t).unitState (stripOf lane.val) = 0) (hr : (s.dev.drill lane.val).runs = false) :
    ∃ s', exec (.laneRun t path lane) s = .next s' ∧ s'.dev.drill lane.val = (s.dev.drill lane.val).started ∧ s'.dev.val (Obj.laneRun lane.val) = 1
      ∧ (∀ k, k ≠ lane.val → s'.dev.drill k = s.dev.drill k) ∧ s'.mem = s.mem := by
  refine ⟨_, (gated_steps hs ⟨hreach, hask⟩ (Dev.writeLaneRun_starts hp hrf ho hu hr) : execLaneRun t path lane s = _), ?_, ?_, fun k hk => ?_, rfl⟩
  all_goals have hans := Dev.answered_answerWrite ((s.devAt t).startLane lane.val) path (Obj.laneRun lane.val) 0
  · exact (hans.drill lane.val).trans (Dev.startLane_drill _ _)
  · exact (hans.val _ (not_answerCounts_laneRun _) (isBiasKey_laneRun lane.isLt)).trans (Dev.startLane_laneRun _ _)
  · exact (hans.drill k).trans (Dev.startLane_drill_other _ hk)

theorem laneStop_stops {lane : Lane} (hs : s.Runs) (hreach : s.Reaches t path (Obj.laneRun lane.val)) (hask : s.Asked t path (Obj.laneRun lane.val) 0) :
    exec (.laneStop t path lane) s = .next (s.withDev (((s.devAt t).stopLane lane.val .stopped).answerWrite path (Obj.laneRun lane.val) 0)) := by
  show execLaneStop t path lane s = _
  exact gated_steps hs ⟨hreach, hask⟩ rfl (Dev.calms_stopLane _ _ _).faults

theorem devRfEnableClear_stops (hs : s.Runs) (hreach : s.Reaches t path Obj.devRfEnable) (hask : s.Asked t path Obj.devRfEnable 0) :
    exec (.devRfEnableClear t path) s = .next (s.withDev (((s.devAt t).rfOff .stopped).answerWrite path Obj.devRfEnable 0)) := by
  show execDevRfEnableClear t path s = _
  exact gated_steps hs ⟨hreach, hask⟩ rfl (Dev.rfOff_faults _ _)

end

/-- Settles O29: what a stopping lane drags along starts no drill again and keeps the group of every lane, so the stopped lane stays at rest. -/
theorem lanesAndRfStartAndStop : Obligations.LanesAndRfStartAndStop := by
  unfold Obligations.LanesAndRfStartAndStop
  constructor
  · intro t path lane s hs d l r key x goesOn hreach
    refine ⟨fun hask hp hrf ho hu hr => ?start, fun hask hrf => ?noRf, fun hask hr => ?inShot, fun hask hr => ?between, fun hask hn => ?stop⟩
    case start =>
      obtain ⟨s', hexec, hdrill, hrest⟩ := laneRun_starts hs hreach hask hp hrf ho hu hr
      refine ⟨s', hexec, ?_, ?_, ?_, ?_, ?_, hrest⟩ <;> exact hdrill ▸ rfl
    case noRf => exact (gated_steps hs ⟨hreach, hask⟩ (Dev.writeLaneRun_rfOff l hrf) : execLaneRun t path lane s = _)
    case inShot => exact (gated_steps hs ⟨hreach, hask⟩ (Dev.writeLaneBoundary_inShot hr) : execLaneStopAtBoundary t path lane s = _)
    case between =>
      exact (gated_steps hs ⟨hreach, hask⟩ (Dev.writeLaneBoundary_between hr) (Dev.calms_leaveGroup _ l).faults : execLaneStopAtBoundary t path lane s = _)
    case stop =>
      have hans := Dev.answered_answerWrite (d.stopLane l .stopped) path key 0
      obtain ⟨hrun, -, hready⟩ := d.stopLane_atRest l .stopped
      refine ⟨_, laneStop_stops hs hreach hask, ?_, ?_, ?_, fun hopen k hk => ?_, rfl⟩
      · exact (congrArg Drill.run (hans.drill l)).trans hrun
      · exact (congrArg Drill.ready (hans.drill l)).trans hready
      · exact (hans.val key (not_answerCounts_laneRun l) (isBiasKey_laneRun lane.isLt)).trans (d.stopLane_laneRun l .stopped)
      · exact (hans.drill k).trans (Dev.stopLane_open (d := d) .stopped lane.isLt hn hopen k hk)
  · intro t path s hs d key
    refine ⟨fun hthere hask hopen hp => ?partition, fun hreach => ⟨fun hask hp hc h0 h4 h5 hsafe hprep hb => ?set, fun hask hc => ?can, fun hask => ?clear⟩⟩
    case partition =>
      show execDevRfEnableSet t path s = _
      exact devStep_eq hs (Dev.gated_refused _ hthere hask (Dev.writeGate_devRfEnable hopen hp) (by decide)) (Dev.answered_answerWrite ..).faults
    case set => exact (gated_steps hs ⟨hreach, hask⟩ (Dev.writeRfOn_sets hp hc h0 h4 h5 hsafe hprep hb) : execDevRfEnableSet t path s = _)
    case can =>
      subst hc
      exact (gated_steps hs ⟨hreach, hask⟩ (Dev.writeRfOn_can _) : execDevRfEnableSet t .can s = _)
    case clear =>
      have hans := Dev.answered_answerWrite (d.rfOff .stopped) path key 0
      refine ⟨_, devRfEnableClear_stops hs hreach hask, ?_, rfl, fun hon l hl => ?_, fun hoff => ?_⟩
      · have hval := hans.val key not_answerCounts_devRfEnable rfl
        exact (congrArg (· != 0) hval).trans (d.rfOff_flag .stopped)
      · refine (congrArg Drill.run (hans.drill l)).trans ?_
        rw [Dev.rfOff_on (d := d) .stopped hon]
        exact ((d.put key 0).stopAll_atRest .stopped hl).1
      · have hkept : (d.rfOff .stopped).drills = d.drills := by rw [Dev.rfOff_off (d := d) .stopped hoff]
        exact hans.drills.trans hkept

end Sys2Proof.Machine
end

section
namespace Sys2Proof.Machine

/-! ### Drill commands -/

/-- A drill's command whose instruction makes the block `e` without touching the faults leaves the state with `e`. -/
theorem drillStep_executes {t : Nat} {lane : Lane} {f : Dev → Nat → Drill → Op → Dev} {s : State} {op : Op} {e : Dev} (h : s.Runs)
    (hop : s.Executes t lane op) (hf : f (s.devAt t) lane.val (s.dev.drill lane.val) op = e) (he : e.faults = s.dev.faults := by rfl) :
    drillStep t lane f s = .next (s.withDev e) :=
  devStep_eq h (by rw [show (s.devAt t).nextOp lane.val = some op from hop]; exact hf) he

/-! ### Sequence (R118, R127) -/

/-- A `loop` with a count above 0 pushes its level. -/
theorem loop_pushes {t : Nat} {lane : Lane} {s : State} {e n : Nat} (h : s.Runs) (hn : 0 < n) (hop : s.Executes t lane (.loop false e n)) :
    execLoop t lane s = .next (s.withDev ((s.devAt t).setDrill lane.val
      { s.dev.drill lane.val with
        pc := (s.dev.drill lane.val).pc + 1
        loops := { remaining := n, forever := false, body := (s.dev.drill lane.val).pc + 1, endAddr := e } :: (s.dev.drill lane.val).loops })) := by
  have hn' : ¬ n = 0 := by omega
  exact drillStep_executes h hop (by simp [hn', Drill.step])

section
variable {t : Nat} {lane : Lane} {s : State} {start : Nat} {top : LoopEntry} {rest : List LoopEntry} (h : s.Runs)
  (hop : s.Executes t lane (.endloop start)) (hloops : (s.dev.drill lane.val).loops = top :: rest)
include h hop hloops

/-- An endless loop goes round. -/
theorem endloop_forever (htop : top.forever = true) :
    execEndloop t lane s =
      .next (s.withDev ((s.devAt t).setDrill lane.val { s.dev.drill lane.val with pc := top.body, loops := top :: rest })) := by
  obtain ⟨remaining, forever, body, stop⟩ := top
  obtain rfl : forever = true := htop
  refine drillStep_executes h hop ?_
  simp only [hloops, if_true, Bool.true_or]

/-- A counted loop with repetitions left goes round with one fewer. -/
theorem endloop_repeats (htop : top.forever = false) (hleft : 1 < top.remaining) :
    execEndloop t lane s = .next (s.withDev ((s.devAt t).setDrill lane.val
      { s.dev.drill lane.val with pc := top.body, loops := { top with remaining := top.remaining - 1 } :: rest })) := by
  refine drillStep_executes h hop ?_
  have hmore : 0 < top.remaining - 1 := by omega
  simp [hloops, htop, hmore]

/-- A counted loop at its last repetition is left. -/
theorem endloop_leaves (htop : top.forever = false) (hleft : top.remaining ≤ 1) :
    execEndloop t lane s = .next (s.withDev ((s.devAt t).setDrill lane.val
      { s.dev.drill lane.val with pc := (s.dev.drill lane.val).pc + 1, loops := rest })) := by
  refine drillStep_executes h hop ?_
  have hdone : top.remaining - 1 = 0 := by omega
  simp [hloops, htop, hdone, Drill.step]

end

/-- `ret` goes on behind its call. -/
theorem ret_pops {t : Nat} {lane : Lane} {s : State} {c : CallEntry} {rest : List CallEntry} (h : s.Runs) (hop : s.Executes t lane .ret)
    (hcalls : (s.dev.drill lane.val).calls = c :: rest) :
    execRet t lane s = .next (s.withDev ((s.devAt t).setDrill lane.val { s.dev.drill lane.val with pc := c.ret, calls := rest })) := by
  refine drillStep_executes h hop ?_
  simp only [hcalls]

/-- Settles O2: each instruction changes its own drill's counter and stacks by one update. -/
theorem sequenceInstructionsMoveTheCounter : Obligations.SequenceInstructionsMoveTheCounter := by
  unfold Obligations.SequenceInstructionsMoveTheCounter
  intro t lane s hs d l r
  refine ⟨fun hop => ?nop, fun e n hop => ?forever, fun e hop => ?skip, fun e n hn hop => loop_pushes hs hn hop,
    fun start top rest hop hloops htop => endloop_forever hs hop hloops htop,
    fun start top rest hop hloops htop hleft => endloop_repeats hs hop hloops htop hleft,
    fun start top rest hop hloops htop hleft => endloop_leaves hs hop hloops htop hleft,
    fun a hop => ?call, fun c rest hop hcalls => ?ret, fun pop a hop => ?jump⟩
  case nop => exact (drillStep_executes hs hop rfl : execNop t lane s = _)
  case forever => exact (drillStep_executes hs hop rfl : execLoop t lane s = _)
  case skip => exact (drillStep_executes hs hop rfl : execLoop t lane s = _)
  case call => exact (drillStep_executes hs hop rfl : execCall t lane s = _)
  case ret => exact ret_pops hs hop hcalls
  case jump => exact (drillStep_executes hs hop rfl : execJump t lane s = _)

end Sys2Proof.Machine
end

section
namespace Sys2Proof.Machine

/-! ### What is one lane's own: its drill and its chain -/

/-- An entry set twice holds what was set last. -/
theorem SMap.set_set {α : Type} (m : SMap α) (i : Nat) (v w : α) : SMap.set (SMap.set m i v) i w = SMap.set m i w := by
  induction m with
  | nil => simp [SMap.set]
  | cons p m ih =>
    obtain ⟨k, x⟩ := p
    simp only [SMap.set]
    split
    · simp [SMap.set]
    · split
      · simp [SMap.set]
      · simp_all [SMap.set]

@[simp] theorem Dev.setDrill_setDrill (d : Dev) (l : Nat) (x y : Drill) : (d.setDrill l x).setDrill l y = d.setDrill l y := by
  simp [Dev.setDrill, SMap.set_set]

/-- `e` is `d` but for the drill and the chain of lane `l`. -/
structure Dev.Local (l : Nat) (d e : Dev) : Prop where
  same : e = { d with drills := e.drills, chains := e.chains }
  drill : ∀ k, k ≠ l → e.drill k = d.drill k
  chain : ∀ k, k ≠ l → e.chain k = d.chain k

theorem Dev.Local.refl (l : Nat) (d : Dev) : d.Local l d := ⟨rfl, fun _ _ => rfl, fun _ _ => rfl⟩
theorem Dev.Local.trans {l : Nat} {d e f : Dev} (h : d.Local l e) (g : e.Local l f) : d.Local l f where
  same := by rw [g.same, h.same]
  drill k hk := (g.drill k hk).trans (h.drill k hk)
  chain k hk := (g.chain k hk).trans (h.chain k hk)

theorem Dev.local_setDrill (d : Dev) (l : Nat) (r : Drill) : d.Local l (d.setDrill l r) :=
  ⟨rfl, fun k hk => d.drill_setDrill_other l k r (Ne.symm hk), fun _ _ => rfl⟩
theorem Dev.local_setChain (d : Dev) (l : Nat) (c : Chain) : d.Local l (d.setChain l c) :=
  ⟨rfl, fun _ _ => rfl, fun k hk => d.chain_setChain_other l k c (Ne.symm hk)⟩

section
variable {l : Nat} {d e : Dev} (h : d.Local l e)
include h
theorem Dev.Local.objs : e.objs = d.objs := by rw [h.same]
theorem Dev.Local.faults : e.faults = d.faults := by rw [h.same]
theorem Dev.Local.shotNo (k : Nat) : e.shotNo k = d.shotNo k := by rw [h.same]; rfl
theorem Dev.Local.ts (k : Nat) : e.ts k = d.ts k := by rw [h.same]; rfl
end

/-- A request outside a prediction moves no drill. -/
theorem Dev.request_drill {d : Dev} {l : Nat} (x : Timed) (h : (d.drill l).shadow = none) : (d.request l x).drill l = d.drill l := by
  rw [Dev.request_confirmed d l x h]; rfl
theorem Dev.local_request {d : Dev} {l : Nat} (x : Timed) (h : (d.drill l).shadow = none) : d.Local l (d.request l x) := by
  rw [Dev.request_confirmed d l x h]; exact d.local_setChain l _

/-- A segment's marker is a request, or nothing. -/
theorem Dev.segMarker_cases (d : Dev) (l stamp : Nat) : d.segMarker l stamp = d ∨ ∃ x, d.segMarker l stamp = d.request l x := by
  unfold Dev.segMarker
  extract_lets v width
  split
  · exact .inl rfl
  · split
    · split
      · exact .inr ⟨_, rfl⟩
      · exact .inl rfl
    · split
      · exact .inr ⟨_, rfl⟩
      · exact .inl rfl

/-- A marker asked for outside a prediction concerns the lane's own chain, and leaves its drill alone. -/
theorem Dev.segMarker_local {d : Dev} {l : Nat} (stamp : Nat) (h : (d.drill l).shadow = none) :
    d.Local l (d.segMarker l stamp) ∧ (d.segMarker l stamp).drill l = d.drill l := by
  rcases d.segMarker_cases l stamp with hnone | ⟨x, hx⟩
  · rw [hnone]; exact ⟨.refl l d, rfl⟩
  · rw [hx]; exact ⟨Dev.local_request x h, Dev.request_drill x h⟩

/-! ### Segment ends (R132–R134) -/

/-- A drill past a segment end at its cursor, at grid time `stop`, where no watch fires. -/
def Drill.pastSegment (r : Drill) (now stop cut : Nat) : Drill :=
  { r with segStart := r.cursor, segEnds := stop :: r.segEnds.filter (fun x => now < x)
           watch := r.watch.map (fun w => if r.watchHere w then { w with prev := some cut } else w) }

/-- A drill that a watch has sent elsewhere at a segment end. -/
def Drill.diverted (r : Drill) (now stop : Nat) (w : Watch) : Drill :=
  { r with segStart := r.cursor, segEnds := stop :: r.segEnds.filter (fun x => now < x), watch := none, pc := w.target, loops := r.loops.drop w.pop
           latches := if w.mask = 0 then r.latches else SMap.del r.latches w.channel }

/-- The event that fired a watch with a mask is used up. -/
theorem Drill.diverted_latch (r : Drill) (now stop : Nat) {w : Watch} (h : w.mask ≠ 0) : SMap.find (r.diverted now stop w).latches w.channel = none := by
  simp [Drill.diverted, h]

section
variable {d : Dev} {l : Nat} (hshadow : (d.drill l).shadow = none) (hlane : (d.commitOf (Obj.laneCommit l)).waits 2 = false)
  (hbias : (d.commitOf (Obj.biasCommit l)).waits 2 = false)
include hshadow hlane hbias

/-- A segment end that no commit waits for: no watch fires and it is passed, or one diverts the drill. -/
theorem Dev.segmentEnd_cases (hseg : (d.drill l).segStart < (d.drill l).cursor) :
    ((d.drill l).watchFires (d.cutoff l (d.drill l).cursor) = none
      ∧ d.segmentEnd l = (d.setDrill l ((d.drill l).pastSegment d.now (d.cursorTime l (d.drill l).cursor) (d.cutoff l (d.drill l).cursor)), false))
    ∨ ∃ w late, (d.drill l).watchFires (d.cutoff l (d.drill l).cursor) = some w
      ∧ d.segmentEnd l =
          (let e := d.setDrill l ((d.drill l).diverted d.now (d.cursorTime l (d.drill l).cursor) w)
           if late = true then e.bump (Obj.laneLateJumps l) else e, true) := by
  unfold Dev.segmentEnd
  extract_lets r cut d1 r1 passed
  rw [if_neg (Nat.not_le.mpr hseg), if_neg (by rw [hshadow]; decide)]
  have hd1 : d1 = d.setDrill l { r with segStart := r.cursor, segEnds := d.cursorTime l r.cursor :: r.segEnds.filter (fun x => d.now < x) } := by
    unfold d1
    rw [Dev.segmentCommits_idle (d.setDrill l _) l _ _ hlane hbias, Dev.drill_setDrill_same, Dev.setDrill_setDrill]
    rfl
  have hr1 : r1 = { r with segStart := r.cursor, segEnds := d.cursorTime l r.cursor :: r.segEnds.filter (fun x => d.now < x) } := by
    unfold r1; rw [hd1, Dev.drill_setDrill_same]
  clear_value d1 r1
  subst hd1 hr1
  simp only [Dev.setDrill_setDrill]
  split
  next w hfires => exact .inr ⟨w, _, hfires, rfl⟩
  next hnone => exact .inl ⟨hnone, rfl⟩

/-- A segment end where no watch fires. -/
theorem Dev.segmentEnd_passes (hseg : (d.drill l).segStart < (d.drill l).cursor)
    (hw : (d.drill l).watchFires (d.cutoff l (d.drill l).cursor) = none) :
    d.segmentEnd l = (d.setDrill l ((d.drill l).pastSegment d.now (d.cursorTime l (d.drill l).cursor) (d.cutoff l (d.drill l).cursor)), false) := by
  rcases d.segmentEnd_cases hshadow hlane hbias hseg with ⟨-, hpast⟩ | ⟨w, _, hfires, -⟩
  · exact hpast
  · exact absurd (hw.symm.trans hfires) nofun

/-- A segment end where a watch fires: beside the lane's drill only LaneLateJumps moves. -/
theorem Dev.segmentEnd_diverts {w : Watch} (hseg : (d.drill l).segStart < (d.drill l).cursor)
    (hw : (d.drill l).watchFires (d.cutoff l (d.drill l).cursor) = some w) :
    ∃ e, d.segmentEnd l = (e, true) ∧ e.drill l = (d.drill l).diverted d.now (d.cursorTime l (d.drill l).cursor) w
      ∧ (∀ k, k ≠ l → e.drill k = d.drill k ∧ e.chain k = d.chain k) ∧ e.faults = d.faults := by
  rcases d.segmentEnd_cases hshadow hlane hbias hseg with ⟨hnone, -⟩ | ⟨w', late, hfires, heq⟩
  · exact absurd (hnone.symm.trans hw) nofun
  · obtain rfl : w = w' := Option.some.inj (hw.symm.trans hfires)
    refine ⟨_, heq, ?_, fun k hk => ⟨?_, ?_⟩, ?_⟩
    case refine_1 => split <;> simp
    case refine_2 => split <;> simp [Dev.drill_setDrill_other _ _ _ _ (Ne.symm hk)]
    all_goals split <;> rfl

/-- An instruction that may begin a segment, where no watch replaces it: what the segment end changes is the lane's own, and of its drill only
where the segment starts, the ends passed and the watch. -/
theorem Dev.segment_quiet (b : Bool)
    (hquiet : b = true → (d.drill l).segStart < (d.drill l).cursor → (d.drill l).watchFires (d.cutoff l (d.drill l).cursor) = none) :
    ∃ e start ends watch, (if b then d.segmentEnd l else (d, false)) = (e, false) ∧ d.Local l e
      ∧ e.drill l = { d.drill l with segStart := start, segEnds := ends, watch := watch } := by
  cases b with
  | false => exact ⟨d, _, _, _, rfl, .refl l d, rfl⟩
  | true =>
    by_cases hseg : (d.drill l).segStart < (d.drill l).cursor
    · exact ⟨_, _, _, _, d.segmentEnd_passes hshadow hlane hbias hseg (hquiet rfl hseg), d.local_setDrill l _, d.drill_setDrill_same l _⟩
    · exact ⟨d, _, _, _, if_pos (Nat.not_lt.mp hseg), .refl l d, rfl⟩

/-- The same with the segment's marker, where the instruction asks for one. -/
theorem Dev.segment_marked (b m : Bool)
    (hquiet : b = true → (d.drill l).segStart < (d.drill l).cursor → (d.drill l).watchFires (d.cutoff l (d.drill l).cursor) = none) :
    ∃ d1 e start ends watch, (if b then d.segmentEnd l else (d, false)) = (d1, false)
      ∧ (if m then d1.segMarker l (d1.cursorTime l (d.drill l).cursor) else d1) = e ∧ d.Local l e
      ∧ e.drill l = { d.drill l with segStart := start, segEnds := ends, watch := watch } := by
  obtain ⟨d1, start, ends, watch, hend, hlocal, hdrill⟩ := d.segment_quiet hshadow hlane hbias b hquiet
  have hmark := d1.segMarker_local (d1.cursorTime l (d.drill l).cursor) (by rw [hdrill]; exact hshadow)
  refine ⟨d1, _, start, ends, watch, hend, rfl, ?_, ?_⟩
  · split
    · exact hlocal.trans hmark.1
    · exact hlocal
  · split
    · exact hmark.2.trans hdrill
    · exact hdrill

end

end Sys2Proof.Machine
end

section
namespace Sys2Proof.Machine

/-! ### `wait` and `at` (R118, R123, R132–R134) -/

/-- What holds a segment's beginning is only asked where one begins. -/
theorem begins_not_held {b waits : Bool} (h : b = true → waits = false) : (b && waits) = false := by
  cases b with
  | false => rfl
  | true => exact h rfl

section
variable {t : Nat} {lane : Lane} {s : State} {sg m : Bool} {n : Nat} (h : s.Runs) (hrun : (s.dev.drill lane.val).run = .inShot)
  (hop : s.Executes t lane (.wait sg m n))
include h hrun hop

/-- A `wait` of 0 only moves on, flags and all. -/
theorem wait_nothing (hn : n = 0) : execWait t lane s = .next (s.withDev ((s.devAt t).setDrill lane.val (s.dev.drill lane.val).step)) :=
  drillStep_executes h hop ((if_neg (by simp [hrun])).trans (if_pos hn))

/-- A `wait` at a segment end that keeps the drill does nothing. -/
theorem wait_held (hn : 0 < n) (hbegins : (sg || (s.dev.drill lane.val).segDue) = true) (hwaits : (s.devAt t).watchWaits lane.val = true) :
    execWait t lane s = .next (s.withDev (s.devAt t)) :=
  drillStep_executes h hop
    ((if_neg (by simp [hrun])).trans ((if_neg (Nat.pos_iff_ne_zero.mp hn)).trans (if_pos (by rw [hbegins, hwaits]; rfl))))

variable (hn : 0 < n) (hfree : (sg || (s.dev.drill lane.val).segDue) = true → (s.devAt t).watchWaits lane.val = false)
include hn hfree

/-- A `wait` that a watch replaces. -/
theorem wait_replaced {e : Dev}
    (hend : (if (sg || (s.dev.drill lane.val).segDue) then (s.devAt t).segmentEnd lane.val else (s.devAt t, false)) = (e, true))
    (hfaults : e.faults = s.dev.faults) : execWait t lane s = .next (s.withDev e) := by
  refine drillStep_executes h hop ((if_neg (by simp [hrun])).trans ((if_neg (Nat.pos_iff_ne_zero.mp hn)).trans
    ((if_neg (by rw [begins_not_held hfree]; decide)).trans ?_))) hfaults
  simp only [hend, if_true]

/-- A `wait` that no watch replaces moves the cursor on, behind its segment's marker. -/
theorem wait_goes {d1 d2 : Dev}
    (hend : (if (sg || (s.dev.drill lane.val).segDue) then (s.devAt t).segmentEnd lane.val else (s.devAt t, false)) = (d1, false))
    (hmark : (if m then d1.segMarker lane.val (d1.cursorTime lane.val (s.dev.drill lane.val).cursor) else d1) = d2)
    (hfaults : d2.faults = s.dev.faults) :
    execWait t lane s = .next (s.withDev (d2.setDrill lane.val
      { (d2.drill lane.val).step with cursor := (d2.drill lane.val).cursor + n, segDue := false })) := by
  refine drillStep_executes h hop ((if_neg (by simp [hrun])).trans ((if_neg (Nat.pos_iff_ne_zero.mp hn)).trans
    ((if_neg (by rw [begins_not_held hfree]; decide)).trans ?_))) hfaults
  simp only [hend, hmark, Bool.false_eq_true, if_false]

end

/-- Settles O3: the segment end that a `wait` may begin is one of three, held, diverted or quiet, and a quiet one is the lane's own affair. -/
theorem cursorInstructionsMoveTheCursor : Obligations.CursorInstructionsMoveTheCursor := by
  unfold Obligations.CursorInstructionsMoveTheCursor
  intro t lane s hs d l r hrun
  refine ⟨fun sg m n hop hn hshadow hlane hbias => ⟨fun hquiet => ?moves, fun hbegins hwaits => wait_held hs hrun hop hn hbegins hwaits,
    fun w hbegins hfree hseg hfires => ?diverted⟩, fun sg m hop => wait_nothing hs hrun hop rfl, fun v hop => ?ahead⟩
  case moves =>
    obtain ⟨d1, e, start, ends, watch, hend, hmark, hlocal, hdrill⟩ := d.segment_marked hshadow hlane hbias _ m fun hb => (hquiet hb).2
    let e' := e.setDrill l { (e.drill l).step with cursor := (e.drill l).cursor + n, segDue := false }
    have hlocal' : d.Local l e' := hlocal.trans (e.local_setDrill l _)
    have hdrill' : e'.drill l =
        { r with pc := r.pc + 1, segStart := start, segEnds := ends, watch := watch, cursor := r.cursor + n, segDue := false } := by
      rw [Dev.drill_setDrill_same, hdrill]; rfl
    have field {α : Type} (f : Drill → α) := congrArg f hdrill'
    exact ⟨_, wait_goes hs hrun hop hn (fun hb => (hquiet hb).1) hend hmark hlocal.faults, field Drill.pc, field Drill.cursor,
      field Drill.busy, field Drill.loops, field Drill.segDue, hlocal'.objs,
      fun k hk => ⟨hlocal'.drill k hk, hlocal'.chain k hk⟩, rfl⟩
  case diverted =>
    obtain ⟨e, hend, hdrill, hothers, hfaults⟩ := d.segmentEnd_diverts hshadow hlane hbias hseg hfires
    have field {α : Type} (f : Drill → α) := congrArg f hdrill
    exact ⟨_, wait_replaced hs hrun hop hn (fun _ => hfree) ((if_pos hbegins).trans hend) hfaults, field Drill.pc, field Drill.loops,
      field Drill.watch, field Drill.cursor, field Drill.segStart, ⟨hothers, rfl⟩,
      fun hmask => (field fun x => SMap.find x.latches w.channel).trans (r.diverted_latch _ _ hmask)⟩
  case ahead => exact (drillStep_executes hs hop (if_pos hrun) : execAtCursor t lane s = _)

end Sys2Proof.Machine
end

section
namespace Sys2Proof.Machine

/-! ### `play` (R120, R92, R132–R134) -/

/-- What stands at the issue port once a job has come behind it, but for what a mute discards (R92). -/
def Drill.readyWith (r : Drill) (j : PlayJob) : List PlayJob :=
  if (r.unmuted j).next < (r.unmuted j).length then r.ready ++ [r.unmuted j] else r.ready

/-- Granules queued outside a prediction stand at the lane's issue port. -/
theorem Dev.queueJob_confirmed {d : Dev} {l : Nat} (j : PlayJob) (h : (d.drill l).shadow = none) :
    d.Local l (d.queueJob l j) ∧ ∃ urgent, (d.queueJob l j).drill l = { d.drill l with ready := (d.drill l).readyWith j, urgentDue := urgent } := by
  by_cases hleft : ((d.drill l).unmuted j).next < ((d.drill l).unmuted j).length
  · have hqueue : d.queueJob l j = d.setDrill l { d.drill l with ready := (d.drill l).readyWith j, urgentDue := false } := by
      unfold Dev.queueJob Drill.readyWith
      rw [if_pos hleft]
      refine (if_neg (Nat.not_le.mpr hleft)).trans ?_
      split
      next sh hsh => exact absurd (h.symm.trans hsh) nofun
      next => rfl
    rw [hqueue]
    exact ⟨d.local_setDrill l _, _, d.drill_setDrill_same l _⟩
  · have hqueue : d.queueJob l j = d := if_pos (Nat.not_lt.mp hleft)
    rw [hqueue, Drill.readyWith, if_neg hleft]
    exact ⟨.refl l d, _, rfl⟩

/-- A waveform played outside a prediction: the lane's own affair, and what becomes of its drill. -/
theorem Dev.playAt_confirmed {d : Dev} {l : Nat} (w : Nat) (amp : Int) (frame phase : Nat) (hold : Bool) (seg : Option Nat)
    (h : (d.drill l).shadow = none) :
    d.Local l (d.playAt l w amp frame phase hold seg) ∧ ∃ urgent, (d.playAt l w amp frame phase hold seg).drill l =
      { d.drill l with
        ready := (d.drill l).readyWith (d.jobOf l w amp frame phase (d.drill l).cursor (d.drill l).urgentDue (d.drill l).firstDue none seg)
        urgentDue := urgent, busy := (d.drill l).cursor + ((d.drill l).entryOf w).length
        cursor := if hold then (d.drill l).cursor else (d.drill l).cursor + ((d.drill l).entryOf w).length
        firstDue := false, streamCur := (d.drill l).streamPast w } := by
  obtain ⟨hlocal, urgent, hdrill⟩ := d.queueJob_confirmed
    (d.jobOf l w amp frame phase (d.drill l).cursor (d.drill l).urgentDue (d.drill l).firstDue none seg) h
  refine ⟨hlocal.trans (Dev.local_setDrill _ l _), urgent, ?_⟩
  unfold Dev.playAt
  simp only [Dev.drill_setDrill_same, hdrill]
  rfl

section
variable {t : Nat} {lane : Lane} {s : State} {sg m hold : Bool} {w frame phase : Nat} {amp : Int} (h : s.Runs)
  (hrun : (s.dev.drill lane.val).run = .inShot) (halt : (s.dev.drill lane.val).alt = none)
  (hop : s.Executes t lane (.play sg m hold w amp frame phase))
include h hrun halt hop

/-- A `play` outside an alternate group is decided by the branches behind its group. -/
theorem play_outside {e : Dev}
    (he : (if ((s.dev.drill lane.val).entryOf w).length = 0 then (s.devAt t).setDrill lane.val (s.dev.drill lane.val).step
      else if (sg || (s.dev.drill lane.val).segDue) && (s.devAt t).watchWaits lane.val then s.devAt t
      else
        let b := if sg || (s.dev.drill lane.val).segDue then (s.devAt t).segmentEnd lane.val else (s.devAt t, false)
        if b.2 then b.1
        else
          let d2 := if m then b.1.segMarker lane.val (b.1.cursorTime lane.val (s.dev.drill lane.val).cursor) else b.1
          let d3 := d2.playAt lane.val w amp frame phase hold none
          d3.setDrill lane.val { (d3.drill lane.val).step with segDue := false }) = e)
    (hfaults : e.faults = s.dev.faults := by rfl) : execPlay t lane s = .next (s.withDev e) := by
  refine drillStep_executes h hop ((if_neg (by simp [hrun])).trans ?_) hfaults
  rw [halt]
  exact he

/-- A waveform the program does not name plays nothing. -/
theorem play_nothing (hlen : ((s.dev.drill lane.val).entryOf w).length = 0) :
    execPlay t lane s = .next (s.withDev ((s.devAt t).setDrill lane.val (s.dev.drill lane.val).step)) :=
  play_outside h hrun halt hop (if_pos hlen)

variable (hlen : 0 < ((s.dev.drill lane.val).entryOf w).length)
include hlen

/-- A `play` at a segment end that keeps the drill does nothing. -/
theorem play_held (hbegins : (sg || (s.dev.drill lane.val).segDue) = true) (hwaits : (s.devAt t).watchWaits lane.val = true) :
    execPlay t lane s = .next (s.withDev (s.devAt t)) :=
  play_outside h hrun halt hop ((if_neg (Nat.pos_iff_ne_zero.mp hlen)).trans (if_pos (by rw [hbegins, hwaits]; rfl)))

variable (hfree : (sg || (s.dev.drill lane.val).segDue) = true → (s.devAt t).watchWaits lane.val = false)
include hfree

/-- A `play` that a watch replaces. -/
theorem play_replaced {e : Dev}
    (hend : (if (sg || (s.dev.drill lane.val).segDue) then (s.devAt t).segmentEnd lane.val else (s.devAt t, false)) = (e, true))
    (hfaults : e.faults = s.dev.faults) : execPlay t lane s = .next (s.withDev e) := by
  refine play_outside h hrun halt hop ((if_neg (Nat.pos_iff_ne_zero.mp hlen)).trans ((if_neg (by rw [begins_not_held hfree]; decide)).trans ?_)) hfaults
  simp only [hend, if_true]

/-- A `play` that no watch replaces plays its waveform, behind its segment's marker. -/
theorem play_goes {d1 d2 e : Dev}
    (hend : (if (sg || (s.dev.drill lane.val).segDue) then (s.devAt t).segmentEnd lane.val else (s.devAt t, false)) = (d1, false))
    (hmark : (if m then d1.segMarker lane.val (d1.cursorTime lane.val (s.dev.drill lane.val).cursor) else d1) = d2)
    (hplay : d2.playAt lane.val w amp frame phase hold none = e) (hfaults : e.faults = s.dev.faults) :
    execPlay t lane s = .next (s.withDev (e.setDrill lane.val { (e.drill lane.val).step with segDue := false })) := by
  refine play_outside h hrun halt hop ((if_neg (Nat.pos_iff_ne_zero.mp hlen)).trans ((if_neg (by rw [begins_not_held hfree]; decide)).trans ?_)) hfaults
  simp only [hend, hmark, hplay, Bool.false_eq_true, if_false]

end

/-- Settles O9: as a `wait` does, a `play` meets a segment end that holds, diverts or lets it pass; then its granules stand at the issue port. -/
theorem playQueuesItsGranules : Obligations.PlayQueuesItsGranules := by
  unfold Obligations.PlayQueuesItsGranules
  intro t lane s hs d l r sg m hold w amp frame phase hop hrun halt job begins others
  refine ⟨fun hlen hshadow hlane hbias => ⟨fun hquiet => ?plays, fun hbegins hwaits => play_held hs hrun halt hop hlen hbegins hwaits,
    fun x hbegins hfree hseg hfires => ?diverted⟩, fun hlen => play_nothing hs hrun halt hop hlen⟩
  case plays =>
    obtain ⟨d1, d2, start, ends, watch, hend, hmark, hlocal, hdrill⟩ := d.segment_marked hshadow hlane hbias _ m fun hb => (hquiet hb).2
    obtain ⟨hplays, urgent, hplayed⟩ := d2.playAt_confirmed w amp frame phase hold none (by rw [hdrill]; exact hshadow)
    have hlocal2 := hlocal.trans hplays
    let e := (d2.playAt l w amp frame phase hold none).setDrill l { ((d2.playAt l w amp frame phase hold none).drill l).step with segDue := false }
    have hlocal3 : d.Local l e := hlocal2.trans (Dev.local_setDrill _ l _)
    have hjob : d2.jobOf l w amp frame phase r.cursor r.urgentDue r.firstDue none none = job := by
      unfold Dev.jobOf
      simp only [hdrill, hlocal.shotNo, hlocal.ts]
      rfl
    have hdrill' : e.drill l =
        { r with
          pc := r.pc + 1, segStart := start, segEnds := ends, watch := watch, ready := r.readyWith job, urgentDue := urgent
          busy := r.cursor + (r.entryOf w).length, cursor := if hold then r.cursor else r.cursor + (r.entryOf w).length
          firstDue := false, streamCur := r.streamPast w, segDue := false } := by
      rw [Dev.drill_setDrill_same, hplayed, hdrill, ← hjob]; rfl
    have field {α : Type} (f : Drill → α) := congrArg f hdrill'
    refine ⟨_, play_goes hs hrun halt hop hlen (fun hb => (hquiet hb).1) hend hmark rfl hlocal2.faults, field Drill.pc, field Drill.busy,
      field Drill.cursor, field Drill.firstDue, fun hmute => ?_, field Drill.ready, hlocal3.objs, fun k hk => ⟨hlocal3.drill k hk, hlocal3.chain k hk⟩,
      rfl⟩
    unfold Drill.unmuted
    rw [hmute]
  case diverted =>
    obtain ⟨e, hend, hdrill, hothers, hfaults⟩ := d.segmentEnd_diverts hshadow hlane hbias hseg hfires
    have field {α : Type} (f : Drill → α) := congrArg f hdrill
    exact ⟨_, play_replaced hs hrun halt hop hlen (fun _ => hfree) ((if_pos hbegins).trans hend) hfaults, field Drill.pc, field Drill.loops,
      field Drill.watch, field Drill.ready, field Drill.cursor, field Drill.segStart, ⟨hothers, rfl⟩,
      fun hmask => (field fun y => SMap.find y.latches x.channel).trans (r.diverted_latch _ _ hmask)⟩

end Sys2Proof.Machine
end

section
namespace Sys2Proof.Machine

/-! ### Requests (R125, R126, R157, R258) -/

/-- Moving on leaves a drill in the same state of prediction, so that its request joins those of its chain. -/
theorem Dev.request_past (d : Dev) (l : Nat) (x : Timed) (h : (d.drill l).shadow = none) :
    (d.setDrill l (d.drill l).step).request l x =
      (d.setDrill l (d.drill l).step).setChain l
        { d.chain l with timed := (d.chain l).timed ++ [{ req := x, why := (d.drill l).why }] } := by
  rw [Dev.request_confirmed _ l x (by rw [Dev.drill_setDrill_same]; exact h), Dev.drill_setDrill_same]
  rfl

/-- Requests outside a prediction join those of the lane's chain in their order. -/
theorem Dev.requests_confirmed {d : Dev} {l : Nat} (xs : List Timed) (h : (d.drill l).shadow = none) :
    d.Local l (xs.foldl (fun e x => e.request l x) d) ∧ (xs.foldl (fun e x => e.request l x) d).drill l = d.drill l
      ∧ ((xs.foldl (fun e x => e.request l x) d).chain l).timed
          = (d.chain l).timed ++ xs.map (fun x => { req := x, why := (d.drill l).why }) := by
  induction xs generalizing d with
  | nil => exact ⟨.refl l d, rfl, (List.append_nil _).symm⟩
  | cons x xs ih =>
    have hdrill := Dev.request_drill x h
    obtain ⟨hlocal, hkept, htimed⟩ := ih (d := d.request l x) (hdrill ▸ h)
    refine ⟨(Dev.local_request x h).trans hlocal, hkept.trans hdrill, htimed.trans ?_⟩
    rw [hdrill, Dev.request_confirmed d l x h, Dev.chain_setChain_same, List.append_assoc]
    rfl

/-- `e` is `d` but for what the shot groups and the entries know of windows. -/
def Dev.Windowed (d e : Dev) : Prop := e = { d with groups := e.groups, vpt := e.vpt }

theorem Dev.windowed_addWindow (d : Dev) (l : Nat) (x : Timed) : d.Windowed (d.addWindow l x) := by
  cases x <;> rfl

theorem Dev.windowed_addWindows (d : Dev) (l : Nat) (xs : List Timed) : d.Windowed (xs.foldl (fun e x => e.addWindow l x) d) := by
  induction xs generalizing d with
  | nil => rfl
  | cons x xs ih =>
    have hx := d.windowed_addWindow l x
    have hxs := ih (d.addWindow l x)
    unfold Dev.Windowed at hx hxs ⊢
    rw [List.foldl_cons, hxs, hx]

/-- The state past an instruction, with its request sent. -/
def State.sent (s : State) (t : Nat) (lane : Lane) (x : Timed) : State :=
  s.withDev (((s.devAt t).setDrill lane.val (s.dev.drill lane.val).step).setChain lane.val
    { s.dev.chain lane.val with timed := (s.dev.chain lane.val).timed ++ [{ req := x, why := (s.dev.drill lane.val).why }] })

/-- An instruction that moves on with a request sends it. -/
theorem drillStep_sends {t : Nat} {lane : Lane} {s : State} {f : Dev → Nat → Drill → Op → Dev} {op : Op} {x : Timed} (h : s.Runs)
    (hshadow : (s.dev.drill lane.val).shadow = none) (hop : s.Executes t lane op)
    (hf : f (s.devAt t) lane.val (s.dev.drill lane.val) op = ((s.devAt t).setDrill lane.val (s.dev.drill lane.val).step).request lane.val x) :
    drillStep t lane f s = .next (s.sent t lane x) :=
  drillStep_executes h hop (hf.trans ((s.devAt t).request_past lane.val x hshadow))

section
variable {t : Nat} {lane : Lane} {s : State} (h : s.Runs) (hrun : (s.dev.drill lane.val).run = .inShot)
include h hrun

/-- A pulse of width 0 on a pin is none. -/
theorem mark_nothing {kind target off : Nat} (hop : s.Executes t lane (.mark kind target 0 0 off)) (hkind : kind ≠ 1) :
    execMark t lane s = .next (s.withDev ((s.devAt t).setDrill lane.val (s.dev.drill lane.val).step)) :=
  drillStep_executes h hop ((if_pos hrun).trans ((if_neg hkind).trans (if_pos rfl)))

variable (hshadow : (s.dev.drill lane.val).shadow = none)
include hshadow

/-- A `mark` on an event channel sends its firing. -/
theorem mark_event {target action width off : Nat} (hop : s.Executes t lane (.mark 1 target action width off)) :
    execMark t lane s = .next (s.sent t lane (.event target ((s.devAt t).cursorTime lane.val (s.dev.drill lane.val).cursor + off))) :=
  drillStep_sends h hshadow hop ((if_pos hrun).trans (if_pos rfl))

/-- A `mark` on a pin sends its edge. -/
theorem mark_pin {kind target action width off : Nat} (hop : s.Executes t lane (.mark kind target action width off)) (hkind : kind ≠ 1)
    (hpulse : ¬(action = 0 ∧ width = 0)) :
    execMark t lane s = .next (s.sent t lane (.pin target action width ((s.devAt t).cursorTime lane.val (s.dev.drill lane.val).cursor + off))) :=
  drillStep_sends h hshadow hop ((if_pos hrun).trans ((if_neg hkind).trans (if_neg (by simpa using hpulse))))

/-- An `acquire` sends a window's request per slot, and the shot takes note of the windows. -/
theorem acquire_sends {input slots off : Nat} (hop : s.Executes t lane (.acquire input slots off)) :
    ∃ e f, execAcquire t lane s = .next (s.withDev f) ∧ (s.devAt t).Local lane.val e ∧ e.Windowed f
      ∧ e.drill lane.val = (s.dev.drill lane.val).step
      ∧ (e.chain lane.val).timed = (s.dev.chain lane.val).timed ++ (setBits 16 slots).map (fun k =>
          { req := .window (16 * input + k) ((s.devAt t).cursorTime lane.val (s.dev.drill lane.val).cursor + off) ((s.devAt t).shotNo lane.val)
            why := (s.dev.drill lane.val).why }) := by
  let d := s.devAt t
  let l := lane.val
  let asks := (setBits 16 slots).map (fun k => Timed.window (16 * input + k) (d.cursorTime l (s.dev.drill l).cursor + off) (d.shotNo l))
  have hstep : ((d.setDrill l (s.dev.drill l).step).drill l) = (s.dev.drill l).step := Dev.drill_setDrill_same _ _ _
  obtain ⟨hlocal, hdrill, htimed⟩ := Dev.requests_confirmed (d := d.setDrill l (s.dev.drill l).step) asks (by rw [hstep]; exact hshadow)
  have hlocal' := (d.local_setDrill l _).trans hlocal
  have hwindowed := (asks.foldl (fun e x => e.request l x) (d.setDrill l (s.dev.drill l).step)).windowed_addWindows l asks
  refine ⟨_, _, drillStep_executes h hop ((if_pos hrun).trans (if_neg (by simp [hshadow]))) ?faults, hlocal', hwindowed, hdrill.trans hstep, ?timed⟩
  case faults => exact (congrArg Dev.faults hwindowed).trans hlocal'.faults
  case timed =>
    rw [htimed, hstep, List.map_map]
    rfl

end

/-- Settles O5: each request is stamped by the cursor and joins the chain's, the windows of an `acquire` one by one. -/
theorem requestsTravelWithTheirStamp : Obligations.RequestsTravelWithTheirStamp := by
  unfold Obligations.RequestsTravelWithTheirStamp
  intro t lane s hs d l r c now past sent hrun hshadow
  refine ⟨fun f w hop => ?freq, fun f add ph hop => ?phase, fun f off hop => ?origin, fun target action width off hop => mark_event hs hrun hshadow hop,
    fun kind target action width off hop hkind hpulse => mark_pin hs hrun hshadow hop hkind hpulse,
    fun kind target off hop hkind => mark_nothing hs hrun hop hkind, fun code hop => ?bias, fun input slots off hop => ?acquire⟩
  case freq => exact (drillStep_sends hs hshadow hop (if_pos hrun) : execFrameFreq t lane s = _)
  case phase => exact (drillStep_sends hs hshadow hop (if_pos hrun) : execFramePhase t lane s = _)
  case origin => exact (drillStep_sends hs hshadow hop (if_pos hrun) : execFrameOrigin t lane s = _)
  case bias => exact (drillStep_sends hs hshadow hop (if_pos hrun) : execBias t lane s = _)
  case acquire =>
    obtain ⟨e, f, hexec, hlocal, hwindowed, hdrill, htimed⟩ := acquire_sends hs hrun hshadow hop
    have hdrills (k : Nat) : f.drill k = e.drill k := by unfold Dev.drill; rw [hwindowed]
    have hchains (k : Nat) : f.chain k = e.chain k := by unfold Dev.chain; rw [hwindowed]
    refine ⟨_, hexec, congrArg Drill.pc ((hdrills l).trans hdrill), (congrArg Chain.timed (hchains l)).trans htimed,
      fun k hk => ⟨(hdrills k).trans (hlocal.drill k hk), (hchains k).trans (hlocal.chain k hk)⟩, (congrArg Dev.objs hwindowed).trans hlocal.objs, rfl⟩

end Sys2Proof.Machine
end

section
namespace Sys2Proof.Machine

/-! ### `sync` (R136) -/

/-- A `sync` of a drill just changed that counts as missed: the drill goes on behind its limit with the flag set, and LaneSyncTimeouts counts. -/
theorem Dev.syncMissed_setDrill (d : Dev) (l timeout gap : Nat) (r : Drill) :
    (d.setDrill l r).syncMissed l timeout gap =
      (d.setDrill l { r.step with run := .inShot, timeoutFlag := true, cursor := r.cursor + timeout + gap }).bump (Obj.laneSyncTimeouts l) := by
  unfold Dev.syncMissed
  simp only [Dev.drill_setDrill_same, Dev.setDrill_setDrill]

/-- The same of a `sync` that is taken. -/
theorem Dev.syncDone_setDrill (d : Dev) (l chan gap : Nat) (r : Drill) (e : EvTime) :
    (d.setDrill l r).syncDone l chan gap e =
      d.setDrill l { r.step with run := .inShot, cursor := syncCursor r.cursor (d.ts l) gap e, latches := SMap.del r.latches chan } := by
  unfold Dev.syncDone
  simp only [Dev.drill_setDrill_same, Dev.setDrill_setDrill]
  rfl

/-- What a state in which lane `l` has missed its `sync` shows: its drill is `r`, and nothing but LaneSyncTimeouts has moved beside it. -/
theorem syncMissed_shows (s : State) (t l : Nat) (r : Drill) :
    let s' := s.withDev (((s.devAt t).setDrill l r).bump (Obj.laneSyncTimeouts l))
    ((∀ k, k ≠ l → s'.dev.drill k = s.dev.drill k) ∧ s'.dev.chains = s.dev.chains ∧ s'.mem = s.mem) ∧ s'.dev.drill l = r
      ∧ s'.dev.val (Obj.laneSyncTimeouts l) = wrap 32 (s.dev.val (Obj.laneSyncTimeouts l) + 1) :=
  ⟨⟨fun k hk => Dev.drill_setDrill_other (s.devAt t) l k r (Ne.symm hk), rfl, rfl⟩, Dev.drill_setDrill_same (s.devAt t) l r, Dev.val_bump_same _ _⟩

/-- What a state in which only lane `l`'s drill has become `r` shows. -/
theorem setDrill_shows (s : State) (t l : Nat) (r : Drill) :
    let s' := s.withDev ((s.devAt t).setDrill l r)
    s'.dev.objs = s.dev.objs ∧ ((∀ k, k ≠ l → s'.dev.drill k = s.dev.drill k) ∧ s'.dev.chains = s.dev.chains ∧ s'.mem = s.mem) ∧ s'.dev.drill l = r :=
  ⟨rfl, ⟨fun k hk => Dev.drill_setDrill_other (s.devAt t) l k r (Ne.symm hk), rfl, rfl⟩, Dev.drill_setDrill_same (s.devAt t) l r⟩

section
variable {t : Nat} {lane : Lane} {s : State} {chan timeout gap : Nat} {forever : Bool} (h : s.Runs) (hrun : (s.dev.drill lane.val).run = .inShot)
  (hshadow : (s.dev.drill lane.val).shadow = none) (hop : s.Executes t lane (.sync chan forever timeout gap))
include h hrun hshadow hop

/-- A `sync` in a shot and outside a prediction clears the flag and looks at its latch. -/
theorem sync_looks {e : Dev}
    (he : (match SMap.find (s.dev.drill lane.val).latches chan with
        | some x =>
          if forever || x.tick ≤ (s.devAt t).syncLimit lane.val (s.dev.drill lane.val).cursor timeout then
            ((s.devAt t).setDrill lane.val { s.dev.drill lane.val with timeoutFlag := false }).syncDone lane.val chan gap x
          else ((s.devAt t).setDrill lane.val { s.dev.drill lane.val with timeoutFlag := false }).syncMissed lane.val timeout gap
        | none =>
          if timeout = 0 && !forever then
            ((s.devAt t).setDrill lane.val { s.dev.drill lane.val with timeoutFlag := false }).syncMissed lane.val 0 gap
          else
            let d := (s.devAt t).setDrill lane.val { s.dev.drill lane.val with timeoutFlag := false }
            d.setDrill lane.val
              { d.drill lane.val with
                run := .waitSync, waitGrain := ((s.dev.drill lane.val).grain (s.dev.drill lane.val).pc).getD 0 }) = e)
    (hfaults : e.faults = s.dev.faults := by rfl) : execSync t lane s = .next (s.withDev e) :=
  drillStep_executes h hop ((if_neg (by simp [hrun])).trans ((if_neg (by simp [hshadow])).trans he)) hfaults

/-- A `sync` takes a latched event that is in time. -/
theorem sync_takes {e : EvTime} (hlatch : SMap.find (s.dev.drill lane.val).latches chan = some e)
    (htime : forever = true ∨ e.tick ≤ (s.devAt t).syncLimit lane.val (s.dev.drill lane.val).cursor timeout) :
    execSync t lane s = .next (s.withDev ((s.devAt t).setDrill lane.val
      { s.dev.drill lane.val with
        pc := (s.dev.drill lane.val).pc + 1, timeoutFlag := false
        cursor := syncCursor (s.dev.drill lane.val).cursor ((s.devAt t).ts lane.val) gap e
        latches := SMap.del (s.dev.drill lane.val).latches chan })) := by
  refine sync_looks h hrun hshadow hop ?_
  rw [hlatch]
  refine (if_pos (by simpa using htime)).trans ?_
  rw [Dev.syncDone_setDrill, ← hrun]
  rfl

/-- It misses one that came past its limit. -/
theorem sync_misses {e : EvTime} (hlatch : SMap.find (s.dev.drill lane.val).latches chan = some e) (hforever : forever = false)
    (htime : (s.devAt t).syncLimit lane.val (s.dev.drill lane.val).cursor timeout < e.tick) :
    execSync t lane s = .next (s.withDev (((s.devAt t).setDrill lane.val
      { s.dev.drill lane.val with
        pc := (s.dev.drill lane.val).pc + 1, timeoutFlag := true, cursor := (s.dev.drill lane.val).cursor + timeout + gap }).bump
          (Obj.laneSyncTimeouts lane.val))) := by
  refine sync_looks h hrun hshadow hop ?_
  rw [hlatch]
  refine (if_neg (by simpa [hforever] using htime)).trans ?_
  rw [Dev.syncMissed_setDrill, ← hrun]
  rfl

variable (hlatch : SMap.find (s.dev.drill lane.val).latches chan = none)
include hlatch

/-- With a timeout of 0 an empty latch is a missed event. -/
theorem sync_tests (hforever : forever = false) (htimeout : timeout = 0) :
    execSync t lane s = .next (s.withDev (((s.devAt t).setDrill lane.val
      { s.dev.drill lane.val with
        pc := (s.dev.drill lane.val).pc + 1, timeoutFlag := true, cursor := (s.dev.drill lane.val).cursor + 0 + gap }).bump
          (Obj.laneSyncTimeouts lane.val))) := by
  refine sync_looks h hrun hshadow hop ?_
  rw [hlatch]
  refine (if_pos (by simp [hforever, htimeout])).trans ?_
  rw [Dev.syncMissed_setDrill, ← hrun]
  rfl

/-- Otherwise the drill waits for the event. -/
theorem sync_waits (hwait : forever = true ∨ 0 < timeout) :
    execSync t lane s = .next (s.withDev ((s.devAt t).setDrill lane.val
      { s.dev.drill lane.val with
        timeoutFlag := false, run := .waitSync
        waitGrain := ((s.dev.drill lane.val).grain (s.dev.drill lane.val).pc).getD 0 })) := by
  have hnot : ¬((decide (timeout = 0) && !forever) = true) := by
    rcases hwait with hforever | hpos
    · simp [hforever]
    · simp [Nat.pos_iff_ne_zero.mp hpos]
  refine sync_looks h hrun hshadow hop ?_
  rw [hlatch]
  refine (if_neg hnot).trans ?_
  simp only [Dev.drill_setDrill_same, Dev.setDrill_setDrill]

end

/-- A drill that waits in `sync` gives up 200 ticks past the limit. -/
theorem syncTimeout_misses {t : Nat} {lane : Lane} {s : State} {chan timeout gap : Nat} (h : s.Runs)
    (hrun : (s.dev.drill lane.val).run = .waitSync) (hgrain : decodeGrain (s.dev.drill lane.val).waitGrain = .sync chan false timeout gap)
    (hlimit : (s.devAt t).syncLimit lane.val (s.dev.drill lane.val).cursor timeout + 200 ≤ (s.devAt t).now) :
    execSyncTimeout t lane s = .next (s.withDev (((s.devAt t).setDrill lane.val
      { s.dev.drill lane.val with
        pc := (s.dev.drill lane.val).pc + 1, run := .inShot, timeoutFlag := true
        cursor := (s.dev.drill lane.val).cursor + timeout + gap }).bump (Obj.laneSyncTimeouts lane.val))) := by
  refine devStep_eq h ?_
  simp only [State.devAt_drill, hrun, hgrain]
  exact if_pos hlimit

/-- Settles O6: the four outcomes of a `sync` and its timeout, each one update of the drill. -/
theorem syncTakesItsEventOrTimesOut : Obligations.SyncTakesItsEventOrTimesOut := by
  unfold Obligations.SyncTakesItsEventOrTimesOut
  intro t lane s hs d l r others
  refine ⟨fun chan forever timeout gap e hop hrun hshadow hlatch htime => ?takes, fun chan timeout gap e hop hrun hshadow hlatch htime => ?misses,
    fun chan gap hop hrun hshadow hlatch => ?tests, fun chan forever timeout gap hop hrun hshadow hlatch hwait => ?waits,
    fun chan timeout gap hrun hgrain hlimit => ?timeout⟩
  case takes => exact ⟨_, sync_takes hs hrun hshadow hop hlatch htime, setDrill_shows s t l _⟩
  case misses => exact ⟨_, sync_misses hs hrun hshadow hop hlatch rfl htime, syncMissed_shows s t l _⟩
  case tests => exact ⟨_, sync_tests hs hrun hshadow hop hlatch rfl rfl, syncMissed_shows s t l _⟩
  case waits => exact ⟨_, sync_waits hs hrun hshadow hop hlatch hwait, setDrill_shows s t l _⟩
  case timeout => exact ⟨_, syncTimeout_misses hs hrun hgrain hlimit, syncMissed_shows s t l _⟩

end Sys2Proof.Machine
end

section
namespace Sys2Proof.Machine

/-! ### The final item a condition waits for (R129, R206, R210) -/

/-- The objects that say what feeds a condition's source and when the windows of its feeds end. -/
def Obj.FeedKey (k : Nat) : Prop := (0x201501 ≤ k ∧ k < 0x201541) ∨ 0x344003 ≤ k

/-- Two blocks in which lane `l` finds the same items, windows and sources. -/
structure Dev.SameItems (l : Nat) (d e : Dev) : Prop where
  items : e.items = d.items
  now : e.now = d.now
  groups : e.groups = d.groups
  shots : e.shots = d.shots
  group : e.groupOf l = d.groupOf l
  drill : ∀ k, k ≠ l → e.drill k = d.drill k
  val : ∀ k, Obj.FeedKey k → e.val k = d.val k

theorem Dev.sameItems_setDrill (d : Dev) (l : Nat) (r : Drill) : d.SameItems l (d.setDrill l r) where
  items := rfl
  now := rfl
  groups := rfl
  shots := rfl
  group := rfl
  drill k hk := d.drill_setDrill_other l k r (Ne.symm hk)
  val _ _ := rfl

/-- A remote register that feeds a source is one of the 64. -/
theorem Dev.feeds_remote (d : Dev) (fid : Nat) : ∀ f ∈ d.feeds fid, f.1 = true → f.2 < 64 := by
  have hcode (code : Nat) : (codeSource code).1 = true → (codeSource code).2 < 64 := by
    unfold codeSource
    split
    · exact fun _ => Nat.mod_lt _ (by decide)
    · exact nofun
  have hcell (c : Nat) (f : Bool × Nat) (hf : f ∈ (d.cellUsed c).map (fun k => codeSource (d.cellCode c k))) : f.1 = true → f.2 < 64 := by
    obtain ⟨k, -, rfl⟩ := List.mem_map.mp hf
    exact hcode _
  intro f hf
  unfold Dev.feeds at hf
  split at hf
  · obtain rfl := List.mem_singleton.mp hf
    exact nofun
  · split at hf
    · exact hcell _ f hf
    · obtain ⟨fs, hfs, hmem⟩ := List.mem_flatten.mp hf
      obtain ⟨j, -, rfl⟩ := List.mem_map.mp hfs
      exact hcell _ f hmem

section
variable {l : Nat} {d e : Dev} (h : d.SameItems l e)
include h

theorem Dev.SameItems.feeds (fid : Nat) : e.feeds fid = d.feeds fid := by
  have hinput (c k : Nat) : e.val (Obj.cellInput c k) = d.val (Obj.cellInput c k) := h.val _ (.inr (by unfold Obj.cellInput; omega))
  have hcount (c : Nat) : e.val (Obj.tableBitCount c) = d.val (Obj.tableBitCount c) := h.val _ (.inr (by unfold Obj.tableBitCount; omega))
  have hcells (c j : Nat) : e.val (Obj.tableAddressCells c j) = d.val (Obj.tableAddressCells c j) :=
    h.val _ (.inr (by unfold Obj.tableAddressCells; omega))
  simp only [Dev.feeds, Dev.cellUsed, Dev.cellCode, Dev.tableBits, Dev.tableCell, hinput, hcount, hcells]

theorem Dev.SameItems.feedEnd (ws : Nat × List WinReq) (tb : Nat) {f : Bool × Nat} (hf : f.1 = true → f.2 < 64) :
    e.feedEnd ws tb f = d.feedEnd ws tb f := by
  unfold Dev.feedEnd
  by_cases hremote : f.1 = true
  · have hlt := hf hremote
    rw [if_pos hremote, if_pos hremote, h.val _ (.inl (by unfold Obj.fbRemoteIn; omega))]
  · rw [if_neg hremote, if_neg hremote]

theorem Dev.SameItems.shotWindows (g shot : Nat) : e.shotWindows g shot = d.shotWindows g shot := by
  unfold Dev.shotWindows Dev.group
  rw [h.groups, h.shots]

theorem Dev.SameItems.sourceWindow (g shot tb fid : Nat) : e.sourceWindow g shot tb fid = d.sourceWindow g shot tb fid := by
  have hends : (d.feeds fid).map (e.feedEnd (d.shotWindows g shot) tb) = (d.feeds fid).map (d.feedEnd (d.shotWindows g shot) tb) :=
    List.map_congr_left fun f hf => h.feedEnd _ _ (d.feeds_remote fid f hf)
  unfold Dev.sourceWindow
  rw [h.feeds, h.shotWindows, hends]

theorem Dev.SameItems.mayOpen (g shot tb fid : Nat) : e.mayOpen l g shot tb fid = d.mayOpen l g shot tb fid := by
  have hlength (n : Nat) : e.val (Obj.slotWindowLength n) = d.val (Obj.slotWindowLength n) := h.val _ (.inr (by unfold Obj.slotWindowLength; omega))
  have hmember (x : Group) (f : Bool × Nat) (m : Nat) :
      (m != l && !(x.ended.any (fun p => p.1 = m)) && e.opensSlot m f.2
          && max (x.origin + 64 * (e.drill m).stands) (d.now + 2) + 32 * d.val (Obj.slotWindowLength f.2) ≤ tb)
        = (m != l && !(x.ended.any (fun p => p.1 = m)) && d.opensSlot m f.2
          && max (x.origin + 64 * (d.drill m).stands) (d.now + 2) + 32 * d.val (Obj.slotWindowLength f.2) ≤ tb) := by
    by_cases hm : m = l
    · simp [hm]
    · rw [Dev.opensSlot, Dev.opensSlot, Dev.programOps, Dev.programOps, h.drill m hm]
  unfold Dev.mayOpen Dev.group
  simp only [h.feeds, h.groups, h.now, hlength, hmember]

/-- Then it waits for the same final item. -/
theorem Dev.SameItems.finalItem (shot tb fid : Nat) : e.finalItem l shot tb fid = d.finalItem l shot tb fid := by
  unfold Dev.finalItem Dev.itemFor
  rw [h.group, h.mayOpen, h.sourceWindow, h.items, h.now]

end

/-! ### `branch` (R128, R213, R217) -/

/-- A drill just changed takes a path from where it then stands. -/
theorem Dev.takePath_setDrill (d : Dev) (l pop target : Nat) (r : Drill) (taken : Bool) :
    (d.setDrill l r).takePath l pop target taken = d.setDrill l (if taken then { r with pc := target, loops := r.loops.drop pop } else r.step) := by
  unfold Dev.takePath
  simp only [Dev.drill_setDrill_same, Dev.setDrill_setDrill]

/-- A drill change that leaves the cursor alone leaves the item a branch waits for alone. -/
theorem Dev.branchItem_setDrill (d : Dev) (l kind source : Nat) (r : Drill) (h : r.cursor = (d.drill l).cursor) :
    (d.setDrill l r).branchItem l kind source = d.branchItem l kind source := by
  unfold Dev.branchItem
  rw [(d.sameItems_setDrill l r).finalItem, Dev.drill_setDrill_same, h]
  rfl

/-- A usable item that came in time resolves the branch of a drill outside a prediction or inside one. -/
theorem Dev.resolveBranch_takes (d : Dev) (l : Nat) (r : Drill) {kind source value mask pop target : Nat} {neg spec : Bool} {i : Item}
    (hvoid : i.void = false) (htime : i.time ≤ d.cursorTime l r.cursor) :
    (d.setDrill l r).resolveBranch l (.branch kind source value mask neg spec pop target) i
      = (d.setDrill l { r with run := .inShot, urgentDue := true, why := if !spec || r.why = 7 then r.why else 8, specAsked := false }).takePath l
          pop target (condHolds i.value value mask neg) := by
  unfold Dev.resolveBranch
  simp only [Dev.drill_setDrill_same, Dev.setDrill_setDrill, hvoid]
  have hlate : ¬ ((d.setDrill l r).cursorTime l r.cursor < i.time) := Nat.not_lt.mpr htime
  simp only [hlate, decide_false, Bool.or_self, Bool.false_and, Bool.false_eq_true, if_false]

section
variable {t : Nat} {lane : Lane} {s : State} {kind source value mask pop target : Nat} {neg spec : Bool} (h : s.Runs)
  (hop : s.Executes t lane (.branch kind source value mask neg spec pop target)) (hkind : kind < 3) (hrun : (s.dev.drill lane.val).run = .inShot)
include h hop hkind hrun

/-- A speculative branch inside a prediction waits for its confirmation. -/
theorem branch_confirms (hspec : spec = true) (hshadow : (s.dev.drill lane.val).shadow.isSome = true) :
    execBranch t lane s = .next (s.withDev ((s.devAt t).setDrill lane.val { s.dev.drill lane.val with run := .waitConfirm })) := by
  have hguard : ¬((((s.dev.drill lane.val).run != .inShot) || decide (4 < kind)) = true) := by simp [hrun]; omega
  exact drillStep_executes h hop ((if_neg (by omega)).trans ((if_neg (by omega)).trans ((if_neg hguard).trans (if_pos (by simp [hspec, hshadow])))))

/-- The drill of a branch on a verdict while it looks for its item. -/
def Drill.atBranch (r : Drill) (spec : Bool) : Drill :=
  { r with run := .waitBranch, waitGrain := (r.grain r.pc).getD 0, specAsked := false, why := if spec then 6 else r.why }

variable (hspec : spec = true → (s.dev.drill lane.val).shadow = none ∧ (s.dev.drill lane.val).mode ≠ modeProvisional)
include hspec

/-- A branch that does not predict looks for its item. -/
theorem branch_looks {e : Dev}
    (he : (match (s.devAt t).branchItem lane.val kind source with
      | some i =>
        ((s.devAt t).setDrill lane.val ((s.dev.drill lane.val).atBranch spec)).resolveBranch lane.val
          (.branch kind source value mask neg spec pop target) i
      | none => (s.devAt t).setDrill lane.val ((s.dev.drill lane.val).atBranch spec)) = e)
    (hfaults : e.faults = s.dev.faults := by rfl) : execBranch t lane s = .next (s.withDev e) := by
  have hguard : ¬((((s.dev.drill lane.val).run != .inShot) || decide (4 < kind)) = true) := by simp [hrun]; omega
  have hshadow : ¬((spec && (s.dev.drill lane.val).shadow.isSome) = true) := by
    cases spec with
    | false => simp
    | true => simp [(hspec rfl).1]
  have hmode : (spec && decide ((s.dev.drill lane.val).mode = modeProvisional)) = false := by
    cases spec with
    | false => rfl
    | true => simp [(hspec rfl).2]
  have hitem := (s.devAt t).branchItem_setDrill lane.val kind source ((s.dev.drill lane.val).atBranch spec) rfl
  refine drillStep_executes h hop ((if_neg (by omega)).trans ((if_neg (by omega)).trans ((if_neg hguard).trans ((if_neg hshadow).trans ?_)))) hfaults
  simp only [hmode, Bool.false_and, Bool.false_eq_true, if_false]
  rw [← he, ← hitem]
  rfl

end

/-- Settles O7: a decided branch moves its drill alone, and one without an item leaves it waiting. -/
theorem branchTakesThePathItsConditionGives : Obligations.BranchTakesThePathItsConditionGives := by
  unfold Obligations.BranchTakesThePathItsConditionGives
  intro t lane s hs d l r path
  refine ⟨fun source value mask neg spec pop target hop => ?latch, fun source value mask neg spec pop target hop => ?flag,
    fun kind source value mask neg spec pop target i hop hkind hspec hrun hitem hvoid htime => ?takes,
    fun kind source value mask neg spec pop target hop hkind hspec hrun hitem => ?waits,
    fun kind source value mask neg pop target hop hkind hrun hshadow => branch_confirms hs hop hkind hrun rfl hshadow⟩
  case latch => exact (drillStep_executes hs hop rfl : execBranch t lane s = _)
  case flag => exact (drillStep_executes hs hop rfl : execBranch t lane s = _)
  case waits => exact branch_looks hs hop hkind hrun hspec (by rw [hitem]; rfl)
  case takes =>
    have hexec := branch_looks hs hop hkind hrun hspec (e := d.setDrill l
      (path { r with waitGrain := (r.grain r.pc).getD 0, specAsked := false, why := if spec then 8 else r.why, urgentDue := true } pop target
        (condHolds i.value value mask neg))) (by
      rw [hitem]
      refine (d.resolveBranch_takes l (r.atBranch spec) hvoid htime).trans ?_
      rw [Dev.takePath_setDrill]
      unfold Drill.atBranch path
      rw [← hrun]
      cases spec <;> rfl)
    exact ⟨_, hexec, rfl, rfl, rfl, fun k hk => d.drill_setDrill_other l k _ (Ne.symm hk), d.drill_setDrill_same l _⟩

end Sys2Proof.Machine
end

section
namespace Sys2Proof.Machine

/-! ### What a shot's end leaves of a drill that has left it (R115, R116, R229) -/

/-- `r'` is `r` but for what a mute changes outside a prediction: the jobs at the issue port, their grant, and the mute itself (R92). -/
def Drill.Muted (r r' : Drill) : Prop := ∃ ready passed from_, r' = { r with ready := ready, passed := passed, muteFrom := from_ }

theorem Drill.Muted.refl (r : Drill) : r.Muted r := ⟨_, _, _, rfl⟩
theorem Drill.Muted.trans {r x y : Drill} (h : r.Muted x) (g : x.Muted y) : r.Muted y := by
  obtain ⟨_, _, _, rfl⟩ := h
  obtain ⟨ready, passed, from_, rfl⟩ := g
  exact ⟨ready, passed, from_, rfl⟩

theorem Drill.muted_settled (r : Drill) : r.Muted r.settled := by
  unfold Drill.settled
  split
  · exact ⟨r.ready, 0, r.muteFrom, rfl⟩
  · exact .refl r

theorem Drill.muted_mute {r : Drill} (shot from_ : Nat) (here : Bool) (h : r.shadow = none) : r.Muted (r.mute shot from_ here) := by
  refine Drill.Muted.trans ⟨cutJobs shot from_ r.ready, r.passed, if here then some (min from_ (r.muteFrom.getD from_)) else r.muteFrom, ?_⟩
    (Drill.muted_settled _)
  rw [h, Option.map_none, ← h]

/-- A drill that is stopped or halted and follows no prediction. -/
def Drill.Idle (r : Drill) : Prop := (r.run = .stopped ∨ r.run = .halted) ∧ r.shadow = none

theorem Drill.Idle.of_muted {r x : Drill} (hr : r.Idle) (h : r.Muted x) : x.Idle := by
  obtain ⟨_, _, _, rfl⟩ := h
  exact hr

/-- `e` is `d` after shots have ended: an idle drill has at most been muted, and no group has gained a member. -/
structure Dev.Settles (d e : Dev) : Prop where
  drill : ∀ l, (d.drill l).Idle → (d.drill l).Muted (e.drill l)
  members : ∀ g m, m ∈ (e.group g).members → m ∈ (d.group g).members

theorem Dev.Settles.trans {d e f : Dev} (h : d.Settles e) (g : e.Settles f) : d.Settles f where
  drill l hl := (h.drill l hl).trans (g.drill l (hl.of_muted (h.drill l hl)))
  members n m hm := h.members n m (g.members n m hm)

/-- What moves neither drills nor groups. -/
theorem Dev.Settles.of_same {d e : Dev} (hd : e.drills = d.drills) (hg : e.groups = d.groups) : d.Settles e where
  drill l _ := by unfold Dev.drill; rw [hd]; exact .refl _
  members g m hm := by unfold Dev.group at hm ⊢; rwa [hg] at hm

theorem Dev.Settles.refl (d : Dev) : d.Settles d := .of_same rfl rfl

theorem Dev.Settles.when {d e : Dev} (c : Prop) [Decidable c] (h : d.Settles e) : d.Settles (if c then e else d) := by
  split
  · exact h
  · exact .refl d

theorem Dev.Settles.foldl {α : Type} {f : Dev → α → Dev} (h : ∀ (e : Dev) x, e.Settles (f e x)) (xs : List α) (d : Dev) : d.Settles (xs.foldl f d) := by
  induction xs generalizing d with
  | nil => exact .refl d
  | cons x xs ih => exact (h d x).trans (ih _)

theorem Dev.settles_put (d : Dev) (k v : Nat) : d.Settles (d.put k v) := .of_same rfl rfl
theorem Dev.settles_bump (d : Dev) (k : Nat) : d.Settles (d.bump k) := .of_same rfl rfl
theorem Dev.settles_bump64 (d : Dev) (k : Nat) : d.Settles (d.bump64 k) := .of_same rfl rfl

theorem Dev.settles_setDrill {d : Dev} {l : Nat} {r : Drill} (h : (d.drill l).Idle → (d.drill l).Muted r) : d.Settles (d.setDrill l r) where
  drill m hm := by
    by_cases hlm : l = m
    · subst hlm; rw [Dev.drill_setDrill_same]; exact h hm
    · rw [Dev.drill_setDrill_other _ _ _ _ hlm]; exact .refl _
  members _ _ hm := hm

theorem Dev.settles_setGroup {d : Dev} {g : Nat} {x : Group} (h : ∀ m ∈ x.members, m ∈ (d.group g).members) : d.Settles (d.setGroup g x) where
  drill _ _ := .refl _
  members n m hm := by
    by_cases hn : g = n
    · subst hn; rw [Dev.group_setGroup_same] at hm; exact h m hm
    · rwa [Dev.group_setGroup_other _ _ _ _ hn] at hm

theorem Dev.settles_countSpoil (d : Dev) (lanes : List Nat) (shot : Nat) (old : Option Spoil) (new : Spoil) :
    d.Settles (d.countSpoil lanes shot old new) :=
  .foldl (fun e l => by
    refine Dev.Settles.trans (Dev.Settles.trans ?_ (Dev.Settles.when _ (Dev.settles_put _ _ _))) (Dev.Settles.when _ (Dev.settles_bump _ _))
    exact .when _ (Dev.settles_bump64 _ _)) lanes d

theorem Dev.settles_spoilShot (d : Dev) (g shot : Nat) (r : Reason) (time cause : Nat) : d.Settles (d.spoilShot g shot r time cause) := by
  unfold Dev.spoilShot
  simp only
  split
  · refine Dev.Settles.trans ?_ (Dev.settles_countSpoil ..)
    exact Dev.settles_setGroup fun _ hm => hm
  · split
    · refine Dev.Settles.trans ?_ (Dev.settles_countSpoil ..)
      exact .of_same rfl rfl
    · exact .refl d

theorem Dev.settles_mute (d : Dev) (l shot from_ : Nat) : d.Settles (d.mute l shot from_) := by
  unfold Dev.mute
  extract_lets hi here sums d1
  have h1 : d.Settles d1 := by
    refine Dev.Settles.trans ?_ (Dev.settles_setDrill fun hidle => Drill.muted_mute shot from_ here hidle.2)
    exact .of_same rfl rfl
  refine h1.trans ?_
  exact .of_same rfl rfl

/-- An entry taken out of the table. -/
theorem Dev.settles_unlist (d : Dev) (i : Nat) (v : VptEntry) : d.Settles (({ d with vpt := SMap.del d.vpt i } : Dev).unpair v) := by
  unfold Dev.unpair
  split <;> exact .of_same rfl rfl

theorem Dev.settles_endEntry (d : Dev) (i : Nat) (how : EntryEnd) : d.Settles (d.endEntry i how) := by
  unfold Dev.endEntry
  split
  · exact .refl d
  next v _ =>
    extract_lets d1 d2 c d3 r d4 stamp d5 d6 r'
    have h1 : d.Settles d1 := Dev.settles_unlist d i v
    have h3 : d1.Settles d3 := .of_same rfl rfl
    have h4 : d3.Settles d4 := Dev.settles_setDrill fun _ => Drill.Muted.trans ⟨_, r.passed, r.muteFrom, rfl⟩ (Drill.muted_settled _)
    have h5 : d4.Settles d5 := by unfold d5; split <;> exact .of_same rfl rfl
    have h6 : d5.Settles d6 := by cases how <;> exact .of_same rfl rfl
    refine ((((h1.trans h3).trans h4).trans h5).trans h6).trans (.when _ ?_)
    split
    next s hs => exact Dev.settles_setDrill fun hidle => absurd (hs.symm.trans hidle.2) nofun
    · exact .refl d6

theorem Dev.settles_strikeOpenEntries (d : Dev) (shot stop : Nat) : d.Settles (d.strikeOpenEntries shot stop) :=
  .foldl (fun _ _ => ((Dev.settles_endEntry ..).trans (Dev.settles_mute ..)).trans (Dev.settles_spoilShot ..)) _ d

theorem Dev.settles_closeShot (d : Dev) (g : Nat) : d.Settles (d.closeShot g) where
  drill l _ := by unfold Dev.drill; rw [Dev.closeShot_drills]; exact .refl _
  members k m hm := by rwa [Dev.closeShot_members] at hm

theorem Dev.settles_outOfGroup (d : Dev) (l : Nat) : d.Settles (d.outOfGroup l) :=
  Dev.settles_setGroup fun _ hm => (List.mem_filter.mp hm).1

theorem Dev.settles_boundaryStops (d : Dev) (lanes : List Nat) : d.Settles (d.boundaryStops lanes) := by
  refine .foldl (fun e l => ?_) lanes d
  simp only
  split
  next h =>
    have hrun : (e.drill l).run = .between := by simp only [Bool.and_eq_true, decide_eq_true_eq] at h; exact h.2
    refine Dev.Settles.trans (Dev.Settles.trans (Dev.settles_setDrill fun hidle => ?_) (Dev.settles_put _ _ _)) (Dev.settles_outOfGroup _ l)
    rcases hidle.1 with hstopped | hhalted
    · exact absurd (hrun.symm.trans hstopped) nofun
    · exact absurd (hrun.symm.trans hhalted) nofun
  · exact .refl e

theorem Dev.settles_carry (d : Dev) (key e : Nat) : d.Settles (d.carry key e) := .of_same rfl rfl

theorem Dev.settles_request (d : Dev) (l : Nat) (x : Timed) : d.Settles (d.request l x) := by
  cases hs : (d.drill l).shadow with
  | some s =>
    rw [Dev.request_predicted d l x s hs]
    exact Dev.settles_setDrill fun hidle => absurd (hs.symm.trans hidle.2) nofun
  | none =>
    rw [Dev.request_confirmed d l x hs]
    exact .of_same rfl rfl

theorem Dev.settles_carryLane (d : Dev) (l e : Nat) : d.Settles (d.carryLane l e) := by
  unfold Dev.carryLane
  split
  · exact Dev.settles_bump _ _
  · exact (Dev.settles_carry d _ e).trans (.foldl (fun _ _ => Dev.settles_request ..) _ _)

theorem Dev.settles_shotCommits (d : Dev) (l e : Nat) : d.Settles (d.shotCommits l e) := by
  unfold Dev.shotCommits
  extract_lets d1 d2 d3 c r
  have h1 : d.Settles d1 := .when _ (Dev.settles_carryLane ..)
  have h2 : d1.Settles d2 := .when _ (Dev.settles_carry ..)
  have h3 : d2.Settles d3 := .when _ (Dev.settles_carry ..)
  refine ((h1.trans h2).trans h3).trans ?_
  split
  · exact .refl d3
  · split
    · exact Dev.settles_bump _ _
    · refine (Dev.settles_carry d3 _ e).trans (Dev.settles_setDrill fun hidle => ?_)
      rw [if_pos (by simpa using (show r.Idle from hidle).1)]
      exact .refl _

theorem Dev.settles_afterShot (d : Dev) (shot stop : Nat) (lanes : List Nat) : d.Settles (d.afterShot shot stop lanes) :=
  ((Dev.settles_strikeOpenEntries d shot stop).trans (Dev.settles_boundaryStops _ lanes)).trans (.foldl (fun e m => e.settles_shotCommits m stop) _ _)

theorem Dev.settles_endShotIfDone (d : Dev) (g : Nat) : d.Settles (d.endShotIfDone g) :=
  .when _ ((Dev.settles_closeShot d g).trans (Dev.settles_afterShot ..))

theorem Dev.settles_leaveGroup (d : Dev) (l : Nat) : d.Settles (d.leaveGroup l) := (Dev.settles_outOfGroup d l).trans (Dev.settles_endShotIfDone ..)

/-- A lane that has left its group is no member of it. -/
theorem Dev.leaveGroup_members (d : Dev) (l : Nat) : l ∉ ((d.leaveGroup l).group (d.groupOf l)).members := fun hmem =>
  d.outOfGroup_members l ((Dev.settles_endShotIfDone _ _).members _ _ hmem)

/-- A group whose shot goes on without a lane keeps every drill when that lane leaves. -/
theorem Dev.leaveGroup_drill {d : Dev} {l : Nat}
    (h : ({ d.group (d.groupOf l) with members := (d.group (d.groupOf l)).members.filter (fun m => m != l) } : Group).allEnded = false) (k : Nat) :
    (d.leaveGroup l).drill k = d.drill k := by
  rw [Dev.leaveGroup_open d l (by rw [← h]; simp [Dev.outOfGroup, Group.allEnded])]
  rfl

/-- LaneRun once cleared stays so while shots end. -/
theorem Dev.Calms.laneRun {d e : Dev} (h : d.Calms e) {l : Nat} (hzero : SMap.find d.objs (Obj.laneRun l) = some 0) : e.val (Obj.laneRun l) = 0 := by
  have hkey : steersLanes (Obj.laneRun l) := by
    simp only [steersLanes, Obj.laneRun]; omega
  have hfind : SMap.find e.objs (Obj.laneRun l) = some 0 := by
    rcases h.objs _ hkey with hsame | ⟨_, hnew⟩
    · exact hsame.trans hzero
    · exact hnew
  simp [Dev.val, hfind]

/-! ### `halt`, `branch.watch` and `shot.begin` (R113, R116, R134, R139) -/

section
variable {t : Nat} {lane : Lane} {s : State} (h : s.Runs) (hrun : (s.dev.drill lane.val).run = .between)
include h hrun

/-- `halt` between shots puts the drill at rest and takes the lane out of its group. -/
theorem halt_leaves (hop : s.Executes t lane .halt) :
    execHalt t lane s =
      .next (s.withDev (((s.devAt t).setDrill lane.val ((s.dev.drill lane.val).rest .halted)).leaveGroup lane.val)) :=
  drillStep_executes h hop (if_pos hrun) (Dev.calms_leaveGroup _ _).faults

variable {mode chan gap : Nat} (hop : s.Executes t lane (.shotBegin mode chan gap))
include hop

/-- `shot.begin` waits at the join. -/
theorem shotBegin_joins (hgoes : (s.dev.drill lane.val).stopAtBoundary = false) :
    execShotBegin t lane s = .next (s.withDev ((s.devAt t).setDrill lane.val { s.dev.drill lane.val with run := .atJoin })) :=
  drillStep_executes h hop ((if_neg (by simp [hrun])).trans (if_neg (by simp [hgoes])))

/-- A lane told to stop at its shot boundary stops there. -/
theorem shotBegin_stops (hstops : (s.dev.drill lane.val).stopAtBoundary = true) :
    execShotBegin t lane s =
      .next (s.withDev ((((s.devAt t).setDrill lane.val ((s.dev.drill lane.val).rest .stopped)).put (Obj.laneRun lane.val) 0).leaveGroup lane.val)) :=
  drillStep_executes h hop ((if_neg (by simp [hrun])).trans (if_pos hstops)) (Dev.calms_leaveGroup _ _).faults

end

/-- `branch.watch` arms the lane's one watch. -/
theorem branchWatch_arms {t : Nat} {lane : Lane} {s : State} {kind source value mask pop target : Nat} {neg spec : Bool} (h : s.Runs)
    (hrun : (s.dev.drill lane.val).run = .inShot) (hop : s.Executes t lane (.watch kind source value mask neg spec pop target)) :
    execBranchWatch t lane s = .next (s.withDev ((s.devAt t).setDrill lane.val
      { s.dev.drill lane.val with
        pc := (s.dev.drill lane.val).pc + 1
        watch := some
          { channel := source, mask := mask, negate := neg, target := target, pop := pop, loopDepth := (s.dev.drill lane.val).loops.length
            callDepth := (s.dev.drill lane.val).calls.length, armTime := (s.devAt t).cursorTime lane.val (s.dev.drill lane.val).cursor
            prev := none } })) :=
  drillStep_executes h hop (if_pos hrun)

/-- Settles O4: a drill that leaves its group is at rest, and a shot that ends by that touches of it only what a mute may. -/
theorem shotInstructionsOutsideTheShot : Obligations.ShotInstructionsOutsideTheShot := by
  unfold Obligations.ShotInstructionsOutsideTheShot
  intro t lane s hs d l r x goesOn
  refine ⟨fun hop hrun => ?halts, fun kind source value mask neg spec pop target hop hrun => branchWatch_arms hs hrun hop,
    fun mode chan gap hop hrun hgoes => shotBegin_joins hs hrun hop hgoes, fun mode chan gap hop hrun hstops => ?stops⟩
  case halts =>
    let e := d.setDrill l (r.rest .halted)
    have hrest : e.drill l = r.rest .halted := d.drill_setDrill_same l _
    obtain ⟨ready, passed, from_, hdrill⟩ : (r.rest .halted).Muted ((e.leaveGroup l).drill l) :=
      hrest ▸ (e.settles_leaveGroup l).drill l (by rw [hrest]; exact ⟨.inr rfl, rfl⟩)
    have field {α : Type} (f : Drill → α) := congrArg f hdrill
    exact ⟨_, halt_leaves hs hrun hop, field Drill.run, field Drill.loops, field Drill.calls, field Drill.latches, field Drill.watch,
      e.leaveGroup_members l, fun hgoes k hk => (Dev.leaveGroup_drill (d := e) hgoes k).trans (d.drill_setDrill_other l k _ (Ne.symm hk)), rfl⟩
  case stops =>
    let e := (d.setDrill l (r.rest .stopped)).put (Obj.laneRun l) 0
    have hrest : e.drill l = r.rest .stopped := d.drill_setDrill_same l _
    obtain ⟨ready, passed, from_, hdrill⟩ : (r.rest .stopped).Muted ((e.leaveGroup l).drill l) :=
      hrest ▸ (e.settles_leaveGroup l).drill l (by rw [hrest]; exact ⟨.inl rfl, rfl⟩)
    have hgroup : e.groupOf l = d.groupOf l := (Dev.calms_laneRun (d.setDrill l (r.rest .stopped)) l).groupOf lane.isLt
    exact ⟨_, shotBegin_stops hs hrun hop hstops, congrArg Drill.run hdrill, (e.calms_leaveGroup l).laneRun (SMap.find_set_same _ _ _),
      fun hgoes k hk => (Dev.leaveGroup_drill (d := e) (by rw [hgroup]; exact hgoes) k).trans (d.drill_setDrill_other l k _ (Ne.symm hk)), rfl⟩

end Sys2Proof.Machine
end

section
namespace Sys2Proof.Machine

/-! ### A shot that closes (R115) -/

/-- Of the groups, the entries and the commits a shot that closes changes its group's record alone: the end, the origin, and nothing left pending. -/
theorem Dev.closeShot_table (d : Dev) (g : Nat) :
    ∃ started, ((d.closeShot g).groups, (d.closeShot g).vpt, (d.closeShot g).commits) =
      (SMap.set d.groups g
        { d.group g with
          inShot := false, prevEnd := (d.group g).endTick d.now, prevOrigin := (d.group g).origin, hasPrev := true, spoil := none, ended := []
          windows := [], spans := [], took := [], started := started }, d.vpt, d.commits) := by
  unfold Dev.closeShot
  extract_lets x stop shotRec kept d1 d2 d3 d4
  let table := fun e : Dev => (e.groups, e.vpt, e.commits)
  have h3 : table d3 = table d2 := foldl_keeps (fun e l => e.bump64 (Obj.laneShots l)) table (fun _ _ => rfl) _ _
  have h4 : table d4 = table d3 := foldl_keeps (fun e l => e.noteLeads l x.shot stop) table (fun _ _ => rfl) _ _
  refine ⟨_, (foldl_keeps _ table (fun e k => ?_) _ _).trans (h4.trans (h3.trans rfl))⟩
  extract_lets
  split <;> rfl

/-- A shot's end that meets no entry, no commit and no lane told to stop changes nothing more. -/
theorem Dev.afterShot_quiet {d : Dev} {lanes : List Nat} (shot stop : Nat) (hvpt : d.vpt = []) (hcommits : d.commits = [])
    (hlanes : ∀ m ∈ lanes, (d.drill m).stopAtBoundary = false) : d.afterShot shot stop lanes = d := by
  have hstrike : d.strikeOpenEntries shot stop = d := by
    unfold Dev.strikeOpenEntries
    rw [hvpt]
    rfl
  have hcommit (k : Nat) : (d.commitOf k).waits 3 = false := by
    unfold Dev.commitOf
    rw [hcommits]
    rfl
  have hshot (m : Nat) : d.shotCommits m stop = d := by simp [Dev.shotCommits, hcommit]
  have hboundary : d.boundaryStops lanes = d := by
    unfold Dev.boundaryStops
    induction lanes with
    | nil => rfl
    | cons m ms ih =>
      have hm : ¬(((d.drill m).stopAtBoundary && decide ((d.drill m).run = .between)) = true) := by simp [hlanes m (by simp)]
      rw [List.foldl_cons]
      simp only [if_neg hm]
      exact ih fun k hk => hlanes k (List.mem_cons_of_mem m hk)
  unfold Dev.afterShot
  rw [hstrike, hboundary]
  clear hboundary hlanes
  induction lanes with
  | nil => rfl
  | cons m ms ih => rw [List.foldl_cons, hshot]; exact ih

/-- What remains of a shot that all have left, when no entry, no commit and no stop waits for its end. -/
theorem Dev.endShotIfDone_quiet {d : Dev} {g : Nat} (hended : (d.group g).allEnded = true) (hvpt : d.vpt = []) (hcommits : d.commits = [])
    (hlanes : ∀ m ∈ (d.group g).took, (d.drill m).stopAtBoundary = false) :
    (d.endShotIfDone g).drills = d.drills ∧ ((d.endShotIfDone g).group g).inShot = false
      ∧ ((d.endShotIfDone g).group g).prevOrigin = (d.group g).origin ∧ ((d.endShotIfDone g).group g).prevEnd = (d.group g).endTick d.now := by
  obtain ⟨started, htable⟩ := d.closeShot_table g
  simp only [Prod.mk.injEq] at htable
  obtain ⟨hgroups, hvpt', hcommits'⟩ := htable
  have hdone : d.endShotIfDone g = d.closeShot g := by
    refine (if_pos hended).trans (Dev.afterShot_quiet _ _ (hvpt'.trans hvpt) (hcommits'.trans hcommits) fun m hm => ?_)
    unfold Dev.drill
    rw [Dev.closeShot_drills]
    exact hlanes m hm
  rw [hdone]
  refine ⟨d.closeShot_drills g, ?_⟩
  unfold Dev.group
  rw [hgroups, SMap.find_set_same]
  exact ⟨rfl, rfl, rfl⟩

/-! ### `shot.end` (R115, R133–R135) -/

/-- The mark of a shot's last granule is set at the issue port and in the lane's chain. -/
theorem Dev.markLast_local (d : Dev) (l shot : Nat) :
    d.Local l (d.markLast l shot) ∧ ∃ ready, (d.markLast l shot).drill l = { d.drill l with ready := ready } := by
  unfold Dev.markLast
  split
  · exact ⟨.refl l d, _, rfl⟩
  · exact ⟨(d.local_setDrill l _).trans (Dev.local_setChain _ l _), _, d.drill_setDrill_same l _⟩

/-- A drill past its `shot.end`, at grid time `stop`. -/
def Drill.ended (r : Drill) (stop : Nat) (tail : Option (Nat × Nat × Nat)) : Drill :=
  { r with
    pc := r.pc + 1, run := .between, latches := [], watch := none, segDue := false, streamCur := r.streamNext, shotEnd := stop, tail := tail }

/-- The lane's part of a shot ended, but for the group's record: a watch whose event came too late counts in LaneLateJumps (R133–R135). -/
def Dev.endPart (d : Dev) (l stop cut : Nat) : Dev :=
  let r := d.drill l
  let armed := match r.watch with
    | some w => if w.mask = 0 || w.negate then none else some (w.channel, w.armTime, cut)
    | none => none
  let late := r.watch.any (fun w => w.mask != 0 && !w.negate && (SMap.find r.latches w.channel).any (fun e => w.armTime ≤ e.tick && e.past cut))
  let d := if late then d.bump (Obj.laneLateJumps l) else d
  d.setDrill l (r.ended stop (if late then none else armed))

/-- Beside the lane's drill only objects move. -/
theorem Dev.endPart_moves (d : Dev) (l stop cut : Nat) :
    d.endPart l stop cut = { d with drills := (d.endPart l stop cut).drills, objs := (d.endPart l stop cut).objs }
      ∧ (∀ k, k ≠ l → (d.endPart l stop cut).drill k = d.drill k) ∧ ∃ tail, (d.endPart l stop cut).drill l = (d.drill l).ended stop tail := by
  unfold Dev.endPart
  extract_lets r armed late d1
  have h1 : d1 = { d with objs := d1.objs } := by unfold d1; split <;> rfl
  refine ⟨?_, fun k hk => ?_, _, d1.drill_setDrill_same l _⟩
  · unfold Dev.setDrill
    rw [h1]
  · rw [Dev.drill_setDrill_other _ _ _ _ (Ne.symm hk), h1]
    rfl

/-- What `shot.end` does before it looks at its group: the last granule marked, the segment's commits settled, the lane's part ended. -/
def Dev.leaveShot (d : Dev) (l stop cut : Nat) : Dev := ((d.markLast l (d.shotNo l)).segmentCommits l stop cut).endPart l stop cut

/-- With no commit waiting for a segment's end, that moves the lane's drill and chain, and objects. -/
theorem Dev.leaveShot_moves (d : Dev) (l stop cut : Nat) (hlane : (d.commitOf (Obj.laneCommit l)).waits 2 = false)
    (hbias : (d.commitOf (Obj.biasCommit l)).waits 2 = false) :
    d.leaveShot l stop cut =
        { d with
          drills := (d.leaveShot l stop cut).drills, chains := (d.leaveShot l stop cut).chains, objs := (d.leaveShot l stop cut).objs }
      ∧ (∀ k, k ≠ l → (d.leaveShot l stop cut).drill k = d.drill k)
      ∧ ∃ ready tail, (d.leaveShot l stop cut).drill l =
          ({ d.drill l with ready := ready, segEnds := stop :: (d.drill l).segEnds.filter (fun x => d.now < x) } : Drill).ended stop tail := by
  obtain ⟨hmark, ready, hdrill⟩ := d.markLast_local l (d.shotNo l)
  have hcommitOf (k : Nat) : (d.markLast l (d.shotNo l)).commitOf k = d.commitOf k := by rw [hmark.same]; rfl
  have hnow : (d.markLast l (d.shotNo l)).now = d.now := by rw [hmark.same]
  let r : Drill := { d.drill l with ready := ready, segEnds := stop :: (d.drill l).segEnds.filter (fun x => d.now < x) }
  have hcommits : (d.markLast l (d.shotNo l)).segmentCommits l stop cut = (d.markLast l (d.shotNo l)).setDrill l r := by
    rw [Dev.segmentCommits_idle (d.markLast l (d.shotNo l)) l stop cut (by rw [hcommitOf]; exact hlane) (by rw [hcommitOf]; exact hbias), hdrill, hnow]
  have hlocal : d.Local l ((d.markLast l (d.shotNo l)).setDrill l r) := hmark.trans (Dev.local_setDrill _ l r)
  obtain ⟨hsame, hothers, tail, hended⟩ := Dev.endPart_moves ((d.markLast l (d.shotNo l)).setDrill l r) l stop cut
  unfold Dev.leaveShot
  rw [hcommits]
  refine ⟨?_, fun k hk => (hothers k hk).trans (hlocal.drill k hk), ready, tail, hended.trans (by rw [Dev.drill_setDrill_same])⟩
  rw [hsame, hlocal.same]

/-- The lane's part of its group's shot entered as ended (R115); with the last part the shot ends. -/
def Dev.partEnds (d : Dev) (g l stop : Nat) : Dev := (d.setGroup g { d.group g with ended := (d.group g).ended ++ [(l, stop)] }).endShotIfDone g

theorem Dev.partEnds_faults (d : Dev) (g l stop : Nat) : (d.partEnds g l stop).faults = d.faults :=
  (Dev.calms_endShotIfDone _ g).faults

section
variable {t : Nat} {lane : Lane} {s : State} (h : s.Runs) (hop : s.Executes t lane .shotEnd)
include h hop

/-- `shot.end` before its cutoff does nothing. -/
theorem shotEnd_held (hwaits : (s.devAt t).endWaits lane.val (max (s.dev.drill lane.val).cursor (s.dev.drill lane.val).busy) = true) :
    execShotEnd t lane s = .next (s.withDev (s.devAt t)) :=
  drillStep_executes h hop (if_pos (by rw [hwaits]; exact Bool.or_true _))

/-- `shot.end` behind its cutoff ends the lane's part of the shot, and the shot with the last part. -/
theorem shotEnd_ends (hrun : (s.dev.drill lane.val).run = .inShot) (halt : (s.dev.drill lane.val).alt = none)
    (hshadow : (s.dev.drill lane.val).shadow = none)
    (hreached : (s.devAt t).reached lane.val (max (s.dev.drill lane.val).cursor (s.dev.drill lane.val).busy) = true)
    (hlane : ((s.devAt t).commitOf (Obj.laneCommit lane.val)).waits 2 = false)
    (hbias : ((s.devAt t).commitOf (Obj.biasCommit lane.val)).waits 2 = false)
    (hpast : (s.devAt t).endWaits lane.val (max (s.dev.drill lane.val).cursor (s.dev.drill lane.val).busy) = false) {c : Nat}
    (hc : max (s.dev.drill lane.val).cursor (s.dev.drill lane.val).busy = c) {e : Dev}
    (he : (s.devAt t).leaveShot lane.val ((s.devAt t).cursorTime lane.val c) ((s.devAt t).cutoff lane.val c) = e) :
    execShotEnd t lane s =
      .next (s.withDev (e.partEnds ((s.devAt t).groupOf lane.val) lane.val ((s.devAt t).cursorTime lane.val c))) := by
  have hguard : ¬(((s.dev.drill lane.val).run != .inShot || (s.dev.drill lane.val).alt.isSome
      || !((s.devAt t).reached lane.val (max (s.dev.drill lane.val).cursor (s.dev.drill lane.val).busy))
      || (s.devAt t).endWaits lane.val (max (s.dev.drill lane.val).cursor (s.dev.drill lane.val).busy)) = true) := by
    simp [hrun, halt, hreached, hpast]
  have hfaults : e.faults = (s.devAt t).faults := by
    rw [← he, ((s.devAt t).leaveShot_moves lane.val _ _ hlane hbias).1]
  refine drillStep_executes h hop ?_ ((e.partEnds_faults _ _ _).trans hfaults)
  refine (if_neg hguard).trans ((if_neg (by simp [hshadow])).trans ?_)
  rw [hc, ← he]
  extract_lets g shot c stop cut marked settled r
  unfold Dev.leaveShot
  change _ = (settled.endPart lane.val stop cut).partEnds g lane.val stop
  clear_value settled
  rfl

end

/-- Settles O14: the lane's part ends the same way whether or not another member goes on; then the shot's record stands or closes. -/
theorem shotEndEndsTheLanesPart : Obligations.ShotEndEndsTheLanesPart := by
  unfold Obligations.ShotEndEndsTheLanesPart
  intro t lane s hs d l r g x stop hop hrun halt hshadow hreached hlane hbias
  let c := max r.cursor r.busy
  let y : Group := { x with ended := x.ended ++ [(l, stop)] }
  obtain ⟨hsame, hothers, ready, tail, hdrill⟩ := d.leaveShot_moves l (d.cursorTime l c) (d.cutoff l c) hlane hbias
  have hends := shotEnd_ends hs hop hrun halt hshadow hreached hlane hbias (c := c) (hc := rfl) (he := rfl)
  generalize d.leaveShot l (d.cursorTime l c) (d.cutoff l c) = e at hsame hothers hdrill hends
  have hgroup : e.group g = x := by rw [hsame]; rfl
  have hshots : e.shots = s.dev.shots := by rw [hsame]; rfl
  have hnow : e.now = d.now := by rw [hsame]
  have hvpt' : e.vpt = s.dev.vpt := by rw [hsame]; rfl
  have hcommits' : e.commits = s.dev.commits := by rw [hsame]; rfl
  have hparts : e.partEnds g l stop = (e.setGroup g y).endShotIfDone g := by unfold Dev.partEnds; rw [hgroup]
  have field {α : Type} (f : Drill → α) := congrArg f hdrill
  refine ⟨fun hwaits => shotEnd_held hs hop hwaits, fun hpast hshot hopen => ?goesOn, fun hpast hshot hlast hvpt hcommits htook hstop => ?closes⟩
  case goesOn =>
    obtain ⟨m, hm, hml, hleft⟩ := hopen
    have hstays : y.allEnded = false := by
      have hnot : ¬(y.ended.any (fun p => p.1 = m)) = true := by
        simp only [y, List.any_append, List.any_cons, List.any_nil, Bool.or_false, Bool.or_eq_true, List.any_eq_true, decide_eq_true_eq]
        rintro (⟨p, hp, hpm⟩ | hlm)
        · exact hleft p hp hpm
        · exact hml hlm.symm
      have hall : ¬(y.members.all (fun k => y.ended.any (fun p => p.1 = k))) = true := fun hall => hnot (List.all_eq_true.mp hall m hm)
      simp [Group.allEnded, hall]
    have hdone : (e.setGroup g y).endShotIfDone g = e.setGroup g y :=
      Dev.endShotIfDone_open _ g (by rw [Dev.group_setGroup_same]; exact hstays)
    refine ⟨_, hends hpast, ?_⟩
    rw [hparts, hdone]
    exact ⟨field Drill.run, field Drill.pc, field Drill.latches, field Drill.watch, field (fun q => q.segEnds.head?), Dev.group_setGroup_same _ _ _,
      hshots, hothers, rfl⟩
  case closes =>
    have hdone : y.allEnded = true := by
      have hall : ∀ m ∈ y.members, y.ended.any (fun p => p.1 = m) = true := fun m hm => by
        rcases hlast m hm with rfl | ⟨p, hp, rfl⟩
        · simp [y]
        · exact List.any_eq_true.mpr ⟨p, List.mem_append_left _ hp, by simp⟩
      simp [Group.allEnded, y, hshot] at hall ⊢
      exact hall
    have hlanes : ∀ m ∈ y.took, (e.drill m).stopAtBoundary = false := fun m hm => by
      by_cases hml : m = l
      · subst hml; exact (field Drill.stopAtBoundary).trans hstop
      · rw [hothers m hml]; exact htook m hm
    have hy : (e.setGroup g y).group g = y := Dev.group_setGroup_same _ _ _
    obtain ⟨hdrills, hinShot, horigin, hend⟩ := Dev.endShotIfDone_quiet (d := e.setGroup g y) (g := g) (by rw [hy]; exact hdone)
      (hvpt'.trans hvpt) (hcommits'.trans hcommits) (by rw [hy]; exact hlanes)
    have hkept : ((e.setGroup g y).endShotIfDone g).drill l = e.drill l := by unfold Dev.drill; rw [hdrills]; rfl
    rw [hy] at horigin hend
    refine ⟨_, hends hpast, ?_⟩
    rw [hparts]
    exact ⟨hkept ▸ field Drill.run, hkept ▸ field Drill.latches, hinShot, horigin, hend.trans (congrArg y.endTick hnow), rfl⟩

end Sys2Proof.Machine
end

section
namespace Sys2Proof.Machine

/-! ### Changes to the drills of several lanes -/

/-- Each lane's drill changed by a function of its own, and no other: neither objects, groups nor faults. -/
theorem Dev.foldl_setDrill (f : Drill → Drill) {lanes : List Nat} (h : lanes.Nodup) (d : Dev) :
    let e := lanes.foldl (fun e l => e.setDrill l (f (e.drill l))) d
    (∀ m, e.drill m = if m ∈ lanes then f (d.drill m) else d.drill m) ∧ e.objs = d.objs ∧ e.groups = d.groups ∧ e.faults = d.faults := by
  induction lanes generalizing d with
  | nil => exact ⟨fun m => (if_neg (by simp)).symm, rfl, rfl, rfl⟩
  | cons l ls ih =>
    obtain ⟨hl, hls⟩ := List.nodup_cons.mp h
    obtain ⟨hdrill, hsame⟩ := ih hls (d.setDrill l (f (d.drill l)))
    refine ⟨fun m => (hdrill m).trans ?_, hsame⟩
    by_cases hm : m = l
    · subst hm
      rw [if_neg hl, if_pos List.mem_cons_self, Dev.drill_setDrill_same]
    · simp only [Dev.drill_setDrill_other _ _ _ _ (Ne.symm hm), List.mem_cons, hm, false_or]

/-- The least of some lanes is what folding `min` over them finds. -/
theorem foldl_min_eq {lead : Nat} {lanes : List Nat} (hmem : lead ∈ lanes) (hle : ∀ m ∈ lanes, lead ≤ m) :
    lanes.foldl min (lanes.head?.getD 0) = lead := by
  have hfold (ls : List Nat) (a : Nat) (ha : lead ≤ a) (hls : ∀ m ∈ ls, lead ≤ m) (hin : lead ∈ ls ∨ a = lead) : ls.foldl min a = lead := by
    induction ls generalizing a with
    | nil => simpa using hin
    | cons m ms ih =>
      have hm := hls m List.mem_cons_self
      refine ih (min a m) (Nat.le_min.mpr ⟨ha, hm⟩) (fun k hk => hls k (List.mem_cons_of_mem m hk)) ?_
      rcases hin with hin | rfl
      · rcases List.mem_cons.mp hin with rfl | hms
        · exact .inr (Nat.min_eq_right ha)
        · exact .inl hms
      · exact .inr (Nat.min_eq_left hm)
  cases lanes with
  | nil => cases hmem
  | cons m ms => exact hfold _ m (hle m List.mem_cons_self) hle (.inl hmem)

/-- An object's value turns on the objects alone. -/
theorem Dev.val_congr {d e : Dev} (h : e.objs = d.objs) (k : Nat) : e.val k = d.val k := by
  unfold Dev.val Dev.dflt Dev.raw
  rw [h]

/-- A group's record turns on the groups alone. -/
theorem Dev.group_congr {d e : Dev} (h : e.groups = d.groups) (g : Nat) : e.group g = d.group g := by
  unfold Dev.group
  rw [h]

/-! ### A shot that begins (R113, R115) -/

/-- A drill at the start of its shot, behind its `shot.begin`. -/
def Drill.begun (r : Drill) : Drill :=
  { r with
    pc := r.pc + 1, run := .inShot, cursor := 0, busy := 0, segStart := 0, segDue := false, firstDue := true, urgentDue := false
    muteFrom := none, why := 6, streamCur := (r.streamPart r.pc).1, streamNext := (r.streamPart r.pc).1 + (r.streamPart r.pc).2
    streamPos := if (r.streamPart r.pc).2 = 0 then r.streamPos else max r.streamPos (r.streamPart r.pc).1 }

theorem Dev.beginOn_eq (d : Dev) (l : Nat) : d.beginOn l = d.setDrill l (d.drill l).begun := rfl

/-- What `e` shares with `d` when only counters other than DevShotNumber lie between them. -/
structure Dev.Counted (d e : Dev) : Prop where
  groups : e.groups = d.groups
  drills : e.drills = d.drills
  faults : e.faults = d.faults
  number : e.val Obj.devShotNumber = d.val Obj.devShotNumber

theorem Dev.Counted.refl (d : Dev) : d.Counted d := ⟨rfl, rfl, rfl, rfl⟩
theorem Dev.Counted.trans {d e f : Dev} (h : d.Counted e) (g : e.Counted f) : d.Counted f :=
  ⟨g.groups.trans h.groups, g.drills.trans h.drills, g.faults.trans h.faults, g.number.trans h.number⟩

theorem Dev.counted_put (d : Dev) {k : Nat} (v : Nat) (h : k ≠ Obj.devShotNumber) : d.Counted (d.put k v) :=
  ⟨rfl, rfl, rfl, Dev.val_put_other d k _ v h (isBiasKey_below (by decide))⟩

theorem Dev.Counted.foldl {f : Dev → Nat → Dev} (h : ∀ (e : Dev) l, e.Counted (f e l)) (lanes : List Nat) (d : Dev) : d.Counted (lanes.foldl f d) := by
  induction lanes generalizing d with
  | nil => exact .refl d
  | cons l ls ih => exact (h d l).trans (ih _)

/-- What a shot's begin leaves: the group in the shot, every member at its start, and DevShotNumber one higher. -/
theorem Dev.beginShot_shows (d : Dev) (g : Nat) {lanes : List Nat} (origin skipped moved : Nat) (h : lanes.Nodup) :
    let e := d.beginShot g lanes origin skipped moved
    ((e.group g).inShot = true ∧ (e.group g).shot = d.val Obj.devShotNumber + 1 ∧ (e.group g).origin = origin ∧ (e.group g).took = lanes)
      ∧ e.val Obj.devShotNumber = wrap 64 (d.val Obj.devShotNumber + 1)
      ∧ (∀ m, e.drill m = if m ∈ lanes then (d.drill m).begun else d.drill m) ∧ (∀ k, k ≠ g → e.group k = d.group k) ∧ e.faults = d.faults := by
  unfold Dev.beginShot
  extract_lets shot d1 x d2 first waits d3 d4 d5 e
  have hlate (a : Dev) (l : Nat) : a.Counted (a.bumpBy (Obj.laneLatePeriods l) skipped) := a.counted_put _ (by
    simp only [Obj.laneLatePeriods, Obj.devShotNumber]; omega)
  have h5 : d4.Counted d5 := by
    unfold d5
    split
    · exact .refl d4
    · exact .foldl hlate lanes d4
  have he : d5.Counted e := by
    unfold e
    split
    · exact .refl d5
    · exact d5.counted_put _ (by decide)
  have hcounted := h5.trans he
  obtain ⟨hdrill, hobjs3, hgroups3, hfaults3⟩ := Dev.foldl_setDrill Drill.begun h d3
  have hgroups : e.groups = d2.groups := hcounted.groups.trans hgroups3
  have hfaults : e.faults = d.faults := hcounted.faults.trans hfaults3
  have hnumber : e.val Obj.devShotNumber = wrap 64 shot :=
    hcounted.number.trans ((Dev.val_congr (d := d1) hobjs3 _).trans (Dev.val_put_same d Obj.devShotNumber (wrap 64 shot)))
  have hgroup : e.group g = d2.group g := Dev.group_congr hgroups g
  have hmembers : (e.group g).inShot = true ∧ (e.group g).shot = shot ∧ (e.group g).origin = origin ∧ (e.group g).took = lanes := by
    rw [hgroup, show d2.group g = _ from Dev.group_setGroup_same d1 g _]
    exact ⟨rfl, rfl, rfl, rfl⟩
  refine ⟨hmembers, hnumber, fun m => ?_, fun k hk => ?_, hfaults⟩
  · unfold Dev.drill
    rw [hcounted.drills]
    exact hdrill m
  · exact (Dev.group_congr hgroups k).trans (Dev.group_setGroup_other d1 g k _ (Ne.symm hk))

/-! ### The join (R113–R115) -/

/-- The block a join reads its origin in: at a group's first join the run's origin is set (R114). -/
def Dev.joining (d : Dev) (g : Nat) : Dev :=
  if (d.group g).started then d else d.setGroup g { d.group g with started := true, hasPrev := false, runOrigin := up64 (d.now + 8192) }

theorem Dev.joining_drill (d : Dev) (g l : Nat) : (d.joining g).drill l = d.drill l := by
  unfold Dev.joining
  split <;> rfl

/-- A mode-1 join that has its event empties the lead's latch. -/
def Dev.takeOrigin (d : Dev) (lead mode chan : Nat) : Dev :=
  if mode = 1 then d.setDrill lead { d.drill lead with latches := SMap.del (d.drill lead).latches chan } else d

/-- That touches the lead's latches alone. -/
theorem Dev.takeOrigin_shows (d : Dev) (lead mode chan : Nat) :
    let e := d.takeOrigin lead mode chan
    e.objs = d.objs ∧ e.groups = d.groups ∧ e.faults = d.faults ∧ (∀ m, m ≠ lead → e.drill m = d.drill m)
      ∧ ∀ m, (e.drill m).pc = (d.drill m).pc := by
  unfold Dev.takeOrigin
  by_cases hmode : mode = 1
  · rw [if_pos hmode]
    refine ⟨rfl, rfl, rfl, fun m hm => d.drill_setDrill_other lead m _ (Ne.symm hm), fun m => ?_⟩
    by_cases hm : lead = m
    · rw [← hm, Dev.drill_setDrill_same]
    · rw [Dev.drill_setDrill_other _ _ _ _ hm]
  · rw [if_neg hmode]
    exact ⟨rfl, rfl, rfl, fun _ _ => rfl, fun _ => rfl⟩

section
variable {d : Dev} {g lead : Nat} (hlead : lead ∈ d.joinLanes g) (hidle : (d.group g).inShot = false)
  (hready : ∀ m ∈ d.joinLanes g, d.joinReady m = true)
include hlead hidle hready

/-- Lanes stand at the join, and all of them are ready. -/
theorem Dev.join_goes : ¬(((d.joinLanes g).isEmpty || (d.group g).inShot || !((d.joinLanes g).all (fun l => d.joinReady l))) = true) := by
  have hsome : (d.joinLanes g).isEmpty = false := by
    cases hlanes : d.joinLanes g with
    | nil => rw [hlanes] at hlead; cases hlead
    | cons m ms => rfl
  simp [hsome, hidle, List.all_eq_true.mpr hready]

variable {mode chan gap : Nat} (hleast : ∀ m ∈ d.joinLanes g, lead ≤ m)
  (hop : ((d.drill lead).grain (d.drill lead).pc).map decodeGrain = some (.shotBegin mode chan gap))
include hleast hop

/-- A join whose lanes all stand at it begins the shot at the origin its lowest lane finds. -/
theorem Dev.join_begins {tick skipped moved : Nat}
    (horigin : (d.joining g).originOf ((d.joining g).group g) lead mode chan gap = .at tick skipped moved) :
    d.join g = ((d.joining g).takeOrigin lead mode chan).beginShot g (d.joinLanes g) tick skipped moved := by
  have hdrill := d.joining_drill g lead
  unfold Dev.takeOrigin
  rw [hdrill]
  unfold Dev.joining at hdrill horigin ⊢
  refine (if_neg (Dev.join_goes hlead hidle hready)).trans ?_
  simp only [foldl_min_eq hlead hleast, hdrill, hop, horigin]

/-- While that origin's event is missing, every lane waits for it. -/
theorem Dev.join_waits (horigin : (d.joining g).originOf ((d.joining g).group g) lead mode chan gap = .wait) :
    d.join g = (d.joinLanes g).foldl (fun e l => e.setDrill l { e.drill l with run := .waitOrigin }) (d.joining g) := by
  have hdrill := d.joining_drill g lead
  unfold Dev.joining at hdrill horigin ⊢
  refine (if_neg (Dev.join_goes hlead hidle hready)).trans ?_
  simp only [foldl_min_eq hlead hleast, hdrill, hop, horigin]

end

/-- The origin of a group's first shot in mode 0, when no commit holds it back: the run's origin and the gap (R113). -/
theorem Dev.originOf_first (d : Dev) {x : Group} (lead chan gap : Nat) (hprev : x.hasPrev = false) (hearliest : x.earliest = 0) :
    d.originOf x lead 0 chan gap = .at (x.runOrigin + 64 * gap) 0 0 := by
  simp [Dev.originOf, Dev.earliestByHeat, hprev, hearliest]

/-- In mode 1 an empty latch keeps the join waiting. -/
theorem Dev.originOf_waits (d : Dev) (x : Group) {lead chan : Nat} (gap : Nat) (h : SMap.find (d.drill lead).latches chan = none) :
    d.originOf x lead 1 chan gap = .wait := by
  simp [Dev.originOf, h]

/-- A join leaves the state with the block it makes. -/
theorem shotJoin_leaves {t : Nat} {g : Fin 576} {s : State} {e : Dev} (h : s.Runs) (hjoin : (s.devAt t).join g.val = e)
    (hfaults : e.faults = s.dev.faults) : execShotJoin t g s = .next (s.withDev e) := devStep_eq h hjoin hfaults

/-- Settles O13: the origin found decides; a shot that begins starts every member's drill, and a member that waits changes nothing else. -/
theorem joinsBeginTheShotOfAllMembers : Obligations.JoinsBeginTheShotOfAllMembers := by
  unfold Obligations.JoinsBeginTheShotOfAllMembers
  intro t g s hs d x lanes lead mode chan gap hlead hleast hnodup hidle hready hop
  refine ⟨fun tick skipped moved hstarted horigin => ?begins, fun hstarted hmode hearliest => ?first, fun hstarted hmode hlatch => ?waits⟩
  case begins =>
    have hjoining : d.joining g.val = d := if_pos hstarted
    have hjoin := Dev.join_begins (d := d) hlead hidle hready hleast hop (by rw [hjoining]; exact horigin)
    rw [hjoining] at hjoin
    obtain ⟨hobjs, hkept, hquiet, hothers, hpc⟩ := d.takeOrigin_shows lead mode chan
    obtain ⟨⟨hshot, hnumber, htick, htook⟩, hcount, hdrill, hgroups, hfaults⟩ :=
      (d.takeOrigin lead mode chan).beginShot_shows g.val tick skipped moved hnodup
    rw [Dev.val_congr hobjs] at hnumber hcount
    refine ⟨_, shotJoin_leaves hs hjoin (hfaults.trans hquiet), hshot, hnumber, htick, htook, hcount, fun m hm => ?_, fun m hm => ?_,
      fun k hk => (hgroups k hk).trans (Dev.group_congr hkept k), rfl⟩
    · have hbegun := (hdrill m).trans (if_pos hm)
      exact ⟨congrArg Drill.run hbegun, congrArg Drill.cursor hbegun, (congrArg Drill.pc hbegun).trans (congrArg (· + 1) (hpc m))⟩
    · exact (hdrill m).trans ((if_neg hm).trans (hothers m fun heq => hm (heq ▸ hlead)))
  case first =>
    subst hmode
    have hjoining : d.joining g.val = d.setGroup g.val { x with started := true, hasPrev := false, runOrigin := up64 (d.now + 8192) } :=
      if_neg (by rw [show (d.group g.val).started = false from hstarted]; decide)
    have horigin : (d.joining g.val).originOf ((d.joining g.val).group g.val) lead 0 chan gap = .at (up64 (d.now + 8192) + 64 * gap) 0 0 := by
      rw [hjoining, Dev.group_setGroup_same]
      exact Dev.originOf_first _ lead chan gap rfl hearliest
    have hjoin := Dev.join_begins (d := d) hlead hidle hready hleast hop horigin
    rw [hjoining] at hjoin
    obtain ⟨⟨hshot, -, htick, htook⟩, -, hdrill, -, hfaults⟩ := Dev.beginShot_shows
      (d.setGroup g.val { x with started := true, hasPrev := false, runOrigin := up64 (d.now + 8192) }) g.val (up64 (d.now + 8192) + 64 * gap) 0 0 hnodup
    refine ⟨_, shotJoin_leaves hs hjoin hfaults, hshot, htick, htook, fun m hm => ?_, rfl⟩
    have hbegun := (hdrill m).trans (if_pos hm)
    exact ⟨congrArg Drill.run hbegun, congrArg Drill.cursor hbegun⟩
  case waits =>
    subst hmode
    have hjoining : d.joining g.val = d := if_pos hstarted
    have hjoin := Dev.join_waits (d := d) hlead hidle hready hleast hop (by rw [hjoining]; exact d.originOf_waits _ gap hlatch)
    rw [hjoining] at hjoin
    obtain ⟨hdrill, hobjs, hgroups, hfaults⟩ := Dev.foldl_setDrill (fun r => { r with run := .waitOrigin }) hnodup d
    exact ⟨_, shotJoin_leaves hs hjoin hfaults, (congrArg Group.inShot (Dev.group_congr (d := d) hgroups g.val)).trans hidle,
      fun m hm => (hdrill m).trans (if_pos hm), fun m hm => (hdrill m).trans (if_neg hm), hobjs, rfl⟩

end Sys2Proof.Machine
end

section
namespace Sys2Proof.Machine

/-! ### What a Recoverable fault bit leaves alone (R399–R401, R441) -/

/-- `e` is `d` after records and signals: entries, drills and groups stand, and the objects from index 0x3000 on. -/
structure Dev.Signals (d e : Dev) : Prop where
  vpt : e.vpt = d.vpt
  drills : e.drills = d.drills
  groups : e.groups = d.groups
  objs : ∀ k, 0x300000 ≤ k → SMap.find e.objs k = SMap.find d.objs k

/-- What moves neither entries, drills, groups nor objects. -/
theorem Dev.Signals.of_same {d e : Dev} (hv : e.vpt = d.vpt) (hd : e.drills = d.drills) (hg : e.groups = d.groups) (ho : e.objs = d.objs) :
    d.Signals e := ⟨hv, hd, hg, fun _ _ => by rw [ho]⟩

theorem Dev.Signals.refl (d : Dev) : d.Signals d := .of_same rfl rfl rfl rfl
theorem Dev.Signals.trans {d e f : Dev} (h : d.Signals e) (g : e.Signals f) : d.Signals f :=
  ⟨g.vpt.trans h.vpt, g.drills.trans h.drills, g.groups.trans h.groups, fun k hk => (g.objs k hk).trans (h.objs k hk)⟩
theorem Dev.Signals.when {d e : Dev} (c : Prop) [Decidable c] (h : d.Signals e) : d.Signals (if c then e else d) := by
  split
  · exact h
  · exact .refl d
theorem Dev.Signals.foldl {α : Type} {f : Dev → α → Dev} (h : ∀ (e : Dev) x, e.Signals (f e x)) (xs : List α) (d : Dev) : d.Signals (xs.foldl f d) := by
  induction xs generalizing d with
  | nil => exact .refl d
  | cons x xs ih => exact (h d x).trans (ih _)

theorem Dev.signals_put (d : Dev) (k v : Nat) (h : k < 0x300000) : d.Signals (d.put k v) :=
  ⟨rfl, rfl, rfl, fun _ hj => SMap.find_set_other _ _ _ _ (by omega)⟩
theorem Dev.signals_bump (d : Dev) (k : Nat) (h : k < 0x300000) : d.Signals (d.bump k) := d.signals_put k _ h
theorem Dev.signals_setGleaner (d : Dev) (n : Nat) (x : Gleaner) : d.Signals (d.setGleaner n x) := .of_same rfl rfl rfl rfl

theorem Dev.signals_msix (d : Dev) (f v : Nat) : d.Signals (d.msix f v) := by
  simp only [Dev.msix]
  split <;> exact .of_same rfl rfl rfl rfl

theorem Dev.signals_emcy (d : Dev) (code source : Nat) : d.Signals (d.emcy code source) := by
  unfold Dev.emcy
  split
  · exact .of_same rfl rfl rfl rfl
  · exact d.signals_bump _ (by decide)

theorem Dev.signals_fire (d : Dev) (ch tick : Nat) : d.Signals (d.fire ch tick) := by
  unfold Dev.fire Dev.fireAt
  split
  · exact .refl d
  next hch =>
    have hflags : Obj.evtFlags ch < 0x300000 := by simp only [Obj.evtFlags]; omega
    have hdropped : Obj.evtDropped ch < 0x300000 := by simp only [Obj.evtDropped]; omega
    split
    · exact (d.signals_bump _ hdropped).trans (Dev.signals_put _ _ _ hflags)
    · extract_lets w router e
      have he : d.Signals e := .of_same rfl rfl rfl rfl
      exact he.trans (.when _ (e.signals_put Obj.evtQueuePeak _ (by decide)))

theorem Dev.signals_gleanPeak (d : Dev) : d.Signals (d.gleanPeak 0) := .when _ (d.signals_put _ _ (by decide))

theorem Dev.signals_reportGaps (d : Dev) : d.Signals (d.reportGaps 0) := by
  unfold Dev.reportGaps
  extract_lets g n gaps e
  split
  · exact .refl d
  · refine ((d.signals_setGleaner 0 _).trans (Dev.signals_gleanPeak _)).trans (.foldl (fun f _ => ?_) _ _)
    exact (f.signals_bump _ (by decide)).trans (Dev.signals_fire _ _ _)

theorem Dev.signals_gleanLoss (d : Dev) (r : GlnRec) : d.Signals (d.gleanLoss 0 r) :=
  (d.signals_setGleaner 0 _).trans (Dev.signals_put _ _ _ (by decide))

theorem Dev.signals_gleanInto (d : Dev) (r : GlnRec) : d.Signals (d.gleanInto 0 r) := by
  unfold Dev.gleanInto
  extract_lets e g
  refine d.signals_reportGaps.trans ?_
  split
  · exact (e.signals_setGleaner 0 _).trans (Dev.signals_gleanPeak _)
  · split
    · split
      · exact (e.signals_setGleaner 0 _).trans (Dev.signals_gleanLoss _ _)
      · exact Dev.signals_gleanLoss _ _
    · exact Dev.signals_gleanLoss _ _

theorem Dev.signals_gleanFault (d : Dev) (b : Nat) (set : Bool) : d.Signals (d.gleanFault b set) := .when _ (d.signals_gleanInto _)

/-- A Recoverable bit raised makes records and signals, and enters no safe state. -/
theorem Dev.signals_raise (d : Dev) (b : Nat) (present : Bool) (hb : faultClass b = some 1) : d.Signals (d.raise b present) := by
  have hcount : d.Signals (d.bump (Obj.faultClassCount 1)) := d.signals_bump _ (by decide)
  simp only [Dev.raise, Dev.raiseIn, hb]
  split
  · exact hcount.trans (.of_same rfl rfl rfl rfl)
  · simp only [Nat.reduceEqDiff, if_false, if_true, Bool.false_and, decide_false, Bool.false_eq_true]
    refine (hcount.trans ?_).trans ((((Dev.signals_gleanFault _ b true).trans (Dev.signals_emcy _ _ _)).trans (Dev.signals_msix _ 0 18)).trans
      (Dev.signals_fire _ _ _))
    exact .of_same rfl rfl rfl rfl

/-! ### A reservation made as a whole (R241, R242, R246) -/

/-- `e` is `d` but for what lane `l`'s refusal at staging moves: of the drills, only a mute of the lane's own; of groups, no shot number. -/
structure Dev.Stills (l : Nat) (d e : Dev) : Prop where
  vpt : e.vpt = d.vpt
  drill : ∀ k, k ≠ l → e.drill k = d.drill k
  own : (d.drill l).shadow = none → (d.drill l).Muted (e.drill l)
  group : e.groupOf l = d.groupOf l
  shot : ∀ g, (e.group g).shot = (d.group g).shot

theorem Dev.Stills.trans {l : Nat} {d e f : Dev} (h : d.Stills l e) (g : e.Stills l f) : d.Stills l f where
  vpt := g.vpt.trans h.vpt
  drill k hk := (g.drill k hk).trans (h.drill k hk)
  own hshadow := by
    obtain ⟨ready, passed, from_, hmuted⟩ := h.own hshadow
    exact (h.own hshadow).trans (g.own (by rw [hmuted]; exact hshadow))
  group := g.group.trans h.group
  shot n := (g.shot n).trans (h.shot n)

theorem Dev.Stills.shotNo {l : Nat} {d e : Dev} (h : d.Stills l e) : e.shotNo l = d.shotNo l := by
  unfold Dev.shotNo
  rw [h.group, h.shot]

/-- Objects from index 0x3000 on tell a lane's group. -/
theorem Dev.Signals.groupOf {d e : Dev} (h : d.Signals e) {l : Nat} (hl : l < 512) : e.groupOf l = d.groupOf l := by
  have hbias : isBiasKey (Obj.laneShotGroup l) = false := isBiasKey_below (by simp only [Obj.laneShotGroup]; omega)
  have hfind := h.objs (Obj.laneShotGroup l) (by simp only [Obj.laneShotGroup]; omega)
  have hval : e.val (Obj.laneShotGroup l) = d.val (Obj.laneShotGroup l) := by simp [Dev.val, Dev.dflt, hfind, hbias]
  simp [Dev.groupOf, hval]

theorem Dev.Signals.stills {d e : Dev} (h : d.Signals e) {l : Nat} (hl : l < 512) : d.Stills l e where
  vpt := h.vpt
  drill k _ := by unfold Dev.drill; rw [h.drills]
  own _ := by unfold Dev.drill; rw [h.drills]; exact .refl _
  group := h.groupOf hl
  shot g := congrArg Group.shot (Dev.group_congr h.groups g)

theorem Dev.stills_mute (d : Dev) (l shot from_ : Nat) : d.Stills l (d.mute l shot from_) where
  vpt := rfl
  drill k hk := (d.spares_mute l shot from_).drill k hk
  own hshadow := by
    have hdrill : (d.mute l shot from_).drill l = (d.drill l).mute shot from_ (d.drillIn l shot) := Dev.drill_setDrill_same _ l _
    rw [hdrill]
    exact Drill.muted_mute _ _ _ hshadow
  group := rfl
  shot _ := rfl

/-- Counting a spoiled shot moves neither entries nor groups. -/
theorem Dev.countSpoil_kept (d : Dev) (lanes : List Nat) (shot : Nat) (old : Option Spoil) (new : Spoil) :
    (d.countSpoil lanes shot old new).vpt = d.vpt ∧ (d.countSpoil lanes shot old new).groups = d.groups := by
  have hkept : ((d.countSpoil lanes shot old new).vpt, (d.countSpoil lanes shot old new).groups) = (d.vpt, d.groups) :=
    foldl_keeps _ (fun e : Dev => (e.vpt, e.groups)) (fun a b => by simp only; split <;> split <;> split <;> rfl) lanes d
  exact Prod.mk.inj hkept

/-- A spoiled shot keeps its number, the entries and the drills. -/
theorem Dev.stills_spoilShot (d : Dev) {l : Nat} (g shot : Nat) (r : Reason) (time cause : Nat) (hl : l < 512) :
    d.Stills l (d.spoilShot g shot r time cause) := by
  have hkept : (d.spoilShot g shot r time cause).vpt = d.vpt ∧ ∀ n, ((d.spoilShot g shot r time cause).group n).shot = (d.group n).shot := by
    unfold Dev.spoilShot
    extract_lets new x kept
    split
    · obtain ⟨hvpt, hgroups⟩ := Dev.countSpoil_kept (d.setGroup g { x with spoil := some kept }) x.took shot x.spoil kept
      refine ⟨hvpt, fun n => (congrArg Group.shot (Dev.group_congr hgroups n)).trans ?_⟩
      by_cases hn : g = n
      · subst hn; rw [Dev.group_setGroup_same]
      · rw [Dev.group_setGroup_other _ _ _ _ hn]
    · split
      next o _ =>
        extract_lets kept' shots
        obtain ⟨hvpt, hgroups⟩ := Dev.countSpoil_kept ({ d with shots := shots } : Dev) o.members shot o.spoil kept'
        exact ⟨hvpt, fun n => congrArg Group.shot (Dev.group_congr hgroups n)⟩
      · exact ⟨rfl, fun _ => rfl⟩
  have hdrill (k : Nat) : (d.spoilShot g shot r time cause).drill k = d.drill k := by unfold Dev.drill; rw [Dev.spoilShot_drills]
  exact ⟨hkept.1, fun k _ => hdrill k, fun _ => by rw [hdrill]; exact .refl _, (d.calms_spoilShot g shot r time cause).groupOf hl, hkept.2⟩

theorem Dev.stills_refuseStaging (d : Dev) {l : Nat} (shot stamp w limit : Nat) (hl : l < 512) : d.Stills l (d.refuseStaging l shot stamp w limit) := by
  unfold Dev.refuseStaging Dev.energyRefusal
  extract_lets d1 d2 d3 d4 d5
  have h1 : (d.mute l shot stamp).Stills l d1 := Dev.stills_spoilShot _ _ _ _ _ _ hl
  have h2 : d1.Signals d2 := Dev.signals_raise d1 112 false rfl
  have h3 : d2.Signals d3 := d2.signals_bump _ (by simp only [perLane, Obj.energyLaneRefusals]; omega)
  have h4 : d3.Signals d4 := d3.signals_bump _ (by decide)
  have h5 : d4.Signals d5 := d4.signals_put _ _ (by decide)
  exact (d.stills_mute l shot stamp).trans (h1.trans ((((h2.trans h3).trans h4).trans h5).trans (d5.signals_put _ _ (by decide)) |>.stills hl))

/-- A span's reservation, made or refused. -/
theorem Dev.stills_reserveSpan (d : Dev) {l : Nat} (c n : Nat) (found : List (Nat × Nat)) (hl : l < 512) : d.Stills l (d.reserveSpan l c n found) := by
  have hreserve (items : List (Nat × Nat)) (span : Option Nat) : d.Stills l (d.reserve l items span).1 := by
    unfold Dev.reserve
    extract_lets new
    split
    · exact (Dev.Signals.refl d).stills hl
    · refine Dev.Signals.stills ?_ hl
      exact .of_same rfl rfl rfl rfl
  have hspan := hreserve (d.spanItems l c n found) (some (d.cursorTime l c))
  unfold Dev.reserveSpan
  split
  next e heq => rwa [heq] at hspan
  next e w limit heq =>
    rw [heq] at hspan
    exact hspan.trans (e.stills_refuseStaging _ _ _ _ hl)

end Sys2Proof.Machine
end

section
namespace Sys2Proof.Machine

/-! ### Entries asked for (R215, R223) -/

/-- Objects that say nothing about a condition's item or a lane's group leave the item a lane waits for alone. -/
theorem Dev.sameItems_put (d : Dev) {l k : Nat} (v : Nat) (hl : l < 512) (hkey : ¬ Obj.FeedKey k) (hgroup : k ≠ Obj.laneShotGroup l) :
    d.SameItems l (d.put k v) where
  items := rfl
  now := rfl
  groups := rfl
  shots := rfl
  group := by
    have hval := Dev.val_put_other d k _ v hgroup (isBiasKey_below (by simp only [Obj.laneShotGroup]; omega))
    simp only [Dev.groupOf, hval]
  drill _ _ := rfl
  val j hj := by
    have hbias : isBiasKey j = false := by
      rcases hj with hlow | hhigh
      · exact isBiasKey_below (by omega)
      · simp only [isBiasKey, decide_eq_false (show ¬ j < 0x340000 by omega), Bool.false_and, Bool.and_false]
    exact Dev.val_put_other d k j v (fun hkj => hkey (hkj ▸ hj)) hbias

theorem Dev.SameItems.refl (l : Nat) (d : Dev) : d.SameItems l d := ⟨rfl, rfl, rfl, rfl, rfl, fun _ _ => rfl, fun _ _ => rfl⟩
theorem Dev.SameItems.trans {l : Nat} {d e f : Dev} (h : d.SameItems l e) (g : e.SameItems l f) : d.SameItems l f where
  items := g.items.trans h.items
  now := g.now.trans h.now
  groups := g.groups.trans h.groups
  shots := g.shots.trans h.shots
  group := g.group.trans h.group
  drill k hk := (g.drill k hk).trans (h.drill k hk)
  val k hk := (g.val k hk).trans (h.val k hk)

/-- Entries and alternate slots leave it alone too. -/
theorem Dev.sameItems_vpt (d : Dev) (l : Nat) (vpt : SMap VptEntry) : d.SameItems l { d with vpt := vpt } :=
  ⟨rfl, rfl, rfl, rfl, rfl, fun _ _ => rfl, fun _ _ => rfl⟩
theorem Dev.sameItems_setChain (d : Dev) (l k : Nat) (c : Chain) : d.SameItems l (d.setChain k c) :=
  ⟨rfl, rfl, rfl, rfl, rfl, fun _ _ => rfl, fun _ _ => rfl⟩

/-- The counters of entries are neither. -/
theorem entry_counters_feed_none (l : Nat) :
    (¬ Obj.FeedKey Obj.fbSpecAllocated ∧ Obj.fbSpecAllocated ≠ Obj.laneShotGroup l) ∧ (¬ Obj.FeedKey Obj.fbVptPeak ∧ Obj.fbVptPeak ≠ Obj.laneShotGroup l)
      ∧ (l < 512 → ¬ Obj.FeedKey (Obj.laneSpecAllocated l)) ∧ Obj.laneSpecAllocated l ≠ Obj.laneShotGroup l := by
  simp only [Obj.FeedKey, Obj.fbSpecAllocated, Obj.fbVptPeak, Obj.laneSpecAllocated, Obj.laneShotGroup]
  omega

/-- A granted request: the lowest free entry is the lane's, and FbSpecAllocated counts it. -/
theorem Dev.askEntry_granted {d : Dev} {v : VptEntry} {slot : Nat} (hlane : v.lane < 512) (hfree : d.altFree v.lane slot = true)
    (hroom : d.vptInUse < d.val Obj.devSpeculationLimit) (hentry : d.freeEntry < 1024) :
    ∃ e, d.askEntry v [slot] = (e, some d.freeEntry) ∧ e.vpt = SMap.set d.vpt d.freeEntry { v with slot := slot } ∧ e.drills = d.drills
      ∧ e.faults = d.faults ∧ d.SameItems v.lane e ∧ e.val Obj.fbSpecAllocated = wrap 64 (d.val Obj.fbSpecAllocated + 1) := by
  obtain ⟨⟨hall, hall'⟩, ⟨hpeak, hpeak'⟩, hcount, hcount'⟩ := entry_counters_feed_none v.lane
  have hfound : [slot].find? (d.altFree v.lane) = some slot := by simp [hfree]
  unfold Dev.askEntry
  split
  next k hk =>
    obtain rfl := Option.some.inj (hfound.symm.trans hk)
    extract_lets i d1 held d2 d3 d4
    rw [if_pos (by simp [i, hroom, hentry])]
    have h1 : d.SameItems v.lane d1 := d.sameItems_vpt _ _
    have h2 : d1.SameItems v.lane d2 := d1.sameItems_setChain _ _ _
    have h3 : d2.SameItems v.lane d3 := (d2.sameItems_put _ hlane hall hall').trans (Dev.sameItems_put _ _ hlane (hcount hlane) hcount')
    have h4 : d3.SameItems v.lane d4 := by
      unfold d4
      split
      · exact d3.sameItems_put _ hlane hpeak hpeak'
      · exact .refl _ d3
    have hvpt : d4.vpt = d3.vpt ∧ d4.drills = d3.drills ∧ d4.faults = d3.faults := by unfold d4; split <;> exact ⟨rfl, rfl, rfl⟩
    have hval3 : d3.val Obj.fbSpecAllocated = wrap 64 (d.val Obj.fbSpecAllocated + 1) :=
      (Dev.val_bump_other _ _ _ (by simp only [Obj.laneSpecAllocated, Obj.fbSpecAllocated]; omega) (by decide)).trans (Dev.val_bump64_same d2 _)
    have hval4 : d4.val Obj.fbSpecAllocated = d3.val Obj.fbSpecAllocated := by
      unfold d4
      split
      · exact Dev.val_put_other _ _ _ _ (by decide) (by decide)
      · rfl
    exact ⟨d4, rfl, hvpt.1, hvpt.2.1, hvpt.2.2, ((h1.trans h2).trans h3).trans h4, hval4.trans hval3⟩
  next hnone => exact absurd (hfound.symm.trans hnone) nofun

/-- A request beyond the limit is refused and counted. -/
theorem Dev.askEntry_refused {d : Dev} {v : VptEntry} {slot : Nat} (hfull : d.val Obj.devSpeculationLimit ≤ d.vptInUse) :
    d.askEntry v [slot] = ((d.bump Obj.fbSpecRefused).bump (Obj.laneSpecRefused v.lane), none) := by
  unfold Dev.askEntry
  split
  · exact if_neg (by simp [Nat.not_lt.mpr hfull])
  · rfl

/-- The entry a request is granted was free. -/
theorem Dev.freeEntry_free {d : Dev} (h : d.freeEntry < 1024) : SMap.find d.vpt d.freeEntry = none := by
  unfold Dev.freeEntry at h ⊢
  cases hfind : (List.range 1024).find? (fun i => (SMap.find d.vpt i).isNone) with
  | none => rw [hfind] at h; exact absurd h (by decide)
  | some i => simpa using List.find?_some hfind

/-- An entry whose final item is not on the fabric is paired with its mate and waits. -/
theorem Dev.pairEntry_waits {d : Dev} {i : Nat} {mate : Option Nat} {v : VptEntry} (hfind : SMap.find d.vpt i = some v) (hmate : ∀ j, mate = some j → j ≠ i)
    (hstate : v.state ≠ .confirmed) (hitem : d.entryItem v = none) :
    ∃ vpt, d.pairEntry i mate = { d with vpt := vpt } ∧ SMap.find vpt i = some v := by
  have hwaits (vpt : SMap VptEntry) (hf : SMap.find vpt i = some v) : ({ d with vpt := vpt } : Dev).resolveEntry i = { d with vpt := vpt } := by
    have hnone : ({ d with vpt := vpt } : Dev).entryItem v = none := ((d.sameItems_vpt v.lane vpt).finalItem _ _ _).trans hitem
    unfold Dev.resolveEntry
    simp only [hf, hstate, if_false, hnone]
  unfold Dev.pairEntry
  split
  next j m hj =>
    obtain ⟨j', hj', hm⟩ := Option.bind_eq_some_iff.mp hj
    obtain ⟨m', -, heq⟩ := Option.map_eq_some_iff.mp hm
    cases heq
    have hkept : SMap.find (SMap.set d.vpt j { m with group := some i }) i = some v :=
      (SMap.find_set_other _ _ _ _ (hmate j hj')).trans hfind
    exact ⟨_, hwaits _ hkept, hkept⟩
  · exact ⟨d.vpt, hwaits d.vpt hfind, hfind⟩

/-! ### Slots opened (R121, R215, R223) -/

/-- A slot as it is opened. -/
def AltOpen.fresh (slot kind source value mask : Nat) (entry : Option Nat) : AltOpen :=
  { slot := slot, kind := kind, source := source, value := value, mask := mask, length := 0, jobs := [], entry := entry }

/-- The entry that the group's first slot holds, if it still lives. -/
def Dev.altMate (d : Dev) (l : Nat) (g : AltGroup) : Option Nat :=
  ((g.opened.head?).bind AltOpen.entry).filter
    (fun j => (SMap.find d.vpt j).any (fun m => m.lane = l && m.release + 40 = d.cursorTime l g.release))

/-- The entry asked for a slot as it is opened (Table 9-6). -/
def Dev.altEntry (d : Dev) (l slot kind source value mask : Nat) (g : AltGroup) : VptEntry :=
  { state := .staging, isBranch := false, lane := l, slot := slot, kind := kind, source := source, value := value, mask := mask
    negate := false, shot := d.shotNo l, release := d.cursorTime l g.release - 40
    reservation := ((d.altFound l g.release (((d.drill l).altPlays 64 (d.drill l).pc 0 0).filter (fun p => p.1 = slot))).map Prod.snd).sum
    windowEnd := (d.sourceWindow (d.groupOf l) (d.shotNo l) (d.cursorTime l g.release) (fabricOf kind source)).getD 0
    group := d.altMate l g, first := if slot = 0 then none else (d.drill l).slot0Cond g 64 ((d.drill l).pc + 1) }

/-- The drill past a `play.alt`, with its slot in the group. -/
def Drill.opens (r : Drill) (g : AltGroup) (o : AltOpen) (refused : Bool) : Drill :=
  { r with pc := r.pc + 1, alt := some { g with opened := g.opened ++ [o], refused := refused } }

section
variable {d : Dev} {l slot kind source value mask : Nat} {g : AltGroup}

/-- In strict mode a slot is opened without an entry. -/
theorem Dev.openAlt_strict (h : (d.drill l).mode = modeStrict) :
    d.openAlt l slot kind source value mask g = d.setDrill l ((d.drill l).opens g (.fresh slot kind source value mask none) g.refused) := by
  unfold Dev.openAlt
  extract_lets r stamp own mate v
  rw [if_pos h]
  have hstrict : (r.mode != modeStrict) = false := by simp [r, h]
  simp only [hstrict, Bool.false_and, Bool.or_false]
  rfl

variable (h : (d.drill l).mode ≠ modeStrict)
include h

/-- In the other modes an entry granted is the slot's, and is paired. -/
theorem Dev.openAlt_granted {e : Dev} {i : Nat} (hask : d.askEntry (d.altEntry l slot kind source value mask g) [slot] = (e, some i)) :
    d.openAlt l slot kind source value mask g =
      (e.setDrill l ((e.drill l).opens g (.fresh slot kind source value mask (some i)) g.refused)).pairEntry i (d.altMate l g) := by
  unfold Dev.openAlt
  extract_lets r stamp own mate v
  rw [if_neg h, show d.askEntry v [slot] = _ from hask]
  simp only [Option.isNone_some, Bool.and_false, Bool.or_false]
  rfl

/-- And a refused request leaves the slot without one. -/
theorem Dev.openAlt_refused {e : Dev} (hask : d.askEntry (d.altEntry l slot kind source value mask g) [slot] = (e, none)) :
    d.openAlt l slot kind source value mask g = e.setDrill l ((e.drill l).opens g (.fresh slot kind source value mask none) true) := by
  unfold Dev.openAlt
  extract_lets r stamp own mate v
  rw [if_neg h, show d.askEntry v [slot] = _ from hask]
  have hmode : (g.refused || (r.mode != modeStrict && (none : Option Nat).isNone)) = true := by simp [r, h]
  simp only [hmode]
  rfl

end

/-! ### `play.alt` (R121, R214, R215) -/

/-- A drill's command whose instruction may raise faults: what is sealed is the Grave bits (R445). -/
theorem drillStep_seals {t : Nat} {lane : Lane} {f : Dev → Nat → Drill → Op → Dev} {s : State} {op : Op} {e : Dev} (h : s.Runs)
    (hop : s.Executes t lane op) (hf : f (s.devAt t) lane.val (s.dev.drill lane.val) op = e) :
    drillStep t lane f s = .next (s.withDev (s.dev.seal e)) := by
  have hnext : (s.dev.tick t).nextOp lane.val = some op := hop
  unfold drillStep
  rw [devStep_live t _ s h]
  simp only [hnext]
  rw [← hf]
  rfl

/-- A group at its first slot, at the drill's cursor. -/
def Dev.altGroup (d : Dev) (l : Nat) (r : Drill) : AltGroup :=
  { release := r.cursor, closed := false, opened := [], windowEnd := 0, shot := d.shotNo l, refused := false, first := r.firstDue }

/-- The block in which a group's first slot is opened: a lane that is not muted has asked for the span's reservation (R242). -/
def Dev.spanReserved (d : Dev) (l : Nat) : Dev :=
  if (d.drill l).muteFrom.isNone then
    d.reserveSpan l (d.drill l).cursor 16 (d.altFound l (d.drill l).cursor ((d.drill l).altPlays 64 (d.drill l).pc 0 0))
  else d

theorem Dev.stills_spanReserved (d : Dev) {l : Nat} (hl : l < 512) : d.Stills l (d.spanReserved l) := by
  unfold Dev.spanReserved
  split
  · exact d.stills_reserveSpan _ _ _ hl
  · exact (Dev.Signals.refl d).stills hl

section
variable {t : Nat} {lane : Lane} {s : State} (h : s.Runs)
include h

section
variable {slot kind source value mask : Nat} (hop : s.Executes t lane (.altOpen slot kind source value mask))
  (hrun : (s.dev.drill lane.val).run = .inShot) (hshadow : (s.dev.drill lane.val).shadow = none)
include hop hrun hshadow

/-- The first `play.alt` of a group opens its slot behind the span's reservation. -/
theorem altOpen_first (halt : (s.dev.drill lane.val).alt = none) :
    execPlayAltOpen t lane s = .next (s.withDev (s.dev.seal (((s.devAt t).spanReserved lane.val).openAlt lane.val slot kind source value mask
      (((s.devAt t).spanReserved lane.val).altGroup lane.val (s.dev.drill lane.val))))) := by
  refine drillStep_seals h hop ((if_neg (by simp [hrun])).trans ((if_neg (by simp [hshadow])).trans ?_))
  rw [halt]
  rfl

/-- A later one opens its slot in the group. -/
theorem altOpen_next {g : AltGroup} {e : Dev} (halt : (s.dev.drill lane.val).alt = some g) (hclosed : g.closed = false)
    (he : (s.devAt t).openAlt lane.val slot kind source value mask g = e) (hfaults : e.faults = s.dev.faults := by rfl) :
    execPlayAltOpen t lane s = .next (s.withDev e) := by
  refine drillStep_executes h hop ((if_neg (by simp [hrun])).trans ((if_neg (by simp [hshadow])).trans ?_)) hfaults
  rw [halt]
  exact (if_neg (by simp [hclosed])).trans he

end

/-- The drill behind a group's close, which waits when some slot has no entry. -/
def Drill.closedAlt (r : Drill) (g : AltGroup) (stop : Nat) (waits : Bool) : Drill :=
  { r with
    pc := r.pc + 1, cursor := stop, busy := stop, alt := if waits then some { g with closed := true } else none
    firstDue := r.firstDue && stop = g.release, run := if waits then .waitAlt else r.run }

/-- A group's close moves its drill behind the longer slot, and beside it only the shot's spans and the span's reservation. -/
theorem altClose_closes {g : AltGroup} (hop : s.Executes t lane .altClose) (halt : (s.dev.drill lane.val).alt = some g) (hclosed : g.closed = false) :
    ∃ s', execPlayAltClose t lane s = .next s' ∧ s'.dev.objs = s.dev.objs ∧ s'.dev.chains = s.dev.chains ∧ s'.mem = s.mem
      ∧ s'.dev.drill lane.val = (s.dev.drill lane.val).closedAlt g (g.release + (g.opened.map AltOpen.length).foldl max 0)
          (g.opened.any (fun o => o.entry.isNone)) := by
  let stop := g.release + (g.opened.map AltOpen.length).foldl max 0
  let d := (s.devAt t).setDrill lane.val ((s.dev.drill lane.val).closedAlt g stop (g.opened.any (fun o => o.entry.isNone)))
  let k := d.groupOf lane.val
  let e := d.setGroup k { d.group k with spans := (d.group k).spans ++ [d.cursorTime lane.val stop] }
  let stamp := e.cursorTime lane.val g.release
  let f := if e.spanLives lane.val stamp then e else e.freeSpan lane.val stamp
  have hf : f.objs = s.dev.objs ∧ f.chains = s.dev.chains ∧ f.faults = s.dev.faults ∧ f.drill lane.val = d.drill lane.val := by
    unfold f
    split <;> exact ⟨rfl, rfl, rfl, rfl⟩
  obtain ⟨hobjs, hchains, hfaults, hdrill⟩ := hf
  refine ⟨_, drillStep_executes (e := f) h hop ?_ hfaults, hobjs, hchains, rfl, hdrill.trans (Dev.drill_setDrill_same _ _ _)⟩
  rw [halt]
  exact if_neg (by simp [hclosed])

end

/-- Settles O10: a slot opened in strict mode moves its drill alone; one that asks gets an entry, which waits for its item, or is refused. -/
theorem alternateGroupsOpenAndClose : Obligations.AlternateGroupsOpenAndClose := by
  unfold Obligations.AlternateGroupsOpenAndClose
  intro t lane s hs d l r stop
  refine ⟨fun slot kind source value mask hop hrun hshadow halt hmode => ?first, fun g halt hclosed => ⟨
    fun slot kind source value mask hop hrun hshadow hmode hfree hlate hitem => ⟨fun hroom hentry => ?granted, fun hfull => ?refused⟩,
    fun slot kind source value mask hop hrun hshadow hmode => ?strict, fun hop hopen => ?waits, fun hop hheld => ?goesOn⟩⟩
  case first =>
    have hstills := d.stills_spanReserved lane.isLt
    obtain ⟨ready, passed, from_, hdrill⟩ := hstills.own hshadow
    have field {α : Type} (f : Drill → α) := congrArg f hdrill
    have hexec := altOpen_first hs hop hrun hshadow halt
    rw [Dev.openAlt_strict ((field Drill.mode).trans hmode)] at hexec
    let e := d.spanReserved l
    have hopened := e.drill_setDrill_same l ((e.drill l).opens (e.altGroup l r) (.fresh slot kind source value mask none) false)
    refine ⟨_, hexec, (congrArg Drill.pc hopened).trans (congrArg (· + 1) (field Drill.pc)), (congrArg Drill.cursor hopened).trans (field Drill.cursor),
      hstills.vpt, fun k hk => (e.drill_setDrill_other l k _ (Ne.symm hk)).trans (hstills.drill k hk), rfl, (congrArg Drill.alt hopened).trans ?_⟩
    unfold Drill.opens Dev.altGroup
    rw [hstills.shotNo]
    rfl
  case granted =>
    obtain ⟨e, hask, hvpt, hdrills, hfaults, hsame, hcount⟩ :=
      Dev.askEntry_granted (v := d.altEntry l slot kind source value mask g) lane.isLt hfree hroom hentry
    have hopened := Dev.openAlt_granted (d := d) hmode hask
    have hmate (j : Nat) (hj : d.altMate l g = some j) : j ≠ d.freeEntry := by
      have hlives := (Option.filter_eq_some_iff.mp hj).2
      intro heq
      rw [heq, Dev.freeEntry_free hentry] at hlives
      exact absurd hlives nofun
    let v : VptEntry := d.altEntry l slot kind source value mask g
    let x := (e.drill l).opens g (.fresh slot kind source value mask (some d.freeEntry)) g.refused
    have hwait : (e.setDrill l x).entryItem v = none := by
      have hstamp : d.cursorTime l g.release - 40 + 40 = d.cursorTime l g.release := Nat.sub_add_cancel hlate
      refine ((Dev.SameItems.trans hsame (e.sameItems_setDrill l x)).finalItem _ _ _).trans ?_
      rw [← hitem, ← hstamp]
      rfl
    have hfound : SMap.find (e.setDrill l x).vpt d.freeEntry = some v := by
      rw [show (e.setDrill l x).vpt = _ from hvpt]
      exact SMap.find_set_same _ _ _
    obtain ⟨vpt, hpair, hfind⟩ := Dev.pairEntry_waits hfound hmate (nofun : VptState.staging ≠ .confirmed) hwait
    have hdrill : (e.setDrill l x).drill l = x := Dev.drill_setDrill_same e l x
    have hkept : e.drill l = r := by unfold Dev.drill; rw [hdrills]; rfl
    exact ⟨_, v, altOpen_next hs hop hrun hshadow halt hclosed (hopened.trans hpair) hfaults, hfind, rfl, rfl, rfl, rfl, rfl, rfl, rfl, rfl,
      Nat.sub_add_cancel hlate, hcount, (congrArg Drill.pc hdrill).trans (congrArg (fun y => y.pc + 1) hkept), rfl⟩
  case refused =>
    let e := (d.bump Obj.fbSpecRefused).bump (Obj.laneSpecRefused l)
    have hopened := Dev.openAlt_refused (d := d) hmode (Dev.askEntry_refused (v := d.altEntry l slot kind source value mask g) (slot := slot) hfull)
    have hdrill := e.drill_setDrill_same l ((e.drill l).opens g (.fresh slot kind source value mask none) true)
    have hcount : e.val Obj.fbSpecRefused = wrap 32 (d.val Obj.fbSpecRefused + 1) :=
      (Dev.val_bump_other _ _ _ (by simp only [Obj.laneSpecRefused, Obj.fbSpecRefused]; omega) (by decide)).trans (Dev.val_bump_same d _)
    exact ⟨_, altOpen_next hs hop hrun hshadow halt hclosed hopened, rfl, congrArg Drill.pc hdrill,
      congrArg (fun y => y.alt.map AltGroup.refused) hdrill, hcount, rfl⟩
  case strict =>
    exact ⟨_, altOpen_next hs hop hrun hshadow halt hclosed (Dev.openAlt_strict hmode), rfl, rfl, rfl, rfl,
      fun k hk => d.drill_setDrill_other l k _ (Ne.symm hk), Dev.drill_setDrill_same _ _ _⟩
  case waits =>
    obtain ⟨s', hexec, hobjs, hchains, hmem, hdrill⟩ := altClose_closes hs hop halt hclosed
    have hany : g.opened.any (fun o => o.entry.isNone) = true := by
      obtain ⟨o, ho, hnone⟩ := hopen
      exact List.any_eq_true.mpr ⟨o, ho, by rw [hnone]; rfl⟩
    rw [hany] at hdrill
    exact ⟨s', hexec, hobjs, hchains, hmem, hdrill⟩
  case goesOn =>
    obtain ⟨s', hexec, hobjs, hchains, hmem, hdrill⟩ := altClose_closes hs hop halt hclosed
    have hnone : g.opened.any (fun o => o.entry.isNone) = false := by
      refine List.any_eq_false.mpr fun o ho => ?_
      simpa using hheld o ho
    rw [hnone] at hdrill
    exact ⟨s', hexec, hobjs, hchains, hmem, hdrill⟩

end Sys2Proof.Machine
end

section
namespace Sys2Proof.Machine

/-! ### A request waits at its channels (R307) -/

/-- What a request adds to the queue of a channel: one part, where the channel holds bytes of it. -/
def DdrReq.partsOn (r : DdrReq) (ch : Nat) : List DdrPart :=
  if r.on ch = 0 then [] else [{ req := r, bytes := r.on ch, late := false, bad := false }]

/-- The queues with a request's part added at one channel. -/
def DdrReq.joinAt (r : DdrReq) (q : SMap (List DdrPart)) (ch : Nat) : SMap (List DdrPart) :=
  if r.on ch = 0 then q else SMap.set q ch (SMap.look q ch [] ++ [{ req := r, bytes := r.on ch, late := false, bad := false }])

theorem DdrReq.look_joinAt_same (r : DdrReq) (q : SMap (List DdrPart)) (ch : Nat) :
    SMap.look (r.joinAt q ch) ch [] = SMap.look q ch [] ++ r.partsOn ch := by
  unfold DdrReq.joinAt DdrReq.partsOn
  split
  · exact (List.append_nil _).symm
  · simp [SMap.look]

theorem DdrReq.look_joinAt_other (r : DdrReq) (q : SMap (List DdrPart)) {ch c : Nat} (h : c ≠ ch) :
    SMap.look (r.joinAt q c) ch [] = SMap.look q ch [] := by
  unfold DdrReq.joinAt
  split
  · rfl
  · simp only [SMap.look, SMap.find_set_other _ _ _ _ h]

theorem DdrReq.look_foldl_joinAt_other (r : DdrReq) {chs : List Nat} {ch : Nat} (h : ch ∉ chs) (q : SMap (List DdrPart)) :
    SMap.look (chs.foldl r.joinAt q) ch [] = SMap.look q ch [] := by
  induction chs generalizing q with
  | nil => rfl
  | cons c chs ih =>
    obtain ⟨hc, hrest⟩ := not_or.mp (mt List.mem_cons.mpr h)
    exact (ih hrest _).trans (r.look_joinAt_other q (Ne.symm hc))

/-- A request that goes round channels joins the queue of each once. -/
theorem DdrReq.look_foldl_joinAt (r : DdrReq) {chs : List Nat} {ch : Nat} (hmem : ch ∈ chs) (hnodup : chs.Nodup) (q : SMap (List DdrPart)) :
    SMap.look (chs.foldl r.joinAt q) ch [] = SMap.look q ch [] ++ r.partsOn ch := by
  induction chs generalizing q with
  | nil => cases hmem
  | cons c chs ih =>
    obtain ⟨hc, hrest⟩ := List.nodup_cons.mp hnodup
    rcases List.mem_cons.mp hmem with rfl | hin
    · exact (r.look_foldl_joinAt_other hc _).trans (r.look_joinAt_same q ch)
    · have hne : c ≠ ch := fun heq => hc (heq ▸ hin)
      rw [List.foldl_cons, ih hin hrest, r.look_joinAt_other q hne]

theorem Dev.ddrQueue_eq (d : Dev) (r : DdrReq) :
    d.ddrQueue r = { d with memctl := { d.memctl with
      made := d.memctl.made + 1
      queues := (List.range 8).foldl (DdrReq.joinAt { r with id := d.memctl.made }) d.memctl.queues } } := rfl

/-- A request made waits at every channel that holds bytes of it, under the number of requests made before it. -/
theorem Dev.ddrQueue_look (d : Dev) (r : DdrReq) {ch : Nat} (h : ch < 8) :
    SMap.look (d.ddrQueue r).memctl.queues ch [] =
      SMap.look d.memctl.queues ch [] ++ DdrReq.partsOn { r with id := d.memctl.made } ch := by
  rw [Dev.ddrQueue_eq]
  dsimp only
  exact DdrReq.look_foldl_joinAt _ (List.mem_range.mpr h) List.nodup_range _

/-! ### Class 1 requests (R153, R318, R319) -/

/-- The meter a lane's request is charged to, filled up to now (R319): the fetch meter for a program line, the stream meter for a refill block. -/
def Dev.classMeter (d : Dev) (l : Nat) (line : Option Nat) : Meter :=
  Meter.filledTo (SMap.find (if line.isNone then d.memctl.streamMeter else d.memctl.fetchMeter) l)
    (d.val (if line.isNone then Obj.laneStreamRate l else Obj.laneFetchRate l)) (10000 * if line.isNone then 4608 else 2304) d.now

/-- `e` is `d` after lane `l` has asked for bytes as class 1, within its meter or, when that is short, demoted and counted. -/
structure Dev.AsksClassOne (d : Dev) (l address bytes : Nat) (line : Option Nat) (short : Bool) (e : Dev) : Prop where
  waits : ∃ q : DdrReq, q.cls = 1 ∧ q.address = address ∧ q.bytes = bytes ∧ q.lane = some l ∧ q.line = line ∧ q.demoted = short
    ∧ ∀ ch, ch < 8 → SMap.look e.memctl.queues ch [] = SMap.look d.memctl.queues ch [] ++ q.partsOn ch
  within : short = false → e.objs = d.objs
  demoted : short = true → e.val (Obj.laneClass1Demoted l) = wrap 32 (d.val (Obj.laneClass1Demoted l) + 1)
  drills : e.drills = d.drills
  faults : e.faults = d.faults

theorem Dev.lt_of_reach {d : Dev} {p r o n : Nat} (h : d.reach p r o n = true) : r < 1024 := by
  unfold Dev.reach at h
  simp only [Bool.and_eq_true, decide_eq_true_eq] at h
  obtain ⟨⟨hr, -⟩, -⟩ := h
  exact hr

/-- A counter of index 0x3000 or above describes no region (Table 13-2). -/
theorem Dev.region_bump (d : Dev) {k r : Nat} (hr : r < 1024) (hk : 0x300000 ≤ k) : (d.bump k).region r = d.region r :=
  have hkey : Obj.memRegion (r / 128) (r % 128) < 0x300000 := by simp only [Obj.memRegion]; omega
  Dev.val_bump_other d k _ (by omega) (isBiasKey_below (by omega))

/-- A class 1 request that may reach its bytes changes the meters, counts its demotion and is queued. -/
theorem Dev.classOne_queues {d : Dev} {l r o n : Nat} (line : Option Nat) (place deadline : Nat)
    (h : d.reach (actsFor (d.laneOwner l)) r o n = true) :
    ∃ stream fetch : SMap Meter,
      let m : Dev := { d with memctl := { d.memctl with streamMeter := stream, fetchMeter := fetch } }
      let e := if (d.classMeter l line).credit < 10000 * n then m.bump (Obj.laneClass1Demoted l) else m
      d.classOne l r o n line place deadline = e.ddrQueue
        { id := 0, cls := 1, partition := actsFor (d.laneOwner l), address := e.regionAddr r o, bytes := n, arrived := e.now
          deadline := deadline, use := .fetch, demoted := decide ((d.classMeter l line).credit < 10000 * n), lane := some l
          line := line, place := place, owner := regionOwner (e.region r) } := by
  unfold Dev.classOne
  simp only
  rw [if_neg (by simp [h])]
  exact ⟨_, _, rfl⟩

theorem Dev.classOne_asks {d : Dev} {l r o n : Nat} (line : Option Nat) (place deadline : Nat)
    (h : d.reach (actsFor (d.laneOwner l)) r o n = true) :
    d.AsksClassOne l (d.regionAddr r o) n line (decide ((d.classMeter l line).credit < 10000 * n))
      (d.classOne l r o n line place deadline) := by
  obtain ⟨stream, fetch, hqueues⟩ := Dev.classOne_queues line place deadline h
  rw [hqueues]
  by_cases hshort : (d.classMeter l line).credit < 10000 * n
  · rw [if_pos hshort, decide_eq_true hshort]
    have haddr : (Dev.bump { d with memctl := { d.memctl with streamMeter := stream, fetchMeter := fetch } }
        (Obj.laneClass1Demoted l)).regionAddr r o = d.regionAddr r o :=
      congrArg (regionBase · + o) (Dev.region_bump _ (Dev.lt_of_reach h) (by simp only [Obj.laneClass1Demoted]; omega))
    exact ⟨⟨_, rfl, haddr, rfl, rfl, rfl, rfl, fun _ hch => Dev.ddrQueue_look _ _ hch⟩, nofun, fun _ => Dev.val_bump_same _ _, rfl, rfl⟩
  · rw [if_neg hshort, decide_eq_false hshort]
    exact ⟨⟨_, rfl, rfl, rfl, rfl, rfl, rfl, fun _ hch => Dev.ddrQueue_look _ _ hch⟩, fun _ => rfl, nofun, rfl, rfl⟩

/-! ### The fetches of a lane -/

section
variable {t : Nat} {lane : Lane} {s : State} {d : Dev} {l : Nat} (hs : s.Runs) (hd : s.devAt t = d) (hl : lane.val = l)
  (hready : d.val Obj.memState = 3) (hrun : d.val (Obj.stripState (stripOf l)) = 0)
include hs hd hl hready hrun

/-- The refill engine asks for the block at the end of what is there or on its way, when the buffer has room for it. -/
theorem streamRefill_asks {e : LibEntry} {i n : Nat} (hrate : 0 < d.val (Obj.laneStreamRate l))
    (htotal : 0 < (((d.drill l).streams).map LibEntry.length).sum) (hn : min 64 (e.length - i) = n)
    (hroom : d.streamEnd l + n ≤ d.val (Obj.laneStreamBuffer l) + (d.drill l).streamWant)
    (hseek : seekStream (d.drill l).streams (d.streamEnd l % (((d.drill l).streams).map LibEntry.length).sum) = some (e, i))
    (hreach : d.reach (actsFor (d.laneOwner l)) e.region (e.offset + 18 * i) (18 * n) = true) :
    ∃ d', execStreamRefill t lane s = .next (s.withDev d')
      ∧ d.AsksClassOne l (d.regionAddr e.region (e.offset + 18 * i)) (18 * n) none
          (decide ((d.classMeter l none).credit < 10000 * (18 * n))) d' := by
  subst hd hl hn
  have hasks := Dev.classOne_asks none ((s.devAt t).streamEnd lane) ((s.devAt t).streamNeed lane ((s.devAt t).streamEnd lane)) hreach
  refine ⟨_, devStep_eq hs ((if_neg ?closed).trans ?block) hasks.faults, hasks⟩
  case closed => simp [hready, hrun, Nat.ne_of_gt hrate, Nat.ne_of_gt htotal]
  case block =>
    simp only [hseek]
    exact if_neg (Nat.not_lt.mpr hroom)

/-- The fetch engine asks for the next program line. -/
theorem programLineFetch_asks {n : Nat} (hlong : 3640 < (d.drill l).length) (hrate : 0 < d.val (Obj.laneFetchRate l)) (hline : d.nextLine l = some n)
    (hreach : d.reach (actsFor (d.laneOwner l)) (domRegion (d.val (Obj.laneProgram l))) (domOffset (d.val (Obj.laneProgram l)) + 576 * n) 576 = true) :
    ∃ d', execProgramLineFetch t lane s = .next (s.withDev d')
      ∧ d.AsksClassOne l (d.regionAddr (domRegion (d.val (Obj.laneProgram l))) (domOffset (d.val (Obj.laneProgram l)) + 576 * n)) 576 (some n)
          (decide ((d.classMeter l (some n)).credit < 10000 * 576)) d' := by
  subst hd hl
  have hasks := Dev.classOne_asks (some n) 0 ((s.devAt t).lineNeed lane n) hreach
  refine ⟨_, devStep_eq hs ((if_neg ?closed).trans ?block) hasks.faults, hasks⟩
  case closed => simp [hready, hrun, Nat.ne_of_gt hrate, hlong]
  case block => simp only [hline]

end

/-- Settles O19: each engine makes one class 1 request, which the meter demotes or not and which then waits at its channels. -/
theorem laneFetchesAreClassOneRequests : Obligations.LaneFetchesAreClassOneRequests := by
  unfold Obligations.LaneFetchesAreClassOneRequests
  intro t lane s hs d l r asks hready hrun
  have shows {address bytes : Nat} {line : Option Nat} {short : Bool} {d' : Dev} (h : d.AsksClassOne l address bytes line short d') :
      asks (s.withDev d') address bytes line short := ⟨h.waits, h.within, h.demoted, h.drills, rfl⟩
  refine ⟨fun e i hrate htotal hroom hseek hreach => ?refill, fun n hlong hrate hline hreach => ?line⟩
  case refill =>
    obtain ⟨d', hexec, hasks⟩ := streamRefill_asks hs rfl rfl hready hrun hrate htotal rfl hroom hseek hreach
    rw [← Nat.mul_assoc] at hasks
    exact ⟨_, hexec, shows hasks⟩
  case line =>
    obtain ⟨d', hexec, hasks⟩ := programLineFetch_asks hs rfl rfl hready hrun hlong hrate hline hreach
    exact ⟨_, hexec, shows hasks⟩

end Sys2Proof.Machine
end

section
namespace Sys2Proof.Machine

/-! ### Repetitions of a segment table's entries (R168–R170) -/

/-- The event channel of entry `i`'s condition (R169). -/
def Drill.segChan (r : Drill) (i : Nat) : Nat := tableChan ((r.table[1]?).getD 0) (r.segEntry i).cond

/-- What entry `i` leaves of the latches where its repetition after `rep` others begins, at grid time `here`: the first clears the latch of its
condition of what came before (R168). -/
def Drill.segLatches (r : Drill) (i rep here : Nat) : SMap EvTime :=
  if rep = 0 && (r.segEntry i).cond != 0 && (SMap.find r.latches (r.segChan i)).any (fun v => v.tick < here) then
    SMap.del r.latches (r.segChan i)
  else r.latches

/-- Taking an event from a latch fills none. -/
theorem SMap.find_del_none {α : Type} {m : SMap α} (i : Nat) {j : Nat} (h : SMap.find m j = none) : SMap.find (SMap.del m i) j = none := by
  by_cases hij : i = j
  · rw [hij, SMap.find_del_same]
  · rw [SMap.find_del_other m i j hij, h]

theorem Drill.segLatches_none (r : Drill) (i rep here : Nat) {chan : Nat} (h : SMap.find r.latches chan = none) :
    SMap.find (r.segLatches i rep here) chan = none := by
  unfold Drill.segLatches
  split
  · exact SMap.find_del_none _ h
  · exact h

section
variable {d : Dev} {l : Nat} (hshadow : (d.drill l).shadow = none)
include hshadow

/-- A repetition that begins outside a prediction: the lane's own affair, and what becomes of its drill. -/
theorem Dev.segPlay_confirmed (i rep start : Nat) (prev : Option (Nat × Nat)) :
    d.Local l (d.segPlay l i rep start prev) ∧ ∃ ready urgent, (d.segPlay l i rep start prev).drill l =
      { d.drill l with
        latches := (d.drill l).segLatches i rep (d.cursorTime l (d.drill l).cursor), segStart := (d.drill l).cursor
        ready := ready, urgentDue := urgent
        busy := (d.drill l).cursor + ((d.drill l).entryOf ((d.drill l).segEntry i).wave).length
        cursor := (d.drill l).cursor + ((d.drill l).entryOf ((d.drill l).segEntry i).wave).length
        firstDue := false, streamCur := (d.drill l).streamPast ((d.drill l).segEntry i).wave
        seg := some
          { entry := i, rep := rep + 1, entryStart := if rep = 0 then d.cursorTime l (d.drill l).cursor else start, prev := prev } } := by
  unfold Dev.segPlay
  extract_lets r e here chan latches d1 d2 g0 g1 d3 r3
  let r1 : Drill := { r with latches := latches, segStart := r.cursor }
  have h1 : d1.drill l = r1 := d.drill_setDrill_same l r1
  have hmark : d1.Local l d2 ∧ d2.drill l = r1 := by
    have hmarker := d1.segMarker_local here (by rw [h1]; exact hshadow)
    unfold d2
    split
    · exact ⟨hmarker.1, hmarker.2.trans h1⟩
    · exact ⟨.refl l d1, h1⟩
  obtain ⟨hplays, urgent, hplayed⟩ :=
    d2.playAt_confirmed e.wave (tableAmp g1) (tableFrame g0) (tablePhase g1) false (some i) (by rw [hmark.2]; exact hshadow)
  refine ⟨(((d.local_setDrill l r1).trans hmark.1).trans hplays).trans (d3.local_setDrill l _), r3.ready, urgent, ?_⟩
  rw [hmark.2] at hplayed
  rw [Dev.drill_setDrill_same, show r3 = _ from hplayed]
  rfl

end

/-- The return behind a `seg` moves the lane's drill alone (R170). -/
theorem Dev.local_segReturn (d : Dev) (l : Nat) : d.Local l (d.segReturn l) := d.local_setDrill l _

theorem Dev.segReturn_drill (d : Dev) (l : Nat) :
    (d.segReturn l).drill l =
      { d.drill l with
        pc := (d.drill l).pc + 1, seg := none, segStart := (d.drill l).cursor, segDue := false, busy := (d.drill l).cursor } :=
  d.drill_setDrill_same l _

/-- The table entered at the first entry that plays from `i` on, or left when there is none (R168). -/
def Dev.segEnter (d : Dev) (l i : Nat) : Dev :=
  match (d.drill l).segPlays 4096 i with
  | some j => d.segPlay l j 0 0 none
  | none => d.segReturn l

theorem Dev.segEnter_plays {d : Dev} {l i j : Nat} (h : (d.drill l).segPlays 4096 i = some j) : d.segEnter l i = d.segPlay l j 0 0 none := by
  rw [Dev.segEnter, h]
theorem Dev.segEnter_returns {d : Dev} {l i : Nat} (h : (d.drill l).segPlays 4096 i = none) : d.segEnter l i = d.segReturn l := by
  rw [Dev.segEnter, h]

/-- Behind the last entry the table returns, behind another it is entered again at the entry that follows (R168). -/
theorem Dev.segNext_last {d : Dev} {l i : Nat} (h : ((d.drill l).segEntry i).last = true) : d.segNext l i = d.segReturn l := if_pos h
theorem Dev.segNext_enters {d : Dev} {l i : Nat} (h : ((d.drill l).segEntry i).last = false) :
    d.segNext l i = d.segEnter l ((d.drill l).segEntry i).next :=
  if_neg (by rw [h]; decide)

/-- What the table makes of a block between two entries is a return or a first repetition. -/
theorem Dev.segEnter_cases (d : Dev) (l i : Nat) : d.segEnter l i = d.segReturn l ∨ ∃ j, d.segEnter l i = d.segPlay l j 0 0 none := by
  cases h : (d.drill l).segPlays 4096 i with
  | none => exact .inl (Dev.segEnter_returns h)
  | some j => exact .inr ⟨j, Dev.segEnter_plays h⟩
theorem Dev.segNext_cases (d : Dev) (l i : Nat) : d.segNext l i = d.segReturn l ∨ ∃ j, d.segNext l i = d.segPlay l j 0 0 none := by
  cases h : ((d.drill l).segEntry i).last with
  | true => exact .inl (Dev.segNext_last h)
  | false => rw [Dev.segNext_enters h]; exact d.segEnter_cases l _

/-- Either, outside a prediction, is the lane's own affair. -/
theorem Dev.local_returnOrPlay {d e : Dev} {l : Nat} (hshadow : (d.drill l).shadow = none)
    (h : e = d.segReturn l ∨ ∃ j, e = d.segPlay l j 0 0 none) : d.Local l e := by
  rcases h with rfl | ⟨j, rfl⟩
  · exact d.local_segReturn l
  · exact (Dev.segPlay_confirmed hshadow j 0 0 none).1
theorem Dev.local_segEnter {d : Dev} {l : Nat} (i : Nat) (hshadow : (d.drill l).shadow = none) : d.Local l (d.segEnter l i) :=
  Dev.local_returnOrPlay hshadow (d.segEnter_cases l i)
theorem Dev.local_segNext {d : Dev} {l : Nat} (i : Nat) (hshadow : (d.drill l).shadow = none) : d.Local l (d.segNext l i) :=
  Dev.local_returnOrPlay hshadow (d.segNext_cases l i)

/-- An empty latch stays empty where an entry is left. -/
theorem Dev.segNext_latch {d : Dev} {l : Nat} (i : Nat) {chan : Nat} (h : (d.drill l).shadow = none)
    (hlatch : SMap.find (d.drill l).latches chan = none) : SMap.find ((d.segNext l i).drill l).latches chan = none := by
  rcases d.segNext_cases l i with hreturns | ⟨j, hplays⟩
  · rw [hreturns, Dev.segReturn_drill]; exact hlatch
  · obtain ⟨-, ready, urgent, hdrill⟩ := Dev.segPlay_confirmed h j 0 0 none
    rw [hplays, hdrill]
    exact Drill.segLatches_none _ _ _ _ hlatch

/-! ### What a repetition's end settles before the next begins (R132, R133, R169) -/

/-- `x` is `r` but for what a segment end and a condition move: where the segment starts, the ends passed, the watch, the latches, the ends
that may still be missed. -/
def Drill.Turned (r x : Drill) : Prop :=
  ∃ start ends watch latches tails,
    x = { r with segStart := start, segEnds := ends, watch := watch, latches := latches, segTails := tails }

theorem Drill.Turned.trans {r x y : Drill} (h : r.Turned x) (g : x.Turned y) : r.Turned y := by
  obtain ⟨_, _, _, _, _, rfl⟩ := h
  obtain ⟨_, _, _, _, _, rfl⟩ := g
  exact ⟨_, _, _, _, _, rfl⟩

/-- The table is not touched, nor which of its entries play. -/
theorem Drill.Turned.segEntry {r x : Drill} (h : r.Turned x) (i : Nat) : x.segEntry i = r.segEntry i := by
  obtain ⟨_, _, _, _, _, rfl⟩ := h
  rfl
theorem Drill.Turned.segPlays {r x : Drill} (h : r.Turned x) (n i : Nat) : x.segPlays n i = r.segPlays n i := by
  induction n generalizing i with
  | zero => rfl
  | succ n ih => simp only [Drill.segPlays, h.segEntry, ih]

/-- Lane `l`'s drill has so turned from `d` to `e`; the other lanes, the shot's origin and the faults stand. -/
structure Dev.Turned (l : Nat) (d e : Dev) : Prop where
  drill : (d.drill l).Turned (e.drill l)
  others : ∀ k, k ≠ l → e.drill k = d.drill k ∧ e.chain k = d.chain k
  ts : e.ts l = d.ts l
  faults : e.faults = d.faults

theorem Dev.Turned.refl (l : Nat) (d : Dev) : d.Turned l d := ⟨⟨_, _, _, _, _, rfl⟩, fun _ _ => ⟨rfl, rfl⟩, rfl, rfl⟩
theorem Dev.Turned.trans {l : Nat} {d e f : Dev} (h : d.Turned l e) (g : e.Turned l f) : d.Turned l f where
  drill := h.drill.trans g.drill
  others k hk := ⟨(g.others k hk).1.trans (h.others k hk).1, (g.others k hk).2.trans (h.others k hk).2⟩
  ts := g.ts.trans h.ts
  faults := g.faults.trans h.faults

theorem Dev.turned_setDrill {d : Dev} {l : Nat} {r : Drill} (h : (d.drill l).Turned r) : d.Turned l (d.setDrill l r) where
  drill := by rw [Dev.drill_setDrill_same]; exact h
  others k hk := ⟨d.drill_setDrill_other l k r (Ne.symm hk), rfl⟩
  ts := rfl
  faults := rfl

theorem Dev.turned_bump (d : Dev) {l k : Nat} (hl : l < 512) (hk : k ≠ Obj.laneShotGroup l) : d.Turned l (d.bump k) where
  drill := ⟨_, _, _, _, _, rfl⟩
  others _ _ := ⟨rfl, rfl⟩
  ts := by
    have hval := Dev.val_bump_other d k _ hk (isBiasKey_below (by simp only [Obj.laneShotGroup]; omega))
    unfold Dev.ts Dev.groupOf
    rw [hval]
    rfl
  faults := rfl

theorem Dev.turned_bump_segJumps (d : Dev) {l : Nat} (hl : l < 512) : d.Turned l (d.bump (Obj.laneSegJumps l)) :=
  d.turned_bump hl (by simp only [Obj.laneSegJumps, Obj.laneShotGroup]; omega)
theorem Dev.turned_bump_lateJumps (d : Dev) {l : Nat} (hl : l < 512) : d.Turned l (d.bump (Obj.laneLateJumps l)) :=
  d.turned_bump hl (by simp only [Obj.laneLateJumps, Obj.laneShotGroup]; omega)

/-! ### What an observer of the lane sees: a repetition, a return, and the choice between them -/

/-- From `d` to `e` lane `l` has begun repetition `rep` of entry `i`, in force since `start`. -/
structure Dev.Plays (l i rep start : Nat) (prev : Option (Nat × Nat)) (d e : Dev) : Prop where
  pc : (e.drill l).pc = (d.drill l).pc
  seg : (e.drill l).seg = some { entry := i, rep := rep, entryStart := start, prev := prev }
  segStart : (e.drill l).segStart = (d.drill l).cursor
  cursor : (e.drill l).cursor = (d.drill l).cursor + ((d.drill l).entryOf ((d.drill l).segEntry i).wave).length
  others : ∀ k, k ≠ l → e.drill k = d.drill k ∧ e.chain k = d.chain k

/-- From `d` to `e` lane `l` has returned behind its `seg`, where a segment begins. -/
structure Dev.Returns (l : Nat) (d e : Dev) : Prop where
  pc : (e.drill l).pc = (d.drill l).pc + 1
  seg : (e.drill l).seg = none
  segStart : (e.drill l).segStart = (d.drill l).cursor
  segDue : (e.drill l).segDue = false
  cursor : (e.drill l).cursor = (d.drill l).cursor
  ready : (e.drill l).ready = (d.drill l).ready
  others : ∀ k, k ≠ l → e.drill k = d.drill k ∧ e.chain k = d.chain k

/-- From `d` to `e` lane `l` has begun the first entry that plays from `i` on, or returned. -/
inductive Dev.Enters (l i : Nat) (d e : Dev) : Prop where
  | plays {j : Nat} (h : (d.drill l).segPlays 4096 i = some j) (hplays : d.Plays l j 1 (d.cursorTime l (d.drill l).cursor) none e)
  | returns (h : (d.drill l).segPlays 4096 i = none) (hreturns : d.Returns l e)

/-- From `d` to `e` lane `l` has left entry `i` for the one that follows it. -/
inductive Dev.Follows (l i : Nat) (d e : Dev) : Prop where
  | last (h : ((d.drill l).segEntry i).last = true) (hreturns : d.Returns l e)
  | next (h : ((d.drill l).segEntry i).last = false) (henters : d.Enters l ((d.drill l).segEntry i).next e)

section
variable {d e : Dev} {l : Nat} (h : d.Turned l e)
include h

theorem Dev.Turned.shadow (hshadow : (d.drill l).shadow = none) : (e.drill l).shadow = none := by
  obtain ⟨_, _, _, _, _, hdrill⟩ := h.drill
  rw [hdrill]
  exact hshadow

/-- A change of the lane's own behind the turn leaves the other lanes as they were before it. -/
theorem Dev.Turned.others_local {f : Dev} (g : e.Local l f) : ∀ k, k ≠ l → f.drill k = d.drill k ∧ f.chain k = d.chain k :=
  fun k hk => ⟨(g.drill k hk).trans (h.others k hk).1, (g.chain k hk).trans (h.others k hk).2⟩

theorem Dev.Turned.returns : d.Returns l (e.segReturn l) := by
  have hothers := h.others_local (e.local_segReturn l)
  obtain ⟨_, _, _, _, _, hdrill⟩ := h.drill
  have hreturn := e.segReturn_drill l
  rw [hdrill] at hreturn
  have field {α : Type} (f : Drill → α) := congrArg f hreturn
  exact ⟨field Drill.pc, field Drill.seg, field Drill.segStart, field Drill.segDue, field Drill.cursor, field Drill.ready, hothers⟩

variable (hshadow : (d.drill l).shadow = none)
include hshadow

theorem Dev.Turned.plays (i rep start : Nat) (prev : Option (Nat × Nat)) :
    d.Plays l i (rep + 1) (if rep = 0 then d.cursorTime l (d.drill l).cursor else start) prev (e.segPlay l i rep start prev) := by
  obtain ⟨hlocal, ready, urgent, hplayed⟩ := Dev.segPlay_confirmed (h.shadow hshadow) i rep start prev
  have hothers := h.others_local hlocal
  have htime : e.cursorTime l (d.drill l).cursor = d.cursorTime l (d.drill l).cursor := by rw [Dev.cursorTime, Dev.cursorTime, h.ts]
  obtain ⟨_, _, _, _, _, hdrill⟩ := h.drill
  rw [hdrill] at hplayed
  have field {α : Type} (f : Drill → α) := congrArg f hplayed
  exact ⟨field Drill.pc, (field Drill.seg).trans (by rw [htime]), field Drill.segStart, field Drill.cursor, hothers⟩

theorem Dev.Turned.enters (i : Nat) : d.Enters l i (e.segEnter l i) := by
  have hsame := h.drill.segPlays 4096 i
  cases hplays : (d.drill l).segPlays 4096 i with
  | some j =>
    rw [Dev.segEnter_plays (hsame.trans hplays)]
    exact .plays hplays (h.plays hshadow j 0 0 none)
  | none =>
    rw [Dev.segEnter_returns (hsame.trans hplays)]
    exact .returns hplays h.returns

theorem Dev.Turned.follows (i : Nat) : d.Follows l i (e.segNext l i) := by
  have hsame := h.drill.segEntry i
  cases hlast : ((d.drill l).segEntry i).last with
  | true =>
    rw [Dev.segNext_last (by rw [hsame]; exact hlast)]
    exact .last hlast h.returns
  | false =>
    rw [Dev.segNext_enters (by rw [hsame]; exact hlast), hsame]
    exact .next hlast (h.enters hshadow _)

end

/-! ### The end of a repetition (R169) -/

/-- An event comes by a tick or past it (R133). -/
theorem EvTime.by_eq_not_past (v : EvTime) (cut : Nat) : v.by cut = !v.past cut := by
  rw [EvTime.by, EvTime.past, ← decide_not, decide_eq_decide, Nat.not_lt]

/-- An entry without a condition has no event. -/
theorem Drill.segEvent_cond {r : Drill} {w : SegWalk} {v : EvTime} (h : r.segEvent w = some v) : (r.segEntry w.entry).cond ≠ 0 := by
  intro hcond
  rw [Drill.segEvent, if_pos hcond] at h
  exact absurd h nofun

section
variable {d : Dev} {l cut : Nat} {w : SegWalk}

/-- An entry is left on a condition latched by the cutoff: the event is used up and counted; beside that, the event may count as late. -/
theorem Dev.segTurn_leaves {v : EvTime} (hl : l < 512) (hevent : (d.drill l).segEvent w = some v) (hby : v.by cut = true) :
    ∃ e, d.segTurn l w cut = e.segNext l w.entry ∧ d.Turned l e
      ∧ e.val (Obj.laneSegJumps l) = wrap 32 (d.val (Obj.laneSegJumps l) + 1)
      ∧ SMap.find (e.drill l).latches ((d.drill l).segChan w.entry) = none := by
  have hfilter : ((d.drill l).segEvent w).filter (fun v => v.by cut) = some v := by rw [hevent, Option.filter_some, if_pos hby]
  let used : Drill := { d.drill l with latches := SMap.del (d.drill l).latches ((d.drill l).segChan w.entry) }
  let counted := (d.setDrill l used).bump (Obj.laneSegJumps l)
  have hcounted : d.Turned l counted :=
    (Dev.turned_setDrill ⟨_, _, _, _, _, rfl⟩).trans (Dev.turned_bump_segJumps _ hl)
  have hdrill : counted.drill l = used := d.drill_setDrill_same l used
  have hjumps : counted.val (Obj.laneSegJumps l) = wrap 32 (d.val (Obj.laneSegJumps l) + 1) := Dev.val_bump_same _ _
  have hempty : SMap.find (counted.drill l).latches ((d.drill l).segChan w.entry) = none := by rw [hdrill]; exact SMap.find_del_same _ _
  refine ⟨if w.prev.any (fun p => v.past p.1 && v.tick < p.2) then counted.bump (Obj.laneLateJumps l) else counted, ?_, ?_⟩
  · unfold Dev.segTurn
    simp only [hfilter]
    rfl
  · split
    · refine ⟨hcounted.trans (counted.turned_bump_lateJumps hl), (Dev.val_bump_other _ _ _ ?_ (isBiasKey_below ?_)).trans hjumps, hempty⟩
      · simp only [Obj.laneSegJumps, Obj.laneLateJumps]; omega
      · simp only [Obj.laneSegJumps]; omega
    · exact ⟨hcounted, hjumps, hempty⟩

section
variable (hpast : ∀ v, (d.drill l).segEvent w = some v → v.past cut = true)
include hpast

/-- Without its condition by the cutoff the entry's count decides. -/
theorem Dev.segTurn_counts :
    d.segTurn l w cut =
      if (!((d.drill l).segEntry w.entry).forever && ((d.drill l).segEntry w.entry).rep ≤ w.rep) = true then
        d.segCounted l w cut (d.cursorTime l (d.drill l).cursor)
      else d.segPlay l w.entry w.rep w.entryStart (some (cut, d.cursorTime l (d.drill l).cursor)) := by
  have hfilter : ((d.drill l).segEvent w).filter (fun v => v.by cut) = none := by
    rw [Option.filter_eq_none_iff]
    intro v hv
    rw [EvTime.by_eq_not_past, hpast v hv]
    decide
  unfold Dev.segTurn
  simp only [hfilter]

/-- It goes on for ever, or has repetitions left. -/
theorem Dev.segTurn_repeats (hmore : ((d.drill l).segEntry w.entry).forever = true ∨ w.rep < ((d.drill l).segEntry w.entry).rep) :
    d.segTurn l w cut = d.segPlay l w.entry w.rep w.entryStart (some (cut, d.cursorTime l (d.drill l).cursor)) := by
  refine (Dev.segTurn_counts hpast).trans (if_neg ?_)
  rcases hmore with hforever | hleft
  · simp [hforever]
  · simp [hleft]

/-- Its count has ended: an event past the cutoff and before the end counts in LaneLateJumps, and nothing else moves beside the drill. -/
theorem Dev.segTurn_ends (hl : l < 512) (hforever : ((d.drill l).segEntry w.entry).forever = false)
    (hdone : ((d.drill l).segEntry w.entry).rep ≤ w.rep) :
    ∃ e, d.segTurn l w cut = e.segNext l w.entry ∧ d.Turned l e
      ∧ ((∀ v, (d.drill l).segEvent w = some v → d.cursorTime l (d.drill l).cursor ≤ v.tick) → e.objs = d.objs)
      ∧ (∀ v, (d.drill l).segEvent w = some v → v.tick < d.cursorTime l (d.drill l).cursor →
        e.val (Obj.laneLateJumps l) = wrap 32 (d.val (Obj.laneLateJumps l) + 1)) := by
  rw [Dev.segTurn_counts hpast, if_pos (by simp [hforever, hdone])]
  unfold Dev.segCounted
  extract_lets r e late tail e'
  refine ⟨e', rfl, ?_⟩
  unfold e'
  by_cases hcond : e.cond = 0
  · rw [if_pos hcond]
    exact ⟨.refl l d, fun _ => rfl, fun v hv => absurd hcond (Drill.segEvent_cond hv)⟩
  · rw [if_neg hcond]
    have hmeans : late = true ↔ ∃ v, r.segEvent w = some v ∧ v.tick < d.cursorTime l (d.drill l).cursor := by
      unfold late
      cases hevent : r.segEvent w with
      | none => simp
      | some v => simp [hpast v hevent]
    by_cases hlate : late = true
    · rw [if_pos hlate]
      obtain ⟨v, hevent, htick⟩ := hmeans.mp hlate
      exact ⟨d.turned_bump_lateJumps hl, fun hafter => absurd htick (Nat.not_lt.mpr (hafter v hevent)), fun _ _ _ => Dev.val_bump_same d _⟩
    · rw [if_neg hlate]
      exact ⟨Dev.turned_setDrill ⟨_, _, _, _, _, rfl⟩, fun _ => rfl, fun v hevent htick => absurd (hmeans.mpr ⟨v, hevent, htick⟩) hlate⟩

end

end

/-! ### `seg` (R134, R168–R171) -/

/-- Where no watch fires, what a segment end at the entry of a table moves is a turn of the lane's drill alone. -/
theorem Dev.segment_turns {d : Dev} {l : Nat} (hshadow : (d.drill l).shadow = none)
    (hlane : (d.commitOf (Obj.laneCommit l)).waits 2 = false) (hbias : (d.commitOf (Obj.biasCommit l)).waits 2 = false)
    (hquiet : (d.drill l).segStart < (d.drill l).cursor → (d.drill l).watchFires (d.cutoff l (d.drill l).cursor) = none) :
    ∃ e, (if (d.drill l).segStart < (d.drill l).cursor then d.segmentEnd l else (d, false)) = (e, false)
      ∧ d.Turned l e ∧ e.objs = d.objs := by
  by_cases hbegins : (d.drill l).segStart < (d.drill l).cursor
  · exact ⟨_, (if_pos hbegins).trans (d.segmentEnd_passes hshadow hlane hbias hbegins (hquiet hbegins)),
      Dev.turned_setDrill ⟨_, _, _, _, _, rfl⟩, rfl⟩
  · exact ⟨d, if_neg hbegins, .refl l d, rfl⟩

/-- The block with the end of a repetition entered among lane `l`'s segment ends (R132). -/
def Dev.pastEnd (d : Dev) (l : Nat) : Dev :=
  d.setDrill l { d.drill l with segEnds := d.cursorTime l (d.drill l).cursor :: (d.drill l).segEnds.filter (fun x => d.now < x) }

theorem Dev.turned_pastEnd (d : Dev) (l : Nat) : d.Turned l (d.pastEnd l) := Dev.turned_setDrill ⟨_, _, _, _, _, rfl⟩

theorem Dev.pastEnd_drill (d : Dev) (l : Nat) :
    (d.pastEnd l).drill l =
      { d.drill l with segEnds := d.cursorTime l (d.drill l).cursor :: (d.drill l).segEnds.filter (fun x => d.now < x) } :=
  d.drill_setDrill_same l _

/-- The event of an entry's condition is still latched behind the end of its repetition. -/
theorem Dev.pastEnd_event (d : Dev) (l : Nat) (w : SegWalk) : ((d.pastEnd l).drill l).segEvent w = (d.drill l).segEvent w := by
  rw [Dev.pastEnd_drill]
  rfl

/-- What a drill's command does, said of the block `d` at its time and of lane `l`. -/
theorem drillStep_at {t : Nat} {lane : Lane} {f : Dev → Nat → Drill → Op → Dev} {s : State} {d : Dev} {l : Nat} {op : Op} {e : Dev}
    (hs : s.Runs) (hd : s.devAt t = d) (hl : lane.val = l) (hop : s.Executes t lane op) (hf : f d l (d.drill l) op = e)
    (he : e.faults = d.faults := by rfl) : drillStep t lane f s = .next (s.withDev e) := by
  subst hd hl
  exact drillStep_executes hs hop hf he

section
variable {t : Nat} {lane : Lane} {s : State} {d : Dev} {l first : Nat} (hs : s.Runs) (hd : s.devAt t = d) (hl : lane.val = l)
  (hop : s.Executes t lane (.seg first)) (hrun : (d.drill l).run = .inShot)
include hs hd hl hop hrun

/-- In shadow state the drill waits for its confirmation. -/
theorem seg_confirms (hshadow : (d.drill l).shadow.isSome = true) :
    execSeg t lane s = .next (s.withDev (d.setDrill l { d.drill l with run := .waitConfirm })) :=
  drillStep_at hs hd hl hop ((if_neg (by rw [hrun]; decide)).trans (if_pos hshadow))

variable (hshadow : (d.drill l).shadow = none)
include hshadow

section
variable (hseg : (d.drill l).seg = none)
include hseg

/-- At the entry of the table a watch may hold the drill. -/
theorem seg_watches (hwaits : d.watchWaits l = true) : execSeg t lane s = .next (s.withDev d) := by
  refine drillStep_at hs hd hl hop ((if_neg (by rw [hrun]; decide)).trans ((if_neg (by rw [hshadow]; decide)).trans ?_))
  rw [hseg]
  exact if_pos hwaits

variable (hfree : d.watchWaits l = false)
include hfree

/-- A watch that fires there replaces the `seg`. -/
theorem seg_replaced {e : Dev}
    (hend : (if (d.drill l).segStart < (d.drill l).cursor then d.segmentEnd l else (d, false)) = (e, true)) (hfaults : e.faults = d.faults) :
    execSeg t lane s = .next (s.withDev e) := by
  refine drillStep_at hs hd hl hop ((if_neg (by rw [hrun]; decide)).trans ((if_neg (by rw [hshadow]; decide)).trans ?_)) hfaults
  rw [hseg]
  refine (if_neg (by rw [hfree]; decide)).trans ?_
  simp only [hend, if_true]

/-- Otherwise the table is entered. -/
theorem seg_enters {e : Dev}
    (hend : (if (d.drill l).segStart < (d.drill l).cursor then d.segmentEnd l else (d, false)) = (e, false)) (hturned : d.Turned l e) :
    execSeg t lane s = .next (s.withDev (e.segEnter l first)) := by
  have hfaults := (Dev.local_segEnter first (hturned.shadow hshadow)).faults.trans hturned.faults
  refine drillStep_at hs hd hl hop ((if_neg (by rw [hrun]; decide)).trans ((if_neg (by rw [hshadow]; decide)).trans ?_)) hfaults
  rw [hseg]
  refine (if_neg (by rw [hfree]; decide)).trans ?_
  have hsame := hturned.drill.segPlays 4096 first
  cases hplays : (d.drill l).segPlays 4096 first with
  | some j => simp only [hend, Dev.segEnter_plays (hsame.trans hplays), Bool.false_eq_true, if_false]
  | none => simp only [hend, Dev.segEnter_returns (hsame.trans hplays), Bool.false_eq_true, if_false]

end

section
variable {w : SegWalk} (hseg : (d.drill l).seg = some w)
include hseg

/-- At a repetition's end the cutoff holds the drill, and a condition while its event may be on its way. -/
theorem seg_holds
    (hheld : d.endWaits l (d.drill l).cursor = true
      ∨ (((d.drill l).segEntry w.entry).cond ≠ 0 ∧ d.now < d.cutoff l (d.drill l).cursor + 200)) :
    execSeg t lane s = .next (s.withDev d) := by
  refine drillStep_at hs hd hl hop ((if_neg (by rw [hrun]; decide)).trans ((if_neg (by rw [hshadow]; decide)).trans ?_))
  rw [hseg]
  exact if_pos (by simpa using hheld)

variable {cut : Nat} (hcut : d.cutoff l (d.drill l).cursor = cut) (hlane : (d.commitOf (Obj.laneCommit l)).waits 2 = false)
  (hbias : (d.commitOf (Obj.biasCommit l)).waits 2 = false) (hpassed : d.endWaits l (d.drill l).cursor = false)
  (hdecided : ((d.drill l).segEntry w.entry).cond = 0 ∨ cut + 200 ≤ d.now)
include hcut hlane hbias hpassed hdecided

/-- Behind it the repetition's end is decided. -/
theorem seg_turns {f : Dev} (hturn : (d.pastEnd l).segTurn l w cut = f) (hfaults : f.faults = d.faults) :
    execSeg t lane s = .next (s.withDev f) := by
  subst hcut
  have hgoes : ¬(d.endWaits l (d.drill l).cursor
      || (((d.drill l).segEntry w.entry).cond != 0 && decide (d.now < d.cutoff l (d.drill l).cursor + 200))) = true := by
    rcases hdecided with hcond | htime
    · simp [hpassed, hcond]
    · simp [hpassed, htime]
  refine drillStep_at hs hd hl hop ((if_neg (by rw [hrun]; decide)).trans ((if_neg (by rw [hshadow]; decide)).trans ?_)) hfaults
  rw [hseg]
  refine (if_neg hgoes).trans ?_
  rw [Dev.segmentCommits_idle _ _ _ _ hlane hbias]
  exact hturn

/-- On a condition latched by the cutoff the entry is left, the event used up and the jump counted (R169). -/
theorem seg_leaves {v : EvTime} (hevent : (d.drill l).segEvent w = some v) (hby : v.by cut = true) :
    ∃ e, execSeg t lane s = .next (s.withDev (e.segNext l w.entry)) ∧ d.Turned l e
      ∧ e.val (Obj.laneSegJumps l) = wrap 32 (d.val (Obj.laneSegJumps l) + 1)
      ∧ SMap.find (e.drill l).latches ((d.drill l).segChan w.entry) = none := by
  obtain ⟨e, hturn, hturned, hjumps, hlatch⟩ :=
    Dev.segTurn_leaves (d := d.pastEnd l) (l := l) (by rw [← hl]; exact lane.isLt) ((d.pastEnd_event l w).trans hevent) hby
  have hturned' := (d.turned_pastEnd l).trans hturned
  rw [Dev.pastEnd_drill] at hlatch
  exact ⟨e, seg_turns hs hd hl hop hrun hshadow hseg hcut hlane hbias hpassed hdecided hturn
    ((Dev.local_segNext _ (hturned'.shadow hshadow)).faults.trans hturned'.faults), hturned', hjumps, hlatch⟩

variable (hpast : ∀ v, (d.drill l).segEvent w = some v → v.past cut = true)
include hpast

/-- Without it an entry with repetitions left begins the next (R168). -/
theorem seg_repeats (hmore : ((d.drill l).segEntry w.entry).forever = true ∨ w.rep < ((d.drill l).segEntry w.entry).rep) :
    execSeg t lane s =
      .next (s.withDev ((d.pastEnd l).segPlay l w.entry w.rep w.entryStart (some (cut, d.cursorTime l (d.drill l).cursor)))) := by
  have hturned := d.turned_pastEnd l
  have hturn : (d.pastEnd l).segTurn l w cut
      = (d.pastEnd l).segPlay l w.entry w.rep w.entryStart (some (cut, (d.pastEnd l).cursorTime l ((d.pastEnd l).drill l).cursor)) :=
    Dev.segTurn_repeats (by rw [Dev.pastEnd_event]; exact hpast) (by rw [hturned.drill.segEntry]; exact hmore)
  rw [Dev.pastEnd_drill] at hturn
  exact seg_turns hs hd hl hop hrun hshadow hseg hcut hlane hbias hpassed hdecided hturn
    ((Dev.segPlay_confirmed (hturned.shadow hshadow) ..).1.faults.trans hturned.faults)

/-- One whose count has ended is left for the next, and an event of its condition that came too late counts (R169). -/
theorem seg_ends (hforever : ((d.drill l).segEntry w.entry).forever = false) (hdone : ((d.drill l).segEntry w.entry).rep ≤ w.rep) :
    ∃ e, execSeg t lane s = .next (s.withDev (e.segNext l w.entry)) ∧ d.Turned l e
      ∧ ((∀ v, (d.drill l).segEvent w = some v → d.cursorTime l (d.drill l).cursor ≤ v.tick) → e.objs = d.objs)
      ∧ (∀ v, (d.drill l).segEvent w = some v → v.tick < d.cursorTime l (d.drill l).cursor →
        e.val (Obj.laneLateJumps l) = wrap 32 (d.val (Obj.laneLateJumps l) + 1)) := by
  have hpastEnd := d.turned_pastEnd l
  obtain ⟨e, hturn, hturned, hquiet, hlate⟩ :=
    Dev.segTurn_ends (d := d.pastEnd l) (l := l) (w := w) (cut := cut) (by rw [Dev.pastEnd_event]; exact hpast) (by rw [← hl]; exact lane.isLt)
      (by rw [hpastEnd.drill.segEntry]; exact hforever) (by rw [hpastEnd.drill.segEntry]; exact hdone)
  rw [Dev.pastEnd_event, Dev.pastEnd_drill] at hquiet hlate
  have hturned' := hpastEnd.trans hturned
  exact ⟨e, seg_turns hs hd hl hop hrun hshadow hseg hcut hlane hbias hpassed hdecided hturn
    ((Dev.local_segNext _ (hturned'.shadow hshadow)).faults.trans hturned'.faults), hturned', hquiet, hlate⟩

end

end

/-- Settles O18: a `seg` holds, or a watch replaces it, or it settles a segment's end and then begins a repetition or returns. Settling an end
leaves the table alone, so the entry that follows is the one the drill saw before. -/
theorem segmentTablesPlayEntryByEntry : Obligations.SegmentTablesPlayEntryByEntry := by
  unfold Obligations.SegmentTablesPlayEntryByEntry
  intro t lane s hs d l r cut stop frame plays returns goesFrom first hop hrun
  have hplays {i rep start : Nat} {prev : Option (Nat × Nat)} {e : Dev} (h : d.Plays l i rep start prev e) :
      plays (s.withDev e) i rep start prev := ⟨h.pc, h.seg, h.segStart, h.cursor, h.others, rfl⟩
  have hreturns {e : Dev} (h : d.Returns l e) : returns (s.withDev e) :=
    ⟨h.pc, h.seg, h.segStart, h.segDue, h.cursor, h.ready, h.others, rfl⟩
  have henters {i : Nat} {e : Dev} (h : d.Enters l i e) : goesFrom (s.withDev e) i := by
    have hr : d.drill l = r := rfl
    unfold goesFrom
    cases h with
    | plays hfirst h => rw [← hr, hfirst]; exact hplays h
    | returns hfirst h => rw [← hr, hfirst]; exact hreturns h
  have hfollows {i : Nat} {e : Dev} (h : d.Follows l i e) :
      if (r.segEntry i).last then returns (s.withDev e) else goesFrom (s.withDev e) (r.segEntry i).next := by
    cases h with
    | last hlast h => exact (if_pos hlast).mpr (hreturns h)
    | next hlast h => exact (if_neg (Bool.eq_false_iff.mp hlast)).mpr (henters h)
  refine ⟨fun hshadow => seg_confirms hs rfl rfl hop hrun hshadow, fun hshadow hlane hbias => ⟨fun hseg =>
    ⟨fun hwaits => seg_watches hs rfl rfl hop hrun hshadow hseg hwaits, fun hfree hquiet => ?enters, fun w hfree hbegins hfires => ?replaced⟩,
    fun w hseg => ?later⟩⟩
  case enters =>
    obtain ⟨e, hend, hturned, hobjs⟩ := Dev.segment_turns (d := d) hshadow hlane hbias hquiet
    exact ⟨_, seg_enters hs rfl rfl hop hrun hshadow hseg hfree hend hturned, henters (hturned.enters hshadow first),
      (Dev.local_segEnter first (hturned.shadow hshadow)).objs.trans hobjs⟩
  case replaced =>
    obtain ⟨e, hend, hdrill, hothers, hfaults⟩ := d.segmentEnd_diverts hshadow hlane hbias hbegins hfires
    have field {α : Type} (f : Drill → α) := congrArg f hdrill
    exact ⟨_, seg_replaced hs rfl rfl hop hrun hshadow hseg hfree ((if_pos hbegins).trans hend) hfaults, field Drill.pc,
      (field Drill.seg).trans hseg, field Drill.watch, field Drill.cursor, hothers, rfl⟩
  case later =>
    refine ⟨seg_holds hs rfl rfl hop hrun hshadow hseg, fun hpassed hdecided => ⟨fun v hevent hby => ?leaves, fun hpast hmore => ?repeats,
      fun hpast hforever hdone => ?ends⟩⟩
    case leaves =>
      obtain ⟨e, hexec, hturned, hjumps, hlatch⟩ :=
        seg_leaves hs rfl rfl hop hrun hshadow hseg rfl hlane hbias hpassed hdecided hevent hby
      have hnext := Dev.local_segNext w.entry (hturned.shadow hshadow)
      exact ⟨_, hexec, hfollows (hturned.follows hshadow w.entry), (Dev.val_congr hnext.objs _).trans hjumps,
        Dev.segNext_latch w.entry (hturned.shadow hshadow) hlatch⟩
    case repeats =>
      have hturned := d.turned_pastEnd l
      exact ⟨_, seg_repeats hs rfl rfl hop hrun hshadow hseg rfl hlane hbias hpassed hdecided hpast hmore, hplays (hturned.plays hshadow ..),
        (Dev.segPlay_confirmed (hturned.shadow hshadow) ..).1.objs⟩
    case ends =>
      obtain ⟨e, hexec, hturned, hquiet, hlate⟩ :=
        seg_ends hs rfl rfl hop hrun hshadow hseg rfl hlane hbias hpassed hdecided hpast hforever hdone
      have hnext := Dev.local_segNext w.entry (hturned.shadow hshadow)
      exact ⟨_, hexec, hfollows (hturned.follows hshadow w.entry), fun hafter => hnext.objs.trans (hquiet hafter),
        fun v hevent htick => (Dev.val_congr hnext.objs _).trans (hlate v hevent htick)⟩

end Sys2Proof.Machine
end
